-- ==== Sys2Proof/Word.lean ====
section
/-! DEFINITION. The word types of the Fendrath 624 and their plainest arithmetic. -/

namespace Sys2Proof

/-- A byte of a frame, a body or the image. -/
abbrev Byte := BitVec 8

/-- A value of the 32-bit microsecond hut clock (the manual's STAMP). -/
abbrev Stamp := BitVec 32

/-- A converter result, 0 to 4095 (R47). -/
abbrev Code := BitVec 12

/-- The interval from stamp `a` to the later stamp `b`, modulo 2^32 (Conventions, TIME). -/
def interval (a b : Stamp) : Nat := (b - a).toNat

/-- A count of 0 to 255 raised by `k`, saturating (Conventions, QUANTITIES). -/
def satAdd (n k : Nat) : Nat := min 255 (n + k)

end Sys2Proof
end

