-- ==== Sys2Proof/Config.lean ====
section
/-! DEFINITION. What the manual leaves open and the model does not choose: values with no body, so that
no proof can learn one. -/

namespace Sys2Proof

/-- R153: at the return to power NORMAL the POWER request and the STATE request "reach SNQ in either order".
The return that reads the `n`-th free value takes the STATE request first exactly when this is true (log entry 7). -/
opaque Config.stateBeforeRevived : Nat → Bool

/-- R37 step 1, R38: the clock pulses of the next load for which a memory still holds SDA low after a transaction that the load
timer abandoned, `none` for ever, where that is the `n`-th free value read (log entries 7 and 11). -/
opaque Config.sdaHoldAfterAbandon : Nat → Option Nat

end Sys2Proof
end

