-- ==== Sys2Proof/Syntax.lean ====
section
/-! DEFINITION. The commands of the Fendrath 624: one constructor of `Instr` per row of
spec/opcode_table.json, with the data the event of that row carries. -/

namespace Sys2Proof

/-- The two sides of a hut and its two line ports, LPW and LPE. -/
inductive Side where
  | west
  | east
deriving DecidableEq, Repr

/-- A symbol received on a line port (R2): correctly framed with its byte, or a symbol error. -/
inductive Symbol where
  | framed (b : Byte)
  | error
deriving DecidableEq, Repr

/-- The cause with which a receive assembly is SPOILED (R4). -/
inductive SpoilCause where
  | symbolError
  | badEscape
  | overlong
deriving DecidableEq, Repr

/-- The four frame kinds (R10). -/
inductive FrameKind where
  | state
  | notice
  | request
  | answer
deriving DecidableEq, Repr

/-- A RECEIVED FRAME as a port hands it to RLY (R4): arrival port, stored bytes, the cause if the assembly
was spoiled, and the stamp of the closing delimiter. -/
structure ReceivedFrame where
  side    : Side
  bytes   : List Byte
  spoiled : Option SpoilCause
  stamp   : Stamp
deriving DecidableEq, Repr

/-- A STATE or NOTICE frame as RLY delivers it to NBV (R17). -/
structure Delivery where
  side     : Side
  origin   : Byte
  hopsDone : Byte
  kind     : FrameKind
  stamp    : Stamp
  body     : List Byte
deriving DecidableEq, Repr

/-- What RLY hands RQH of a REQUEST beside its body (R18): the requester, the tag, and whether the target
was 63 (BROADCAST) or this station's number (INDIVIDUAL). -/
structure RequestHead where
  requester : Byte
  tag       : Byte
  broadcast : Bool
deriving DecidableEq, Repr

/-- The three places of the I2C transaction where an acknowledge is required (R37 steps 2, 3 and 4). -/
inductive I2cStage where
  | addressWrite
  | offset
  | addressRead
deriving DecidableEq, Repr

/-- R37, R38: at 100 kHz the load timer's 50 ms hold fewer than 5000 recovery pulses. A memory that holds SDA low for as many is one that
no load can free. -/
def sdaHoldLimit : Nat := 5000

/-- The commands, one per row of the table. `t` is the stamp of the event, carried by every event at which the
part may capture one (log entry 1). A request command carries its head and the bytes that follow the
request code in its body. -/
inductive Instr where
  /-- POWER_ON_RESET (R35): RSTN goes low, with the levels on POS5 to POS0. -/
  | powerOnReset (straps : BitVec 6)
  /-- RSTN_RELEASE (R36): RSTN goes high, with the strap levels then present and the number of clock pulses for
  which an interrupted memory will still hold SDA low (`none`: for ever). -/
  | rstnRelease (straps : BitVec 6) (sdaHold : Option Nat)
  /-- MILLISECOND_TICK (R1). -/
  | millisecondTick
  /-- SYMBOL_RECEIVED (R4); `t` is the stamp of the centre of the stop bit. -/
  | symbolReceived (side : Side) (sym : Symbol) (t : Stamp)
  /-- SIGNAL_DETECT_CHANGE (R7): LWSD or LESD takes `level`. -/
  | signalDetectChange (side : Side) (level : Bool) (t : Stamp)
  /-- SILENCE_EXPIRY (R7). -/
  | silenceExpiry (side : Side) (t : Stamp)
  /-- LINK_UP (R6). -/
  | linkUp (side : Side) (t : Stamp)
  /-- AGED_MARK (R9). -/
  | agedMark (side : Side) (t : Stamp)
  /-- RECEIVED_FRAME (R12). -/
  | receivedFrame (f : ReceivedFrame)
  /-- TRANSMIT_DONE (R31). -/
  | transmitDone (side : Side) (t : Stamp)
  /-- I2C_NACK (R38). -/
  | i2cNack (stage : I2cStage)
  /-- LOAD_TIMER_EXPIRY (R38). -/
  | loadTimerExpiry
  /-- IMAGE_READ_DONE (R39): the whole image, in order from offset 0. -/
  | imageReadDone (image : List Byte)
  /-- BLOCK_START (R51). -/
  | blockStart
  /-- TAP_SAMPLE (R50): a sample of AIN0 to AIN7; `t` is its stamp. -/
  | tapSample (channel : Fin 8) (code : Code) (t : Stamp)
  /-- BLOCK_END (R51): `t` is the block-end stamp. The manual leaves open whether PMN or TCR takes the event
  first (R80, R125); `pmnFirst` says which did. -/
  | blockEnd (pmnFirst : Bool) (t : Stamp)
  /-- SHARED_SLOT (R52): the code the conversion of slot 8 gives, and its stamp. -/
  | sharedSlot (code : Code) (t : Stamp)
  /-- PILOT_STEP (R83): the boundary at which one step ends and the next begins. -/
  | pilotStep
  /-- NEIGHBOUR_FRAME (R112). -/
  | neighbourFrame (d : Delivery) (t : Stamp)
  /-- STALE_EXPIRY (R117). -/
  | staleExpiry (side : Side)
  /-- WINDOW_EXPIRY (R132). -/
  | windowExpiry (path : Fin 4)
  /-- HOLD_OFF_EXPIRY (R136). -/
  | holdOffExpiry (path : Fin 4)
  /-- WATCH_EXPIRY (R70): of the watch that holds `lane`. -/
  | watchExpiry (lane : Fin 16)
  /-- TEST_EXPIRY (R94). -/
  | testExpiry
  /-- STATE_PERIOD_EXPIRY (R157). -/
  | statePeriodExpiry
  /-- HUT_LINE_CHANGE (R143): the pin of `line` takes `level`. -/
  | hutLineChange (line : Fin 12) (level : Bool) (t : Stamp)
  /-- EDGE_TIMER_EXPIRY (R147). -/
  | edgeTimerExpiry (line : Fin 12)
  /-- STALL_TIMER_EXPIRY (R149). -/
  | stallTimerExpiry (line : Fin 12)
  /-- UNKNOWN_REQUEST (R162): the whole body, empty or opening with a code that names no request. -/
  | unknownRequest (rq : RequestHead) (body : List Byte) (t : Stamp)
  /-- QUERY_PATH (R164). -/
  | queryPath (rq : RequestHead) (args : List Byte) (t : Stamp)
  /-- QUERY_SITE (R164). -/
  | querySite (rq : RequestHead) (args : List Byte) (t : Stamp)
  /-- QUERY_LANE (R82). -/
  | queryLane (rq : RequestHead) (args : List Byte) (t : Stamp)
  /-- QUERY_NEIGHBOUR (R122). -/
  | queryNeighbour (rq : RequestHead) (args : List Byte) (t : Stamp)
  /-- PROBE (R56). -/
  | probe (rq : RequestHead) (args : List Byte) (t : Stamp)
  /-- TONE_WATCH (R66). -/
  | toneWatch (rq : RequestHead) (args : List Byte) (t : Stamp)
  /-- TONE_DROP (R71). -/
  | toneDrop (rq : RequestHead) (args : List Byte) (t : Stamp)
  /-- GEN_CLAIM (R92). -/
  | genClaim (rq : RequestHead) (args : List Byte) (t : Stamp)
  /-- GEN_RELEASE (R93). -/
  | genRelease (rq : RequestHead) (args : List Byte) (t : Stamp)
  /-- LINES_SET (R146). -/
  | linesSet (rq : RequestHead) (args : List Byte) (t : Stamp)
  /-- LINES_CLEAR (R146). -/
  | linesClear (rq : RequestHead) (args : List Byte) (t : Stamp)
  /-- LINES_ACK (R145). -/
  | linesAck (rq : RequestHead) (args : List Byte) (t : Stamp)
  /-- RECHECK (R139). -/
  | recheck (rq : RequestHead) (args : List Byte) (t : Stamp)
  /-- RESTART_REQUEST (R167). -/
  | restartRequest (rq : RequestHead) (args : List Byte) (t : Stamp)
  /-- GRANT_AT_SYMBOL_BOUNDARY (R31). -/
  | grantAtSymbolBoundary (side : Side) (t : Stamp)
deriving DecidableEq, Repr

end Sys2Proof
end

