-- ==== Sys2Proof/Decode.lean ====
section
/-! DEFINITION. The command that a table word spells. -/

namespace Sys2Proof

/-- spec/opcode_table.json gives no row any bits (every row's "fields" is empty and none has "fixed"), so no word spells a
command. -/
def decodeTableWord (_nbits _w : Nat) : Option Instr := none

end Sys2Proof
end

