-- ==== Sys2Proof/Machine/State.lean ====
section
/-! DEFINITION. The state of the Fendrath 624: every piece of state the manual gives the part, block by block,
as plain data, and the state while RSTN is low after power-on. -/

namespace Sys2Proof.Machine
open Sys2Proof

/-! ### Frames -/

/-- A frame of the route line (R10), without its check, which R11 computes from the rest. -/
structure Frame where
  kind     : FrameKind
  origin   : Byte
  target   : Byte
  hopsLeft : Byte
  hopsDone : Byte
  stamp    : Stamp
  tag      : Byte
  body     : List Byte
deriving DecidableEq, Repr

/-! ### CLK (R1) and the pins the part reads -/

/-- CLK: the hut clock, and the microseconds counted since the millisecond tick before (R1): at most 1000, at which the next tick's
moment has come and the tick is still to be taken (log entry 1). -/
structure Clk where
  hut       : Stamp
  sinceTick : Nat
deriving DecidableEq, Repr

/-- The levels on the input pins. They belong to the world outside; events move them. -/
structure Pins where
  rstn    : Bool
  lwsd    : Bool
  lesd    : Bool
  lines   : Vector Bool 12
  /-- Clock pulses for which the memory still holds SDA low at the next load (R37 step 1); `none`: for ever. -/
  sdaHold : Option Nat
deriving DecidableEq, Repr

/-! ### LPW and LPE (R2 to R9, R20, R32) -/

/-- The link state of a line port (R5 to R7). -/
inductive LinkState where
  | down
  | settling
  | up
deriving DecidableEq, Repr

/-- The receive assembly of a port (R4). -/
structure Assembly where
  bytes   : List Byte
  count   : Nat
  esc     : Bool
  spoiled : Option SpoilCause
deriving DecidableEq, Repr

/-- The two sources of a port's arbiter, and the values of its last-served marker (R32). -/
inductive Source where
  | forward
  | locally
deriving DecidableEq, Repr

/-- A line port: link record (R9), receive assembly, forward queue (R20), last-served marker (R32) and the frame
its transmitter holds (R34), `none` while it is FREE. -/
structure Port where
  link        : LinkState
  lastUp      : Option Stamp
  lastDown    : Option Stamp
  settleStart : Option Stamp
  lastGood    : Option Stamp
  aged        : Bool
  assembly    : Assembly
  fwd         : List Frame
  marker      : Source
  tx          : Option Frame
deriving DecidableEq, Repr

/-! ### RLY (R14) -/

/-- RLY: its three saturating counters, and the received frames that the ports have handed it and no
RECEIVED_FRAME has taken (the model's own field: log entry 4). -/
structure Rly where
  relayDrops : Nat
  malformed  : Nat
  ownOrigin  : Nat
  arrivals   : List ReceivedFrame
deriving DecidableEq, Repr

/-! ### SNQ (R23) -/

/-- The nine notice subjects. -/
inductive Subject where
  | path (p : Fin 4)
  | power
  | climate
  | lines
  | tone
  | test
deriving DecidableEq, Repr

/-- What an entry of the send queue stands for: its kind with its subject, or its answer slot and the frame
fixed for it (R23). -/
inductive Item where
  | state
  | notice (subject : Subject)
  | answer (slot : Fin 6) (frame : Frame)
deriving DecidableEq, Repr

/-- An entry of the send queue: its item, its two port marks and its prompted mark (R23). -/
structure Entry where
  item     : Item
  west     : Bool
  east     : Bool
  prompted : Bool
deriving DecidableEq, Repr

/-! ### CFL (R35, R36, R40) -/

/-- The start phase (R36). -/
inductive Phase where
  | loading
  | running
  | repeaterOnly
deriving DecidableEq, Repr

/-- The start outcome (R36). -/
inductive StartOutcome where
  | loaded
  | defaulted
deriving DecidableEq, Repr

/-- The start reason (R36). -/
inductive StartReason where
  | none
  | noMemory
  | badCheck
  | badField
deriving DecidableEq, Repr

/-- The kind of a path. -/
inductive PathKind where
  | span
  | localPath
  | unused
deriving DecidableEq, Repr

/-- The function of a hut line (R143). -/
inductive LineFn where
  | inp
  | out
  | fan
  | tacho
  | powerGood
  | alarm
deriving DecidableEq, Repr

/-- The trigger of an IN line (R144). -/
inductive Trigger where
  | none
  | high
  | low
  | rise
  | fall
  | both
deriving DecidableEq, Repr

/-- The settings of one path (R40). -/
structure PathSettings where
  kind           : PathKind
  upstream       : Fin 4
  loss           : Nat
  restoreMargin  : Nat
  degrade        : Nat
  overload       : Nat
  lossRunLength  : Nat
  outputLow      : Nat
  biasLimit      : Nat
  toneOn         : Nat
  toneOff        : Nat
deriving DecidableEq, Repr

/-- The settings of one hut line (R40). -/
structure LineSettings where
  fn        : LineFn
  trigger   : Trigger
  report    : Bool
  startHigh : Bool
  paired    : Option (Fin 12)
deriving DecidableEq, Repr

/-- The active settings (R40), in the units of the table of R40. -/
structure Settings where
  west           : Nat
  east           : Nat
  reach          : Nat
  statePeriod    : Nat
  staleTime      : Nat
  window         : Nat
  holdOff        : Nat
  foreignConfirm : Nat
  poolOn         : Nat
  poolOff        : Nat
  hotLimit       : Nat
  hotHysteresis  : Nat
  dyingLevel     : Nat
  reviveLevel    : Nat
  filterLimit    : Nat
  siteMargin     : Nat
  paths          : Vector PathSettings 4
  lines          : Vector LineSettings 12
deriving DecidableEq, Repr

/-- A timer paced by the millisecond tick: stopped, running with the milliseconds left, or `due`, the tick on which
it runs out having come and its expiry not yet taken (log entry 2). -/
inductive Countdown where
  | stopped
  | running (ms : Nat)
  | due
deriving DecidableEq, Repr

/-- What CFL is doing on the I2C port (R37). -/
inductive I2cPhase where
  | idle
  | recovering
  | reading
deriving DecidableEq, Repr

/-- How the last transaction on the I2C port ended: with a STOP (R37, R38), or abandoned at RSTN low (R45). -/
inductive I2cEnd where
  | stop
  | abandoned
deriving DecidableEq, Repr

/-- The I2C port: phase, recovery pulses sent in this load, the microseconds since the last of them while recovering, and the end of
the last transaction. -/
structure I2c where
  phase      : I2cPhase
  pulses     : Nat
  sincePulse : Nat
  ended      : Option I2cEnd
deriving DecidableEq, Repr

/-- CFL: strap value (R35), start phase, outcome and reason, active settings (`none` until the first load ends),
load timer and I2C port (R36 to R38). -/
structure Cfl where
  strap     : BitVec 6
  phase     : Phase
  outcome   : Option StartOutcome
  reason    : Option StartReason
  settings  : Option Settings
  loadTimer : Countdown
  i2c       : I2c
deriving DecidableEq, Repr

/-! ### SMP (R47 to R60) -/

/-- A waiting probe: the channel AIN0 to AIN17 and the answer slot (R56). -/
structure Probe where
  channel : Fin 18
  slot    : Fin 6
deriving DecidableEq, Repr

/-- Where SMP stands among the blocks (R51): its next block start is due, a block is in progress, or the block's end is due, its cycle
1023 being complete. -/
inductive BlockPhase where
  | startDue
  | inProgress
  | endDue
deriving DecidableEq, Repr

/-- SMP. `cycle` and `slot` are the scan cycle and the slot of it that SMP converts next (R49). The slow channel with index i is
AIN(8 + i). -/
structure Smp where
  scanning : Bool
  block    : BlockPhase
  cycle    : Nat
  slot     : Fin 9
  slowPtr  : Fin 10
  slowSum  : Vector Nat 10
  slowCnt  : Vector Nat 10
  readings : Vector (Option Nat) 10
  probes   : List Probe
deriving DecidableEq, Repr

/-! ### TCR (R62) -/

/-- The state of a lane (R63). -/
inductive LaneState where
  | parked
  | free
  | starting
  | running
deriving DecidableEq, Repr

/-- The owner of a lane (R62). -/
inductive LaneOwner where
  | path
  | station (n : Byte)
  | absent
deriving DecidableEq, Repr

/-- The combine mode of a pair (R79). -/
inductive Combine where
  | and
  | or
  | xor
deriving DecidableEq, Repr

/-- A remaining time in seconds with its tick count (R62, R90); `due` as in `Countdown`. -/
structure WatchTime where
  secs : Nat
  tick : Nat
  due  : Bool
deriving DecidableEq, Repr

/-- A lane record (R62). `combined` is the pair's combined result, held with the even lane (R79). -/
structure Lane where
  state     : LaneState
  owner     : LaneOwner
  channel   : Fin 8
  bin       : Option Nat
  phase     : Nat
  x         : Int
  y         : Int
  on        : Nat
  off       : Nat
  present   : Bool
  lastPower : Option Nat
  limit     : Bool
  partner   : Option (Fin 16)
  combine   : Option Combine
  remaining : Option WatchTime
  combined  : Bool
deriving DecidableEq, Repr

/-! ### PLG (R84) and TTG (R90) -/

/-- A pilot mode (R84). -/
inductive PilotMode where
  | normal
  | fill
deriving DecidableEq, Repr

/-- A pilot oscillator (R84). `inStep` says that the tone is part of the step in progress (log entry 6). -/
structure Osc where
  on     : Bool
  mode   : PilotMode
  phase  : Nat
  lossIn : Bool
  fillIn : Bool
  inStep : Bool
deriving DecidableEq, Repr

/-- PLG: the four oscillators, and the count of 64 that each pilot output carries in the step in progress (R83). -/
structure Plg where
  osc   : Vector Osc 4
  count : Vector Nat 4
deriving DecidableEq, Repr

/-- TTG: the test record (R90). `inStep` as in `Osc`. -/
structure Ttg where
  held   : Bool
  holder : Option Byte
  path   : Option (Fin 4)
  bin    : Option Nat
  time   : WatchTime
  phase  : Nat
  inStep : Bool
deriving DecidableEq, Repr

/-! ### PMN (R97) -/

/-- The input state of a path (R97). -/
inductive InputState where
  | unknown
  | ok
  | low
  | high
  | loss
deriving DecidableEq, Repr

/-- A path record (R97). -/
structure PathRec where
  input       : InputState
  lossRun     : Nat
  lossStamp   : Option Stamp
  lossAtStart : Bool
  inSum       : Nat
  outSum      : Nat
  inMean      : Option Nat
  outMean     : Option Nat
  outputLow   : Bool
  biasHigh    : Bool
deriving DecidableEq, Repr

/-! ### VDE (R123) -/

/-- A verdict (R123). -/
inductive Verdict where
  | pending
  | clear
  | sympathetic
  | foreignLight
  | watch
  | spanFault
  | upstreamTx
  | upstreamPower
  | unresolved
  | restoring
  | notApplicable
deriving DecidableEq, Repr

/-- The evidence of a verdict (R123). -/
inductive Evidence where
  | none
  | lineCut
  | promptedClear
  | txLow
  | dying
  | timeout
deriving DecidableEq, Repr

/-- A verdict record (R123). -/
structure VerdictRec where
  verdict    : Verdict
  evidence   : Evidence
  late       : Bool
  cause      : Option Verdict
  lossStamp  : Option Stamp
  watchStart : Option Stamp
  window     : Countdown
  holdOff    : Countdown
  toneAbsent : Nat
  flaps      : Nat
deriving DecidableEq, Repr

/-! ### NBV (R111) -/

/-- A path summary (R111); a field is absent until a frame has supplied it. -/
structure Summary where
  kind      : Option PathKind
  input     : Option InputState
  outputLow : Option Bool
  pilot     : Option PilotMode
  verdict   : Option Verdict
deriving DecidableEq, Repr

/-- A neighbour record (R111). -/
structure NbRec where
  station    : Nat
  heard      : Bool
  lastHeard  : Option Stamp
  stale      : Bool
  staleTimer : Countdown
  cutOff     : Bool
  mismatch   : Bool
  dying      : Bool
  summaries  : Vector Summary 4
deriving DecidableEq, Repr

/-- NBV: the two records, and the frames RLY has delivered and no NEIGHBOUR_FRAME has taken (log entry 4). -/
structure Nbv where
  west       : NbRec
  east       : NbRec
  deliveries : List Delivery
deriving DecidableEq, Repr

/-! ### STU (R143, R152, R154) -/

/-- A line record (R143). A level is `true` for HIGH. -/
structure LineRec where
  fn         : LineFn
  level      : Bool
  trigger    : Trigger
  report     : Bool
  flag       : Bool
  requested  : Bool
  period     : Nat
  lastEdge   : Option Stamp
  edgeTimer  : Countdown
  paired     : Option (Fin 12)
  stallTimer : Countdown
  fanStall   : Bool
deriving DecidableEq, Repr

/-- STU: the line table, the climate flags, the power state (`dying` for DYING), the contributions last handed and
the owned-alarm total (R154). -/
structure Stu where
  lines     : Vector LineRec 12
  hot       : Bool
  filter    : Bool
  dying     : Bool
  vdeAlarms : Nat
  pmnAlarms : Nat
  climate   : Nat
  total     : Nat
deriving DecidableEq, Repr

/-! ### RQH (R161) -/

/-- The state of an answer slot (R161). -/
inductive SlotState where
  | free
  | waiting
  | ready
deriving DecidableEq, Repr

/-- An answer slot (R161). -/
structure Slot where
  state     : SlotState
  requester : Byte
  tag       : Byte
  request   : Option Byte
  broadcast : Bool
deriving DecidableEq, Repr

/-- A REQUEST as RLY delivers it to RQH (R18). -/
structure ReqDelivery where
  head : RequestHead
  body : List Byte
deriving DecidableEq, Repr

/-- RQH: the answer slots, the requests-dropped counter, the restart pending flag with the slot that set it (R168; `none`:
clear), and the requests RLY has delivered and no request command has taken (log entry 4). -/
structure Rqh where
  slots          : Vector Slot 6
  dropped        : Nat
  restartPending : Option (Fin 6)
  deliveries     : List ReqDelivery
deriving DecidableEq, Repr

/-! ### The whole part -/

/-- The state of the part. `stateTimer` is RPB's STATE period timer (R157). `choices` counts the free values read
(log entry 7). `pending` is the queue of commands that wait, first in, first out. -/
structure State where
  clk        : Clk
  pins       : Pins
  west       : Port
  east       : Port
  rly        : Rly
  snq        : List Entry
  smp        : Smp
  tcr        : Vector Lane 16
  plg        : Plg
  ttg        : Ttg
  pmn        : Vector PathRec 4
  nbv        : Nbv
  vde        : Vector VerdictRec 4
  stu        : Stu
  stateTimer : Countdown
  rqh        : Rqh
  cfl        : Cfl
  choices    : Nat
  pending    : List Instr
deriving DecidableEq, Repr

/-- Why a step stops with a fault. The manual gives the part no fault: no event stops it, so there is none. -/
inductive Fault : Type
deriving DecidableEq, Repr

/-- Why a command has no meaning. -/
inductive Refusal where
  /-- Raised by an arm of `exec` for a command with no meaning yet (safe); no arm raises it. -/
  | notModelled (mnemonic : String)
deriving DecidableEq, Repr

/-! ### Values after power-on reset -/

/-- An empty receive assembly (R4). -/
def Assembly.empty : Assembly := { bytes := [], count := 0, esc := false, spoiled := none }

/-- R9, R20, R30, R32: a port after power-on reset. -/
def Port.reset : Port :=
  { link := .down, lastUp := none, lastDown := none, settleStart := none, lastGood := none, aged := false,
    assembly := .empty, fwd := [], marker := .locally, tx := none }

/-- R14: RLY after power-on reset. -/
def Rly.reset : Rly := { relayDrops := 0, malformed := 0, ownOrigin := 0, arrivals := [] }

/-- R60: SMP after power-on reset and after a restart. -/
def Smp.reset : Smp :=
  { scanning := false, block := .startDue, cycle := 0, slot := 0, slowPtr := 0, slowSum := .replicate 10 0,
    slowCnt := .replicate 10 0, readings := .replicate 10 none, probes := [] }

/-- R64: the channel of lane i, AINp for lanes 2p and 2p + 1, and AIN0 for a pool lane. -/
def Lane.resetChannel (i : Fin 16) : Fin 8 := if i.val < 8 then ⟨i.val / 2, by omega⟩ else 0

/-- R64: lane i after power-on reset and after a restart. The thresholds are unused until the load ends and stand
at 0 (log entry 9). -/
def Lane.reset (i : Fin 16) : Lane :=
  { state := if i.val < 8 then .parked else .free, owner := if i.val < 8 then .path else .absent,
    channel := Lane.resetChannel i, bin := none, phase := 0, x := 0, y := 0, on := 0, off := 0, present := false,
    lastPower := none, limit := false, partner := none, combine := none, remaining := none, combined := false }

/-- R64: the lane table after power-on reset and after a restart. -/
def lanesReset : Vector Lane 16 := .ofFn Lane.reset

/-- R89: a pilot oscillator after power-on reset and after a restart. -/
def Osc.reset : Osc := { on := false, mode := .normal, phase := 0, lossIn := false, fillIn := false, inStep := false }

/-- R89: PLG while RSTN is low: every oscillator off and every output held low. -/
def Plg.reset : Plg := { osc := .replicate 4 .reset, count := .replicate 4 0 }

/-- A remaining time of 0. -/
def WatchTime.zero : WatchTime := { secs := 0, tick := 0, due := false }

/-- R90: the test record FREE. -/
def Ttg.free : Ttg := { held := false, holder := none, path := none, bin := none, time := .zero, phase := 0, inStep := false }

/-- R110: a path record after power-on reset and after a restart. -/
def PathRec.reset : PathRec :=
  { input := .unknown, lossRun := 0, lossStamp := none, lossAtStart := false, inSum := 0, outSum := 0, inMean := none,
    outMean := none, outputLow := false, biasHigh := false }

/-- R123: a verdict record after power-on reset and after a restart. -/
def VerdictRec.reset : VerdictRec :=
  { verdict := .pending, evidence := .none, late := false, cause := none, lossStamp := none, watchStart := none,
    window := .stopped, holdOff := .stopped, toneAbsent := 0, flaps := 0 }

/-- R111: a path summary with every field absent. -/
def Summary.absent : Summary := { kind := none, input := none, outputLow := none, pilot := none, verdict := none }

/-- R122: a neighbour record after a reset, with the CUT_OFF mark its port gives it. -/
def NbRec.reset (cutOff : Bool) : NbRec :=
  { station := 0, heard := false, lastHeard := none, stale := false, staleTimer := .stopped, cutOff := cutOff,
    mismatch := false, dying := false, summaries := .replicate 4 .absent }

/-- R156: a line record after power-on reset and after a restart: an undriven input whose level is not taken
(log entry 9). -/
def LineRec.reset : LineRec :=
  { fn := .inp, level := false, trigger := .none, report := false, flag := false, requested := false, period := 0,
    lastEdge := none, edgeTimer := .stopped, paired := none, stallTimer := .stopped, fanStall := false }

/-- R156: STU after power-on reset and after a restart. -/
def Stu.reset : Stu :=
  { lines := .replicate 12 .reset, hot := false, filter := false, dying := false, vdeAlarms := 0, pmnAlarms := 0,
    climate := 0, total := 0 }

/-- R161, R169: a FREE slot; what it recorded of its last request stands at 0 after a reset (log entry 9). -/
def Slot.reset : Slot := { state := .free, requester := 0, tag := 0, request := none, broadcast := false }

/-- R169: RQH after power-on reset. -/
def Rqh.reset : Rqh := { slots := .replicate 6 .reset, dropped := 0, restartPending := none, deliveries := [] }

/-- R36, R37: CFL while RSTN is low, with the strap levels sampled. -/
def Cfl.reset (straps : BitVec 6) (ended : Option I2cEnd) : Cfl :=
  { strap := straps, phase := .loading, outcome := none, reason := none, settings := none, loadTimer := .stopped,
    i2c := { phase := .idle, pulses := 0, sincePulse := 0, ended := ended } }

/-- The part held in power-on reset, with the given levels outside, free values read (log entry 7) and commands waiting. -/
def State.held (pins : Pins) (straps : BitVec 6) (ended : Option I2cEnd) (choices : Nat) (pending : List Instr) : State :=
  { clk := { hut := 0, sinceTick := 0 }, pins := { pins with rstn := false }, west := .reset, east := .reset, rly := .reset,
    snq := [], smp := .reset, tcr := lanesReset, plg := .reset, ttg := .free, pmn := .replicate 4 .reset,
    nbv := { west := .reset true, east := .reset true, deliveries := [] }, vde := .replicate 4 .reset, stu := .reset,
    stateTimer := .stopped, rqh := .reset, cfl := .reset straps ended, choices := choices, pending := pending }

/-- The pins at power-on: no light on either line fibre, every hut line LOW, no memory holding SDA, straps 0
(log entry 9: the levels outside are not the part's). -/
def Pins.initial : Pins := { rstn := false, lwsd := false, lesd := false, lines := .replicate 12 false, sdaHold := some 0 }

/-- The machine after power-on reset: RSTN is low, nothing has happened, no command waits. -/
def State.reset : State := .held .initial 0 none 0 []

end Sys2Proof.Machine
end

