-- ==== Sys2Proof/Machine/Codes.lean ====
section
/-! DEFINITION. The codes of the enumerated fields (R170), the request codes, and the answer statuses. -/

namespace Sys2Proof.Machine
open Sys2Proof

/-- R170, kind. -/
def frameKindCode : FrameKind → Byte
  | .state => 1
  | .notice => 2
  | .request => 3
  | .answer => 4

/-- R170, kind; R12 discards a frame whose kind byte names none. -/
def frameKindOfCode (b : Byte) : Option FrameKind :=
  if b = 1 then some .state else if b = 2 then some .notice else if b = 3 then some .request
  else if b = 4 then some .answer else none

/-- R170, path kind. -/
def PathKind.code : PathKind → Nat
  | .span => 0
  | .localPath => 1
  | .unused => 2

/-- R170, path kind. -/
def PathKind.ofCode : Nat → Option PathKind
  | 0 => some .span
  | 1 => some .localPath
  | 2 => some .unused
  | _ => none

/-- R170, input state. -/
def InputState.code : InputState → Nat
  | .unknown => 0
  | .ok => 1
  | .low => 2
  | .high => 3
  | .loss => 4

/-- R170, input state. -/
def InputState.ofCode : Nat → Option InputState
  | 0 => some .unknown
  | 1 => some .ok
  | 2 => some .low
  | 3 => some .high
  | 4 => some .loss
  | _ => none

/-- R170, verdict. -/
def Verdict.code : Verdict → Nat
  | .pending => 0
  | .clear => 1
  | .sympathetic => 2
  | .foreignLight => 3
  | .watch => 4
  | .spanFault => 5
  | .upstreamTx => 6
  | .upstreamPower => 7
  | .unresolved => 8
  | .restoring => 9
  | .notApplicable => 10

/-- R170, verdict. -/
def Verdict.ofCode : Nat → Option Verdict
  | 0 => some .pending
  | 1 => some .clear
  | 2 => some .sympathetic
  | 3 => some .foreignLight
  | 4 => some .watch
  | 5 => some .spanFault
  | 6 => some .upstreamTx
  | 7 => some .upstreamPower
  | 8 => some .unresolved
  | 9 => some .restoring
  | 10 => some .notApplicable
  | _ => none

/-- The owner of a verdict (R124). -/
inductive Owner where
  | nobody
  | own
  | upstream
deriving DecidableEq, Repr

/-- R170, owner. -/
def Owner.code : Owner → Nat
  | .nobody => 0
  | .own => 1
  | .upstream => 2

/-- R170, evidence. -/
def Evidence.code : Evidence → Nat
  | .none => 0
  | .lineCut => 1
  | .promptedClear => 2
  | .txLow => 3
  | .dying => 4
  | .timeout => 5

/-- R170, link state. -/
def LinkState.code : LinkState → Nat
  | .down => 0
  | .settling => 1
  | .up => 2

/-- R170, start outcome. The STATE body is sent in RUNNING alone, where the outcome is never absent (R36). -/
def outcomeCode : Option StartOutcome → Nat
  | some .loaded => 0
  | some .defaulted => 1
  | none => 0

/-- R170, start reason. -/
def reasonCode : Option StartReason → Nat
  | some .none => 0
  | some .noMemory => 1
  | some .badCheck => 2
  | some .badField => 3
  | none => 0

/-- R170, subject. -/
def Subject.code : Subject → Nat
  | .path p => p.val
  | .power => 4
  | .climate => 5
  | .lines => 6
  | .tone => 7
  | .test => 8

/-- R170, lane state. -/
def LaneState.code : LaneState → Nat
  | .parked => 0
  | .free => 1
  | .starting => 2
  | .running => 3

/-- R170: the owner byte of a QUERY_LANE answer (12.4). -/
def LaneOwner.code : LaneOwner → Byte
  | .path => 0xFE
  | .station n => n
  | .absent => 0xFF

/-- R170, combine. -/
def Combine.code : Combine → Nat
  | .and => 0
  | .or => 1
  | .xor => 2

/-- R170, combine. -/
def Combine.ofCode : Nat → Option Combine
  | 0 => some .and
  | 1 => some .or
  | 2 => some .xor
  | _ => none

/-- R170: a pilot mode is a one-bit field, 1 for FILL. -/
def PilotMode.isFill : PilotMode → Bool
  | .normal => false
  | .fill => true

/-- R170: a pilot mode is a one-bit field, 1 for FILL. -/
def PilotMode.ofBit (b : Bool) : PilotMode := if b then .fill else .normal

/-- R171, line function. -/
def LineFn.ofCode : Nat → Option LineFn
  | 0 => some .inp
  | 1 => some .out
  | 2 => some .fan
  | 3 => some .tacho
  | 4 => some .powerGood
  | 5 => some .alarm
  | _ => none

/-- R171, line function. -/
def LineFn.code : LineFn → Nat
  | .inp => 0
  | .out => 1
  | .fan => 2
  | .tacho => 3
  | .powerGood => 4
  | .alarm => 5

/-- R171, trigger. -/
def Trigger.ofCode : Nat → Option Trigger
  | 0 => some .none
  | 1 => some .high
  | 2 => some .low
  | 3 => some .rise
  | 4 => some .fall
  | 5 => some .both
  | _ => none

/-- R171, trigger. -/
def Trigger.code : Trigger → Nat
  | .none => 0
  | .high => 1
  | .low => 2
  | .rise => 3
  | .fall => 4
  | .both => 5

/-- The statuses of an ANSWER (R165, R170). -/
inductive Status where
  | ok
  | held
  | badArgument
  | busy
  | noLane
  | notOwner
  | notHeld
  | notApplicable
  | notReady
  | unknownRequest
deriving DecidableEq, Repr

/-- R170, status. -/
def Status.code : Status → Nat
  | .ok => 0
  | .held => 1
  | .badArgument => 2
  | .busy => 3
  | .noLane => 4
  | .notOwner => 5
  | .notHeld => 6
  | .notApplicable => 7
  | .notReady => 8
  | .unknownRequest => 9

/-- R170: the request codes, QUERY_PATH 16 to QUERY_NEIGHBOUR 29. -/
def isRequestCode (b : Byte) : Bool := 16 ≤ b.toNat && b.toNat ≤ 29

end Sys2Proof.Machine
end

