-- ==== Sys2Proof/Machine/Flags.lean ====
section
/-! DEFINITION. The judgements of the part: every flag, input state, presence and verdict group that the manual decides
by comparison. A bound written `limit − margin` in the manual is compared here as `value + margin` against `limit`, which
is the same comparison where the difference falls below 0 (R97, R105, R148, R150). -/

namespace Sys2Proof.Machine
open Sys2Proof

/-! ### TCR (R77 to R79) -/

/-- R77: an accumulator divided by 65,536, rounded down. -/
def scaled (v : Int) : Int := v / 65536

/-- R77: a scaled value limited to −32,768 to 32,767. -/
def limited (v : Int) : Int := max (-32768) (min 32767 v)

/-- R77: whether limiting changes the scaled value. -/
def isLimited (v : Int) : Bool := limited v != v

/-- R78: the tone power of the accumulators X and Y. -/
def tonePower (x y : Int) : Nat :=
  (limited (scaled x) * limited (scaled x) + limited (scaled y) * limited (scaled y)).toNat

/-- R78: presence after an evaluation, with hysteresis. -/
def presentAfter (before : Bool) (pt on off : Nat) : Bool := if before then off * 1024 ≤ pt else on * 1024 ≤ pt

/-- R79: the combined result of a pair. -/
def Combine.result : Combine → Bool → Bool → Bool
  | .and, a, b => a && b
  | .or, a, b => a || b
  | .xor, a, b => a != b

/-! ### PMN (R101 to R105) -/

/-- R101, R103: the light states as a mean gives them outside any hysteresis. -/
def lightState (c : PathSettings) (m : Nat) : InputState :=
  if c.overload ≤ m then .high else if m < c.degrade then .low else .ok

/-- R101: the input state that the first block end gives from UNKNOWN. -/
def firstState (c : PathSettings) (m : Nat) : InputState := if m < c.loss then .loss else lightState c m

/-- R102: the input state that a block end gives from OK, LOW or HIGH; the other states are not judged by it. -/
def heldState (c : PathSettings) (st : InputState) (m : Nat) : InputState :=
  match st with
  | .ok => lightState c m
  | .low => if c.overload ≤ m then .high else if c.degrade + c.restoreMargin ≤ m then .ok else .low
  | .high => if c.overload ≤ m + c.restoreMargin then .high else if m < c.degrade then .low else .ok
  | .unknown => .unknown
  | .loss => .loss

/-- R103: whether a block end restores a path in LOSS. -/
def restores (c : PathSettings) (lossAtStart : Bool) (lossRun m : Nat) : Bool :=
  lossAtStart && lossRun < c.lossRunLength && c.loss + c.restoreMargin ≤ m

/-- R104: output-low after a block end with output mean n. -/
def outputLowAfter (c : PathSettings) (before : Bool) (n : Nat) : Bool :=
  if before then n < c.outputLow + c.restoreMargin else n < c.outputLow

/-- R105: bias-high after a reading. -/
def biasHighAfter (biasLimit siteMargin : Nat) (before : Bool) (reading : Nat) : Bool :=
  if before then biasLimit < reading + siteMargin else biasLimit < reading

/-! ### STU (R144, R148, R150) -/

/-- R144: whether a change of level meets a trigger. -/
def Trigger.metBy (tr : Trigger) (before after : Bool) : Bool :=
  match tr with
  | .none => false
  | .high => !before && after
  | .low => before && !after
  | .rise => !before && after
  | .fall => before && !after
  | .both => before != after

/-- R144, R145: whether a standing level holds a HIGH or LOW trigger. -/
def Trigger.heldBy (tr : Trigger) (level : Bool) : Bool :=
  match tr with
  | .high => level
  | .low => !level
  | _ => false

/-- R148: HOT after a cabinet temperature reading. -/
def hotAfter (limit hysteresis : Nat) (before : Bool) (reading : Nat) : Bool :=
  if before then limit < reading + hysteresis else limit ≤ reading

/-- R150: FILTER after a filter pressure reading. -/
def filterAfter (limit margin : Nat) (before : Bool) (reading : Nat) : Bool :=
  if before then limit ≤ reading + margin else limit ≤ reading

/-! ### VDE (R123, R124, R129) -/

/-- R123: the light verdicts. -/
def Verdict.isLight : Verdict → Bool
  | .pending | .clear | .sympathetic | .foreignLight => true
  | _ => false

/-- R123: the resolved loss verdicts. -/
def Verdict.isResolvedLoss : Verdict → Bool
  | .spanFault | .upstreamTx | .upstreamPower | .unresolved => true
  | _ => false

/-- R123: the loss verdicts. -/
def Verdict.isLoss (v : Verdict) : Bool := v = .watch || v.isResolvedLoss

/-- R124: the owner of a verdict. -/
def Verdict.owner : Verdict → Owner
  | .spanFault | .foreignLight | .unresolved => .own
  | .upstreamTx | .upstreamPower | .sympathetic => .upstream
  | .pending | .clear | .watch | .restoring | .notApplicable => .nobody

/-- R129: whether the last down stamp d lies within a window of the loss stamp s, either way round. -/
def withinWindow (windowUs : Nat) (d s : Stamp) : Bool := interval d s ≤ windowUs || interval s d ≤ windowUs

/-! ### Pilots (R61, R83) -/

/-- R61: the normal bin of station s. -/
def normalBin (s : Nat) : Nat := 64 + 6 * (s - 1)

/-- R61: the fill bin of station s. -/
def fillBin (s : Nat) : Nat := normalBin s + 3

/-- R61: the pilot plan: the bins from 64 to 421 that leave remainder 1 on division by 3. -/
def inPilotPlan (bin : Nat) : Bool := 64 ≤ bin && bin ≤ 421 && bin % 3 = 1

/-- R83: a over b rounded to the nearest integer, a value exactly halfway away from zero. -/
def roundNearest (a : Int) (b : Nat) : Int :=
  let n := (2 * a.natAbs + b) / (2 * b)
  if a < 0 then - (n : Int) else n

/-- R83: whether pulse period k of a step with count n is high. -/
def pulseHigh (n k : Nat) : Bool := (k + 1) * n / 64 != k * n / 64

end Sys2Proof.Machine
end

