-- ==== Sys2Proof/Machine/Frames.lean ====
section
/-! DEFINITION. Symbols, escaping, the receive assembly, the check, and the layout of a frame's header (Chapters 1
and 12). -/

namespace Sys2Proof.Machine
open Sys2Proof

/-! ### Symbols (R2) -/

/-- R2: the ten bit times of the symbol that carries byte `b`: start bit low, eight data bits LSB first, stop bit high. -/
def symbolBits (b : Byte) : List Bool := false :: (List.ofFn fun i : Fin 8 => b.getLsbD i.val) ++ [true]

/-- R2: what a port makes of ten sampled levels: a correctly framed symbol, a symbol error when the stop bit is low. R2
names no symbol whose start bit is high at its centre; the model makes none of it (log entry 23). -/
def readSymbol : List Bool → Option Symbol
  | [start, d0, d1, d2, d3, d4, d5, d6, d7, stop] =>
    if start then none
    else if stop then
      some (.framed (BitVec.ofNat 8
        (d0.toNat + 2 * d1.toNat + 4 * d2.toNat + 8 * d3.toNat + 16 * d4.toNat + 32 * d5.toNat + 64 * d6.toNat + 128 * d7.toNat)))
    else some .error
  | _ => none

/-! ### Escaping (R3) -/

/-- The delimiter byte. -/
def delimiter : Byte := 0xD3

/-- The byte that opens an escape. -/
def escapeByte : Byte := 0xD9

/-- R3: how the transmitter sends one byte of a frame. -/
def escape (b : Byte) : List Byte := if b = delimiter ∨ b = escapeByte then [escapeByte, b ^^^ 0x20] else [b]

/-- R3: the bytes sent for a frame's bytes: each escaped, then the closing delimiter. -/
def sentBytes (bs : List Byte) : List Byte := bs.flatMap escape ++ [delimiter]

/-! ### The receive assembly (R4) -/

/-- R4: the assembly spoiled with `c`, unless it already has a cause. -/
def Assembly.spoil (a : Assembly) (c : SpoilCause) : Assembly :=
  { a with spoiled := match a.spoiled with | none => some c | some first => some first }

/-- R4: byte `b` stored, unless the assembly is spoiled; a 54th byte is not stored and spoils it. -/
def Assembly.store (a : Assembly) (b : Byte) : Assembly :=
  if a.spoiled.isSome then a
  else if 53 ≤ a.bytes.length then a.spoil .overlong
  else { a with bytes := a.bytes ++ [b] }

/-- R4, the table of received symbols, for every symbol but a delimiter. -/
def Assembly.take (a : Assembly) (sym : Symbol) : Assembly :=
  let a := { a with count := satAdd a.count 1 }
  match sym with
  | .error => { a.spoil .symbolError with esc := false }
  | .framed b =>
    if a.esc then
      let a := { a with esc := false }
      if b = 0xF3 then a.store 0xD3 else if b = 0xF9 then a.store 0xD9 else a.spoil .badEscape
    else if b = escapeByte then { a with esc := true }
    else a.store b

/-- R4: the received frame that a delimiter with stamp `t` closes the assembly into, if the assembly had a symbol. -/
def Assembly.close (a : Assembly) (side : Side) (t : Stamp) : Option ReceivedFrame :=
  let a := if a.esc then a.spoil .badEscape else a
  if a.count = 0 then none else some { side := side, bytes := a.bytes, spoiled := a.spoiled, stamp := t }

/-! ### The check (R11) -/

/-- R11 step 3: one place of the shift. -/
def crcShift (reg : BitVec 16) : BitVec 16 := if reg.msb then (reg <<< 1) ^^^ 0x1021 else reg <<< 1

/-- R11 steps 2 and 3: one byte of the frame. -/
def crcByte (reg : BitVec 16) (b : Byte) : BitVec 16 :=
  crcShift (crcShift (crcShift (crcShift (crcShift (crcShift (crcShift (crcShift
    (reg ^^^ (b.setWidth 16 <<< 8)))))))))

/-- R11: the check register after the bytes. -/
def crc (bs : List Byte) : BitVec 16 := bs.foldl crcByte 0xFFFF

/-! ### Layouts (R170) -/

/-- A two-byte field, most significant byte first. -/
def be16 (n : Nat) : List Byte := [BitVec.ofNat 8 (n / 256), BitVec.ofNat 8 n]

/-- A four-byte field, most significant byte first. -/
def be32 (n : Nat) : List Byte :=
  [BitVec.ofNat 8 (n / 16777216), BitVec.ofNat 8 (n / 65536), BitVec.ofNat 8 (n / 256), BitVec.ofNat 8 n]

/-- The value of a two-byte field. -/
def val16 (hi lo : Byte) : Nat := 256 * hi.toNat + lo.toNat

/-- R11: the check of the given bytes, high byte first. -/
def checkBytes (bs : List Byte) : List Byte := be16 (crc bs).toNat

/-- 12.2: the header of a frame and its body. -/
def Frame.content (f : Frame) : List Byte :=
  [frameKindCode f.kind, f.origin, f.target, f.hopsLeft, f.hopsDone] ++ be32 f.stamp.toNat ++
    [f.tag, BitVec.ofNat 8 f.body.length] ++ f.body

/-- R10, R11: the bytes of a frame: header, body and check. -/
def Frame.bytes (f : Frame) : List Byte := f.content ++ checkBytes f.content

/-- R3: the bytes a transmitter sends for a frame. -/
def Frame.sent (f : Frame) : List Byte := sentBytes f.bytes

/-- R12: the good frame that a received frame is, or `none` when it is MALFORMED. -/
def goodFrame (r : ReceivedFrame) : Option Frame :=
  if r.spoiled.isSome ∨ r.bytes.length < 13 ∨ 53 < r.bytes.length ∨ crc r.bytes ≠ 0 then none
  else
    match r.bytes with
    | k :: origin :: target :: hopsLeft :: hopsDone :: s0 :: s1 :: s2 :: s3 :: tag :: len :: rest =>
      match frameKindOfCode k with
      | none => none
      | some kind =>
        if len.toNat ≠ r.bytes.length - 13 then none
        else if 61 ≤ origin.toNat then none
        else if target = 61 ∨ target = 62 ∨ 63 < target.toNat then none
        else if 63 < hopsLeft.toNat ∨ 63 < hopsDone.toNat then none
        else some { kind := kind, origin := origin, target := target, hopsLeft := hopsLeft, hopsDone := hopsDone,
                    stamp := s0 ++ s1 ++ s2 ++ s3, tag := tag, body := rest.take len.toNat }
    | _ => none

/-- R19: the frame as it is rewritten for forwarding; its check follows from its bytes. -/
def Frame.rewritten (f : Frame) : Frame :=
  { f with hopsLeft := f.hopsLeft - 1, hopsDone := if 63 ≤ f.hopsDone.toNat then 63 else f.hopsDone + 1 }

end Sys2Proof.Machine
end

