-- ==== Sys2Proof/Machine/Operands.lean ====
section
/-! DEFINITION. What the part reads out of bytes: the configuration image with its ranges, cases and defaults (R40 to R42,
R171), and the arguments of the requests (12.4). -/

namespace Sys2Proof.Machine
open Sys2Proof

/-! ### Stations -/

/-- R13, R35: the station number that a strap value gives, if it gives one. -/
def stationOf (strap : BitVec 6) : Option Nat :=
  if 1 ≤ strap.toNat ∧ strap.toNat ≤ 60 then some strap.toNat else none

/-! ### The configuration image -/

/-- Byte i of an image. -/
def imageByte (img : List Byte) (i : Nat) : Nat := (img.getD i 0).toNat

/-- The two-byte field at i of an image. -/
def imageWord (img : List Byte) (i : Nat) : Nat := 256 * imageByte img i + imageByte img (i + 1)

/-- R40: a value that must lie in a range. -/
def ranged (lo hi v : Nat) : Option Nat := if lo ≤ v ∧ v ≤ hi then some v else none

/-- R40, R171: the record of path p in the image, if every field is in its range. -/
def readPath (img : List Byte) (p : Nat) : Option PathSettings := do
  let b := 29 + 18 * p
  let kind ← PathKind.ofCode (imageByte img b % 4)
  let loss ← ranged 1 4094 (imageWord img (b + 1))
  let restoreMargin ← ranged 1 1000 (imageWord img (b + 3))
  let degrade ← ranged 1 4094 (imageWord img (b + 5))
  let overload ← ranged 1 4094 (imageWord img (b + 7))
  let lossRunLength ← ranged 4 255 (imageByte img (b + 9))
  let outputLow ← ranged 1 4094 (imageWord img (b + 10))
  let biasLimit ← ranged 1 4095 (imageWord img (b + 12))
  let toneOn ← ranged 1 65535 (imageWord img (b + 14))
  let toneOff ← ranged 1 65535 (imageWord img (b + 16))
  pure { kind := kind, upstream := Fin.ofNat 4 (imageByte img b / 16), loss := loss, restoreMargin := restoreMargin,
         degrade := degrade, overload := overload, lossRunLength := lossRunLength, outputLow := outputLow,
         biasLimit := biasLimit, toneOn := toneOn, toneOff := toneOff }

/-- R171: a paired tacho byte, `none` where it names neither a line nor none. -/
def readPaired (b : Nat) : Option (Option (Fin 12)) :=
  if h : b < 12 then some (some ⟨b, h⟩) else if b = 255 then some none else none

/-- R40, R171: the record of line n in the image. A field is judged only for the functions it belongs to; for the others it
stands at NONE, off, LOW and no pair, which nothing reads. -/
def readLine (img : List Byte) (n : Nat) : Option LineSettings := do
  let fn ← LineFn.ofCode (imageByte img (101 + 3 * n))
  let bits := imageByte img (102 + 3 * n)
  let trigger ← if fn = .inp then Trigger.ofCode (bits % 8) else some .none
  let paired ← if fn = .fan then readPaired (imageByte img (103 + 3 * n)) else some none
  pure { fn := fn, trigger := trigger, report := fn = .inp && bits / 8 % 2 = 1,
         startHigh := (fn = .out || fn = .fan) && bits / 16 % 2 = 1, paired := paired }

/-- R40: the settings of an image whose fields are all in range, format code and length included. -/
def readFields (img : List Byte) : Option Settings := do
  let _ ← ranged 0x62 0x62 (imageByte img 0)
  let _ ← ranged 139 139 (imageByte img 1)
  let west ← ranged 0 60 (imageByte img 2)
  let east ← ranged 0 60 (imageByte img 3)
  let reach ← ranged 1 63 (imageByte img 4)
  let statePeriod ← ranged 1 60 (imageByte img 5)
  let staleTime ← ranged 3 600 (imageWord img 6)
  let window ← ranged 20 2000 (imageWord img 8)
  let holdOff ← ranged 1 600 (imageWord img 10)
  let foreignConfirm ← ranged 2 60 (imageByte img 12)
  let poolOn ← ranged 1 65535 (imageWord img 13)
  let poolOff ← ranged 1 65535 (imageWord img 15)
  let hotLimit ← ranged 0 4095 (imageWord img 17)
  let hotHysteresis ← ranged 1 1000 (imageWord img 19)
  let dyingLevel ← ranged 0 4095 (imageWord img 21)
  let reviveLevel ← ranged 0 4095 (imageWord img 23)
  let filterLimit ← ranged 0 4095 (imageWord img 25)
  let siteMargin ← ranged 1 1000 (imageWord img 27)
  let p0 ← readPath img 0
  let p1 ← readPath img 1
  let p2 ← readPath img 2
  let p3 ← readPath img 3
  let l0 ← readLine img 0
  let l1 ← readLine img 1
  let l2 ← readLine img 2
  let l3 ← readLine img 3
  let l4 ← readLine img 4
  let l5 ← readLine img 5
  let l6 ← readLine img 6
  let l7 ← readLine img 7
  let l8 ← readLine img 8
  let l9 ← readLine img 9
  let l10 ← readLine img 10
  let l11 ← readLine img 11
  pure { west := west, east := east, reach := reach, statePeriod := statePeriod, staleTime := staleTime, window := window,
         holdOff := holdOff, foreignConfirm := foreignConfirm, poolOn := poolOn, poolOff := poolOff, hotLimit := hotLimit,
         hotHysteresis := hotHysteresis, dyingLevel := dyingLevel, reviveLevel := reviveLevel, filterLimit := filterLimit,
         siteMargin := siteMargin, paths := #v[p0, p1, p2, p3],
         lines := #v[l0, l1, l2, l3, l4, l5, l6, l7, l8, l9, l10, l11] }

/-- R41, per path: SPAN without a neighbour, upstream parity, tone thresholds and path levels. -/
def pathConsistent (c : Settings) (p : Fin 4) : Bool :=
  let q := c.paths[p]
  let neighbour := if p.val % 2 = 0 then c.west else c.east
  !(q.kind = .span && neighbour = 0) && q.upstream.val % 2 = p.val % 2 && q.toneOff < q.toneOn &&
    q.loss < q.degrade && q.degrade < q.overload

/-- R41, fan pairing: the pair of FAN line n is a TACHO line that no other FAN line names. -/
def pairConsistent (c : Settings) (n : Fin 12) : Bool :=
  match c.lines[n].fn, c.lines[n].paired with
  | .fan, some m =>
    c.lines[m].fn = .tacho &&
      (List.finRange 12).all fun k => k = n || !(c.lines[k].fn = .fan && c.lines[k].paired = some m)
  | _, _ => true

/-- R41: the consistency of settings. -/
def consistent (c : Settings) : Bool :=
  (List.finRange 4).all (pathConsistent c) && c.poolOff < c.poolOn &&
    !(c.dyingLevel != 0 && c.reviveLevel ≤ c.dyingLevel) && 2 * c.statePeriod ≤ c.staleTime &&
    (List.finRange 12).all (pairConsistent c)

/-- R40: the default settings of a path, given its kind. -/
def defaultPath (kind : PathKind) (p : Fin 4) : PathSettings :=
  { kind := kind, upstream := p, loss := 400, restoreMargin := 100, degrade := 1200, overload := 3900, lossRunLength := 16,
    outputLow := 400, biasLimit := 3500, toneOn := 100, toneOff := 50 }

/-- R40: the default settings of a line. -/
def defaultLine : LineSettings := { fn := .inp, trigger := .both, report := true, startHigh := false, paired := none }

/-- R40, R42: the default settings at a station, or of a part with no station number. -/
def defaultSettings (station : Option Nat) : Settings :=
  let west := match station with | some n => n - 1 | none => 0
  let east := match station with | some n => if n = 60 then 0 else n + 1 | none => 0
  { west := west, east := east, reach := 63, statePeriod := 5, staleTime := 30, window := 250, holdOff := 15,
    foreignConfirm := 8, poolOn := 100, poolOff := 50, hotLimit := 2600, hotHysteresis := 120, dyingLevel := 0,
    reviveLevel := 0, filterLimit := 3000, siteMargin := 60,
    paths := .ofFn fun p =>
      defaultPath (if (if p.val % 2 = 0 then west else east) ≠ 0 then .span else .localPath) p,
    lines := .replicate 12 defaultLine }

/-- R39 to R42: the outcome and reason of a load whose image was read whole, with the settings adopted. -/
def judgeImage (station : Option Nat) (img : List Byte) : StartOutcome × StartReason × Settings :=
  if crc img ≠ 0 then (.defaulted, .badCheck, defaultSettings station)
  else
    match readFields img with
    | some c => if consistent c then (.loaded, .none, c) else (.defaulted, .badField, defaultSettings station)
    | none => (.defaulted, .badField, defaultSettings station)

/-! ### The arguments of requests (12.4) -/

/-- A one-byte argument that names one of n things. -/
def byteArg (n : Nat) (args : List Byte) : Option (Fin n) :=
  match args with
  | [b] => if h : b.toNat < n then some ⟨b.toNat, h⟩ else none
  | _ => none

/-- QUERY_NEIGHBOUR: side, west 0 or east 1. -/
def sideArg (args : List Byte) : Option Side :=
  match args with
  | [b] => if b = 0 then some .west else if b = 1 then some .east else none
  | _ => none

/-- R145, R146: a line mask with no place above L11, as the set of lines it names. -/
def maskArg (args : List Byte) : Option (Vector Bool 12) :=
  match args with
  | [hi, lo] => if val16 hi lo < 4096 then some (.ofFn fun n => (val16 hi lo).testBit n.val) else none
  | _ => none

/-- The arguments of a GEN_CLAIM that are in their ranges (R91, but for the path's kind). -/
structure ClaimArgs where
  path : Fin 4
  bin  : Nat
  secs : Nat
deriving DecidableEq, Repr

/-- R91: path 0 to 3, bin 1 to 511 and not in the pilot plan, 10 to 3600 seconds. -/
def claimArgs (args : List Byte) : Option ClaimArgs :=
  match args with
  | [p, b1, b0, s1, s0] =>
    if h : p.toNat < 4 then
      let bin := val16 b1 b0
      let secs := val16 s1 s0
      if 1 ≤ bin ∧ bin ≤ 511 ∧ inPilotPlan bin = false ∧ 10 ≤ secs ∧ secs ≤ 3600 then
        some { path := ⟨p.toNat, h⟩, bin := bin, secs := secs }
      else none
    else none
  | _ => none

/-- The arguments of a TONE_WATCH that pass R66: `second` is the second bin and the combine mode of a pair. -/
structure WatchArgs where
  channel : Fin 8
  bin     : Nat
  second  : Option (Nat × Combine)
  secs    : Nat
deriving DecidableEq, Repr

/-- R66: the tests shared by both kinds of watch. -/
def watchCommon (channel : Byte) (bin secs : Nat) : Option (Fin 8) :=
  if h : channel.toNat < 8 then
    if 1 ≤ bin ∧ bin ≤ 511 ∧ 10 ≤ secs ∧ secs ≤ 3600 then some ⟨channel.toNat, h⟩ else none
  else none

/-- R66, 12.4: the arguments of a single watch (5 bytes) or a pair watch (8 bytes). -/
def watchArgs (args : List Byte) : Option WatchArgs :=
  match args with
  | [c, b1, b0, s1, s0] =>
    (watchCommon c (val16 b1 b0) (val16 s1 s0)).map fun ch =>
      { channel := ch, bin := val16 b1 b0, second := none, secs := val16 s1 s0 }
  | [c, b1, b0, d1, d0, m, s1, s0] => do
    let ch ← watchCommon c (val16 b1 b0) (val16 s1 s0)
    let mode ← Combine.ofCode m.toNat
    if 1 ≤ val16 d1 d0 ∧ val16 d1 d0 ≤ 511 ∧ val16 d1 d0 ≠ val16 b1 b0 then
      some { channel := ch, bin := val16 b1 b0, second := some (val16 d1 d0, mode), secs := val16 s1 s0 }
    else none
  | _ => none

end Sys2Proof.Machine
end

