-- ==== Sys2Proof/Machine/Ops.lean ====
section
/-! DEFINITION. The shared operations: the hut clock, the ports and records by side, the send queue (R24 to R30), the
answer slots (R163), the restart (R46) and the owned-alarm total (R154). -/

namespace Sys2Proof.Machine
open Sys2Proof

/-! ### Vectors -/

/-- Element i replaced by its image under f. -/
def upd {α : Type} {n : Nat} (v : Vector α n) (i : Fin n) (f : α → α) : Vector α n := v.set i.val (f v[i]) i.isLt

/-- Every element replaced by its image under f. -/
def each {α β : Type} {n : Nat} (f : α → β) (v : Vector α n) : Vector β n := .ofFn fun i => f v[i]

/-- The number of indexes at which f holds. -/
def countFin (n : Nat) (f : Fin n → Bool) : Nat := ((List.finRange n).filter f).length

/-! ### Sides and paths -/

/-- The other side. -/
def otherSide : Side → Side
  | .west => .east
  | .east => .west

/-- R123: the upstream side of a path, west for an even path. -/
def upstreamSide (p : Fin 4) : Side := if p.val % 2 = 0 then .west else .east

/-- R119: the downstream side of a path, east for an even path. -/
def downstreamSide (p : Fin 4) : Side := otherSide (upstreamSide p)

/-- R62: the normal lane of a path. -/
def normalLane (p : Fin 4) : Fin 16 := ⟨2 * p.val, by omega⟩

/-- R62: the fill lane of a path. -/
def fillLane (p : Fin 4) : Fin 16 := ⟨2 * p.val + 1, by omega⟩

/-- The line port on a side. -/
def State.port (s : State) : Side → Port
  | .west => s.west
  | .east => s.east

/-- The line port on a side replaced. -/
def State.setPort (s : State) (side : Side) (p : Port) : State :=
  match side with
  | .west => { s with west := p }
  | .east => { s with east := p }

/-- The neighbour record on a side. -/
def State.nb (s : State) : Side → NbRec
  | .west => s.nbv.west
  | .east => s.nbv.east

/-- The neighbour record on a side replaced. -/
def State.setNb (s : State) (side : Side) (r : NbRec) : State :=
  match side with
  | .west => { s with nbv := { s.nbv with west := r } }
  | .east => { s with nbv := { s.nbv with east := r } }

/-- The signal-detect input of a side. -/
def State.signal (s : State) : Side → Bool
  | .west => s.pins.lwsd
  | .east => s.pins.lesd

/-- Whether the port on a side is UP. -/
def State.isUp (s : State) (side : Side) : Bool := (s.port side).link = .up

/-! ### Phase, station and settings -/

/-- Whether RSTN is high. While it is low the whole part is held in reset (R35). -/
def State.awake (s : State) : Bool := s.pins.rstn

/-- Whether the start phase is RUNNING. -/
def State.running (s : State) : Bool := s.pins.rstn && s.cfl.phase = .running

/-- R13: the station number. -/
def State.station (s : State) : Option Nat := stationOf s.cfl.strap

/-- The active settings. No block reads them before a load has ended (R36); the defaults stand in there and nothing depends
on them. -/
def State.settings (s : State) : Settings := s.cfl.settings.getD (defaultSettings s.station)

/-- The kind of path p. -/
def State.kind (s : State) (p : Fin 4) : PathKind := s.settings.paths[p].kind

/-- R97: whether path p is MONITORED. -/
def State.monitored (s : State) (p : Fin 4) : Bool := s.kind p != .unused

/-! ### CLK (R1) and timers -/

/-- n millisecond ticks of a timer; at the tick on which its remaining time reaches zero it is due. -/
def Countdown.ticks (n : Nat) : Countdown → Countdown
  | .stopped => .stopped
  | .running ms => if n = 0 then .running ms else if ms ≤ n then .due else .running (ms - n)
  | .due => .due

/-- The remaining time that a timer reports. A due timer has not run out for its block until its expiry is taken. -/
def Countdown.left : Countdown → Option Nat
  | .stopped => none
  | .running ms => some ms
  | .due => some 1

/-- A timer started at a number of seconds. -/
def Countdown.seconds (n : Nat) : Countdown := .running (1000 * n)

/-- R70, R94: a remaining time of n seconds with tick count 0. -/
def WatchTime.ofSecs (n : Nat) : WatchTime := { secs := n, tick := 0, due := false }

/-- R70, R94: the milliseconds that a remaining time stands for. -/
def WatchTime.millis (w : WatchTime) : Nat := 1000 * w.secs - w.tick

/-- R70, R94: the remaining time of l milliseconds, a second falling with each 1000 ticks. -/
def WatchTime.ofMillis (l : Nat) (due : Bool) : WatchTime :=
  { secs := (l + 999) / 1000, tick := 1000 * ((l + 999) / 1000) - l, due := due }

/-- R70, R94: n millisecond ticks of a remaining time. The tick that would bring it to 0 makes it due. -/
def WatchTime.ticks (n : Nat) (w : WatchTime) : WatchTime :=
  if n = 0 ∨ w.secs = 0 then w
  else if w.millis ≤ n then .ofMillis 1 true
  else .ofMillis (w.millis - n) w.due

/-- R70: a lane's remaining time over n ticks. -/
def Lane.ticks (n : Nat) (l : Lane) : Lane := { l with remaining := l.remaining.map (WatchTime.ticks n) }

/-- R132, R136: a verdict record's timers over n ticks. -/
def VerdictRec.ticks (n : Nat) (r : VerdictRec) : VerdictRec :=
  { r with window := r.window.ticks n, holdOff := r.holdOff.ticks n }

/-- R147, R149: a line's timers over n ticks. -/
def LineRec.ticks (n : Nat) (r : LineRec) : LineRec :=
  { r with edgeTimer := r.edgeTimer.ticks n, stallTimer := r.stallTimer.ticks n }

/-- R117: a neighbour record's stale timer over n ticks. -/
def NbRec.ticks (n : Nat) (r : NbRec) : NbRec := { r with staleTimer := r.staleTimer.ticks n }

/-- R1: n millisecond ticks pace every timer stated in milliseconds or seconds. -/
def State.ticks (n : Nat) (s : State) : State :=
  if n = 0 then s
  else
    { s with
      tcr := each (Lane.ticks n) s.tcr
      ttg := { s.ttg with time := s.ttg.time.ticks n }
      vde := each (VerdictRec.ticks n) s.vde
      nbv := { s.nbv with west := s.nbv.west.ticks n, east := s.nbv.east.ticks n }
      stu := { s.stu with lines := each (LineRec.ticks n) s.stu.lines }
      stateTimer := s.stateTimer.ticks n
      cfl := { s.cfl with loadTimer := s.cfl.loadTimer.ticks n } }

/-- R37 step 1: d microseconds on the I2C port. While the memory holds SDA low, recovery pulses follow one another at 100 kHz, one
each 10 µs (log entry 11). -/
def I2c.elapse (d : Nat) (i : I2c) : I2c :=
  if i.phase = .recovering then
    { i with pulses := i.pulses + (i.sincePulse + d) / 10, sincePulse := (i.sincePulse + d) % 10 }
  else i

/-- Whether stamp t stands at the hut clock value `now` or ahead of it, and not behind it: the nearer way round the 2^32 values (log
entry 1). -/
def isAhead (now t : Stamp) : Bool := interval now t < 2 ^ 31

/-- R1: d microseconds pass on the hut clock, with n millisecond ticks among them. -/
def State.elapse (d n : Nat) (s : State) : State :=
  let u := s.ticks n
  { u with
    clk := { hut := s.clk.hut + BitVec.ofNat 32 d, sinceTick := s.clk.sinceTick + d - 1000 * n }
    cfl := { u.cfl with i2c := u.cfl.i2c.elapse d } }

/-- R1: the moment at which an event with stamp t is taken. A stamp ahead of the hut clock brings the clock there: every tick before t has
been taken, and a tick that falls at t itself is still to be taken. A stamp behind the hut clock was captured before the event is taken
(R47, R129), and the clock stands: `isAhead` tells the two apart (log entry 1). While RSTN is low the hut clock is held at 0. -/
def State.moment (s : State) (t : Stamp) : State :=
  if s.awake && isAhead s.clk.hut t then
    let d := interval s.clk.hut t
    s.elapse d ((s.clk.sinceTick + d - 1) / 1000)
  else s

/-! ### SNQ (R23 to R27) -/

/-- The mark of an entry for a side (R23). -/
def Entry.mark (e : Entry) : Side → Bool
  | .west => e.west
  | .east => e.east

/-- An entry with its mark for a side cleared (R28, R29). -/
def Entry.unmark (e : Entry) : Side → Entry
  | .west => { e with west := false }
  | .east => { e with east := false }

/-- R23: whether an entry still has a mark. -/
def Entry.marked (e : Entry) : Bool := e.west || e.east

/-- R25: an entry's marks set again for the ports that are UP. -/
def Entry.remark (e : Entry) (w x : Bool) : Entry := { e with west := e.west || w, east := e.east || x }

/-- The answer slot of an ANSWER entry. -/
def Entry.slot? (e : Entry) : Option (Fin 6) :=
  match e.item with
  | .answer k _ => some k
  | _ => none

/-- R24 to R26: a STATE or NOTICE request taken on the list: coalesced with the entry of its item, or a new entry at the tail
marked for the UP ports, or discarded when no port is UP. -/
def snqAsk (item : Item) (prompt w x : Bool) (q : List Entry) : List Entry :=
  if q.any (·.item = item) then
    q.map fun e => if e.item = item then { e.remark w x with prompted := e.prompted || prompt } else e
  else if w || x then q ++ [{ item := item, west := w, east := x, prompted := prompt }]
  else q

/-- R27: the POWER notice in DYING form taken on the list: the POWER entry at the head and marked for every UP port, and no
STATE entry left. -/
def snqDying (w x : Bool) (q : List Entry) : List Entry :=
  let rest := q.filter fun e => e.item ≠ .notice .power ∧ e.item ≠ .state
  match q.find? (·.item = .notice .power) with
  | some e => e.remark w x :: rest
  | none => if w || x then { item := .notice .power, west := w, east := x, prompted := false } :: rest else rest

/-- R159: a NOTICE asked for, with or without a prompt. Notice requests are passed in RUNNING only. -/
def State.askNotice (subject : Subject) (prompt : Bool) (s : State) : State :=
  if s.running then { s with snq := snqAsk (.notice subject) prompt (s.isUp .west) (s.isUp .east) s.snq } else s

/-- R157: a STATE asked for; refused while the power state is DYING (R27). -/
def State.askState (s : State) : State :=
  if s.running && !s.stu.dying then { s with snq := snqAsk .state false (s.isUp .west) (s.isUp .east) s.snq } else s

/-! ### Loads (R37) and the restart (R46) -/

/-- R37 step 1: the recovery pulses that free a memory which holds SDA low for `sdaHold` more, where a load has room for them. -/
def recoveryPulses (sdaHold : Option Nat) : Option Nat := sdaHold.filter (· < sdaHoldLimit)

/-- R37 step 1: the I2C port at the start of a load. A memory that n recovery pulses free is sent them, and the transaction begins; one
that a load cannot free is sent them until the load timer runs out (log entry 11). -/
def I2c.begin (sdaHold : Option Nat) : I2c :=
  match recoveryPulses sdaHold with
  | some n => { phase := .reading, pulses := n, sincePulse := 0, ended := none }
  | none => { phase := .recovering, pulses := 0, sincePulse := 0, ended := none }

/-- R36 to R38: the start of a load: the load timer at 50 ms, and the I2C port begun. A memory that the recovery frees holds SDA no
longer; one that it does not free holds it on. -/
def State.startLoad (s : State) : State :=
  { s with
    pins := { s.pins with sdaHold := (recoveryPulses s.pins.sdaHold).map fun _ => 0 }
    cfl := { s.cfl with phase := .loading, loadTimer := .running 50, i2c := I2c.begin s.pins.sdaHold } }

/-- R46: the restart. The line ports with their forward queues, RLY, the hut clock and the strap value continue; CFL keeps
outcome, reason and settings until the new load ends; the present pilot step keeps its counts (R85); every other block returns
to its start values, and a new load begins. Requests delivered and not yet taken are taken after the restart (R46); frames
delivered to NBV and not yet taken leave no trace. -/
def State.restart (s : State) : State :=
  State.startLoad { s with
    snq := []
    smp := .reset
    tcr := lanesReset
    plg := { s.plg with osc := .replicate 4 .reset }
    ttg := .free
    pmn := .replicate 4 .reset
    nbv := { west := .reset (!s.isUp .west), east := .reset (!s.isUp .east), deliveries := [] }
    vde := .replicate 4 .reset
    stu := .reset
    stateTimer := .stopped
    rqh := { Rqh.reset with deliveries := s.rqh.deliveries } }

/-! ### Answer slots (R161, R163) -/

/-- R163: ANSWER entries for the given slots have left SNQ: their slots become FREE, and the restart is taken when one of them
is the slot that set the restart pending flag (R167, R168). -/
def State.answersLeft (slots : List (Fin 6)) (s : State) : State :=
  let freed : State :=
    { s with rqh := { s.rqh with slots := .ofFn fun k => if k ∈ slots then Slot.reset else s.rqh.slots[k] } }
  match s.rqh.restartPending with
  | some k => if k ∈ slots then freed.restart else freed
  | none => freed

/-- R24, R163: an ANSWER entry asked for; it joins the tail marked for the UP ports, or is discarded at once and frees its
slot when no port is UP. -/
def State.askAnswer (slot : Fin 6) (frame : Frame) (s : State) : State :=
  if s.isUp .west || s.isUp .east then
    { s with snq := s.snq ++ [{ item := .answer slot frame, west := s.isUp .west, east := s.isUp .east, prompted := false }] }
  else s.answersLeft [slot]

/-- R29: every entry's mark for a side cleared; entries left with no mark leave the list. -/
def State.clearMarks (side : Side) (s : State) : State :=
  let q := s.snq.map (·.unmark side)
  State.answersLeft ((q.filter (!·.marked)).filterMap Entry.slot?) { s with snq := q.filter Entry.marked }

/-- R22: hops_left of a frame originated here. -/
def State.reach (s : State) : Nat := if s.cfl.phase = .loading then 63 else s.settings.reach

/-- R10, R22: a frame originated here whose content is fixed now. A part with no station number originates no
frame, and 0 stands in for its origin. -/
def State.originate (s : State) (kind : FrameKind) (target tag : Byte) (body : List Byte) : Frame :=
  { kind := kind, origin := BitVec.ofNat 8 (s.station.getD 0), target := target, hopsLeft := BitVec.ofNat 8 s.reach,
    hopsDone := 0, stamp := s.clk.hut, tag := tag, body := body }

/-- R162, 12.4: the body of an ANSWER: the status, the request code as received, and with OK and HELD the results. -/
def answerBody (status : Status) (request : Option Byte) (results : List Byte) : List Byte :=
  BitVec.ofNat 8 status.code ::
    match request with
    | none => []
    | some c => c :: if status = .ok ∨ status = .held then results else []

/-- R163: the request in a slot completes now with a status and results: its ANSWER frame is fixed, its slot becomes
READY and its ANSWER entry is asked for. -/
def State.complete (slot : Fin 6) (status : Status) (results : List Byte) (s : State) : State :=
  let r := s.rqh.slots[slot]
  let frame := s.originate .answer r.requester r.tag (answerBody status r.request results)
  State.askAnswer slot frame
    { s with rqh := { s.rqh with slots := upd s.rqh.slots slot fun r => { r with state := .ready } } }

/-! ### Owned alarms (R108, R124, R151, R154) -/

/-- R124: VDE's owned-alarm count. -/
def State.vdeCount (s : State) : Nat := countFin 4 fun p => s.vde[p].verdict.owner = .own

/-- R108: the owned alarms of one path at PMN. -/
def State.pmnPathCount (s : State) (p : Fin 4) : Nat :=
  let r := s.pmn[p]
  (s.kind p = .span && (r.input = .low || r.input = .high)).toNat + (s.monitored p && r.outputLow).toNat +
    (s.monitored p && r.biasHigh).toNat

/-- R108: PMN's owned-alarm count. -/
def State.pmnCount (s : State) : Nat := s.pmnPathCount 0 + s.pmnPathCount 1 + s.pmnPathCount 2 + s.pmnPathCount 3

/-- R151: STU's climate count. -/
def Stu.climateCount (u : Stu) : Nat := u.hot.toNat + u.filter.toNat + countFin 12 fun n => u.lines[n].fanStall

/-- R154: the contributions handed on, the total recomputed, and every ALARM line driven HIGH while it is above 0. -/
def State.settleAlarms (s : State) : State :=
  if s.running then
    let v := s.vdeCount
    let p := s.pmnCount
    let c := s.stu.climateCount
    let total := v + p + c + s.stu.dying.toNat
    { s with stu := { s.stu with
        vdeAlarms := v
        pmnAlarms := p
        climate := c
        total := total
        lines := each (fun r => if r.fn = .alarm then { r with level := decide (0 < total) } else r) s.stu.lines } }
  else s

end Sys2Proof.Machine
end

