-- ==== Sys2Proof/Machine/Verdicts.lean ====
section
/-! DEFINITION. VDE: the verdict engine's decisions (Chapter 9), and the two commands of its own timers. -/

namespace Sys2Proof.Machine
open Sys2Proof

/-- R140: the verdict record of path p replaced; a change of verdict asks for a PATHp notice. -/
def State.setVerdict (p : Fin 4) (r : VerdictRec) (s : State) : State :=
  let s' := { s with vde := s.vde.set p.val r p.isLt }
  if r.verdict = s.vde[p].verdict then s' else s'.askNotice (.path p) false

/-- R126: the verdict that a light evaluation gives, if it gives one. -/
def lightVerdict (normal fill : Bool) (toneAbsent foreignConfirm : Nat) : Option Verdict :=
  if fill then some .sympathetic
  else if normal then some .clear
  else if foreignConfirm ≤ toneAbsent then some .foreignLight
  else none

/-- R126: a light evaluation of path p, from the presence of its lanes as TCR last decided them. -/
def State.lightEvaluation (p : Fin 4) (s : State) : State :=
  let r := s.vde[p]
  match lightVerdict s.tcr[normalLane p].present s.tcr[fillLane p].present r.toneAbsent s.settings.foreignConfirm with
  | some v => s.setVerdict p { r with verdict := v, evidence := .none, late := false, cause := none, holdOff := .stopped }
  | none => s

/-- R125, R127, R136: VDE takes a lane result of path p. -/
def State.laneResult (p : Fin 4) (normal fill : Bool) (s : State) : State :=
  let r := s.vde[p]
  let count :=
    if s.pmn[p].input = .loss then r.toneAbsent else if normal || fill then 0 else satAdd r.toneAbsent 1
  let s := { s with vde := s.vde.set p.val { r with toneAbsent := count } p.isLt }
  if r.verdict.isLight || (r.verdict = .restoring && r.holdOff = .stopped) then s.lightEvaluation p else s

/-- R130: the record of a path that enters WATCH at hut clock t. -/
def VerdictRec.watching (r : VerdictRec) (window : Nat) (t : Stamp) : VerdictRec :=
  { r with verdict := .watch, evidence := .none, late := false, cause := none, watchStart := some t, window := .running window,
           holdOff := .stopped }

/-- R128: whether the upstream port of path p is DOWN with a last down stamp within the correlation window of loss stamp s. -/
def State.recentLinkDown (s : State) (p : Fin 4) (loss : Stamp) : Bool :=
  let port := s.port (upstreamSide p)
  port.link = .down && !port.aged &&
    match port.lastDown with
    | some d => withinWindow (1000 * s.settings.window) d loss
    | none => false

/-- R128: the record that a loss event gives a path in a light verdict. -/
def State.judgeLoss (s : State) (p : Fin 4) (loss : Stamp) : VerdictRec :=
  let r := { s.vde[p] with lossStamp := some loss, toneAbsent := 0 }
  if (s.nb (upstreamSide p)).dying then
    { r with verdict := .upstreamPower, evidence := .dying, late := false, cause := none }
  else if s.recentLinkDown p loss then { r with verdict := .spanFault, evidence := .lineCut, late := false, cause := none }
  else r.watching s.settings.window s.clk.hut

/-- R137: the record that a loss event gives a path in RESTORING. -/
def State.returnToCause (s : State) (p : Fin 4) (loss : Stamp) : VerdictRec :=
  let r := s.vde[p]
  let r' := { r with verdict := r.cause.getD .watch, cause := none, flaps := satAdd r.flaps 1, lossStamp := some loss,
                     toneAbsent := 0, holdOff := .stopped }
  if r'.verdict = .watch then r'.watching s.settings.window s.clk.hut else r'

/-- R128, R137: VDE takes a loss event of path p with the given loss stamp. -/
def State.lossEvent (p : Fin 4) (loss : Stamp) (s : State) : State :=
  if s.vde[p].verdict.isLight then s.setVerdict p (s.judgeLoss p loss)
  else if s.vde[p].verdict = .restoring then s.setVerdict p (s.returnToCause p loss)
  else s

/-- R135: VDE takes a restore event of path p. -/
def State.restoreEvent (p : Fin 4) (s : State) : State :=
  let r := s.vde[p]
  if r.verdict.isLoss then
    s.setVerdict p { r with verdict := .restoring, cause := some r.verdict, window := .stopped,
                            holdOff := .seconds s.settings.holdOff }
  else s

/-- R131, R134: a deciding event of path p: it decides a WATCH, and an UNRESOLVED late. -/
def State.decideLoss (p : Fin 4) (v : Verdict) (e : Evidence) (s : State) : State :=
  let r := s.vde[p]
  if r.verdict = .watch then s.setVerdict p { r with verdict := v, evidence := e, late := false, window := .stopped }
  else if r.verdict = .unresolved then s.setVerdict p { r with verdict := v, evidence := e, late := true }
  else s

/-- R131, R134: VDE takes a link-down of the port on a side, for each SPAN path whose upstream port it is, in index order
(log entry 8). In LOADING and in REPEATER_ONLY VDE takes no event (R142). -/
def State.linkDownEvent (side : Side) (s : State) : State :=
  if s.running then
    (List.finRange 4).foldl
      (fun s p => if s.kind p = .span ∧ upstreamSide p = side then s.decideLoss p .spanFault .lineCut else s) s
  else s

/-- R131, R134: VDE takes a dying event of path p. -/
def State.dyingEvent (p : Fin 4) (s : State) : State := s.decideLoss p .upstreamPower .dying

/-- R131, R134: VDE takes an upstream report of path p. -/
def State.upstreamReport (p : Fin 4) (outputLow prompted : Bool) (s : State) : State :=
  if outputLow then s.decideLoss p .upstreamTx .txLow
  else if prompted then s.decideLoss p .spanFault .promptedClear
  else s

/-- R139: what a RECHECK of path p does to its record, for a path whose verdict is not NOT_APPLICABLE. -/
def State.recheckPath (p : Fin 4) (s : State) : State :=
  let r := s.vde[p]
  if r.verdict.isResolvedLoss && s.pmn[p].input = .loss then s.setVerdict p (r.watching s.settings.window s.clk.hut)
  else if r.verdict.isLight then s.lightEvaluation p
  else s

/-! ### WINDOW_EXPIRY and HOLD_OFF_EXPIRY -/

/-- R132: the window of path p runs out: a WATCH becomes UNRESOLVED, TIMEOUT. -/
def State.windowExpiry (p : Fin 4) (s : State) : State :=
  let r := s.vde[p]
  if s.running && r.verdict = .watch && r.window = .due then
    State.settleAlarms
      (s.setVerdict p { r with verdict := .unresolved, evidence := .timeout, late := false, window := .stopped })
  else s

/-- R136: the hold-off of path p runs out: it stops and a light evaluation is made. R138 says that a lane result taken before or after it
leaves one verdict; where R126 and R136 give two, they are followed (log entry 24). -/
def State.holdOffExpiry (p : Fin 4) (s : State) : State :=
  let r := s.vde[p]
  if s.running && r.verdict = .restoring && r.holdOff = .due then
    State.settleAlarms (State.lightEvaluation p { s with vde := s.vde.set p.val { r with holdOff := .stopped } p.isLt })
  else s

/-- WINDOW_EXPIRY (R132). -/
def execWindowExpiry (p : Fin 4) (s : State) : Host.Outcome State Fault Refusal := .next (s.windowExpiry p)

/-- HOLD_OFF_EXPIRY (R136). -/
def execHoldOffExpiry (p : Fin 4) (s : State) : Host.Outcome State Fault Refusal := .next (s.holdOffExpiry p)

end Sys2Proof.Machine
end

