-- ==== Sys2Proof/Machine/Lines.lean ====
section
/-! DEFINITION. The line ports and RLY (Chapter 1, R19, R20): symbols, the link machine, and received frames. -/

namespace Sys2Proof.Machine
open Sys2Proof

/-! ### SYMBOL_RECEIVED -/

/-- R5 to R7: what a symbol with stamp t does to the link record of a port whose signal-detect input stands at `signal`. -/
def Port.linkSymbol (p : Port) (signal : Bool) (sym : Symbol) (t : Stamp) : Port :=
  match p.link, sym with
  | .down, .framed _ => if signal then { p with link := .settling, settleStart := some t, lastGood := some t } else p
  | .down, .error => p
  | .settling, .framed _ => { p with lastGood := some t }
  | .settling, .error => { p with settleStart := some t }
  | .up, .framed _ => { p with lastGood := some t }
  | .up, .error => p

/-- R4: what a symbol with stamp t does to the receive assembly of the port on a side, and the frame it hands RLY: a delimiter
closes the assembly, and the frame is handed on if the port is UP. -/
def Port.assemble (p : Port) (side : Side) (sym : Symbol) (t : Stamp) : Port × Option ReceivedFrame :=
  if sym = .framed delimiter then
    ({ p with assembly := .empty }, if p.link = .up then p.assembly.close side t else none)
  else ({ p with assembly := p.assembly.take sym }, none)

/-- R4 to R7: a received symbol acts on the assembly and on the link machine. -/
def State.symbolReceived (side : Side) (sym : Symbol) (t : Stamp) (s : State) : State :=
  if s.awake then
    let (p, f) := (s.port side).assemble side sym t
    let s := s.setPort side (p.linkSymbol (s.signal side) sym t)
    { s with rly := { s.rly with arrivals := s.rly.arrivals ++ f.toList } }
  else s

/-- SYMBOL_RECEIVED (R4). -/
def execSymbolReceived (side : Side) (sym : Symbol) (t : Stamp) (s : State) : Host.Outcome State Fault Refusal :=
  .next ((s.moment t).symbolReceived side sym t)

/-! ### Entry to DOWN and to UP -/

/-- R118: the CUT_OFF mark of a side's neighbour record. -/
def State.markCutOff (side : Side) (cutOff : Bool) (s : State) : State := s.setNb side { s.nb side with cutOff := cutOff }

/-- R8: the port of a side enters DOWN now. The owners act in the order of the table of R8 (log entry 8). -/
def State.entryToDown (side : Side) (s : State) : State :=
  let p := s.port side
  let drops := satAdd s.rly.relayDrops p.fwd.length
  let s := s.setPort side { p with link := .down, lastDown := some s.clk.hut, aged := false, assembly := .empty, fwd := [] }
  let s := { s with rly := { s.rly with relayDrops := drops } }
  State.settleAlarms (State.linkDownEvent side (State.markCutOff side true (s.clearMarks side)))

/-- The level of a side's signal-detect input replaced. -/
def State.setSignal (side : Side) (level : Bool) (s : State) : State :=
  match side with
  | .west => { s with pins := { s.pins with lwsd := level } }
  | .east => { s with pins := { s.pins with lesd := level } }

/-- R7: a signal-detect input takes a level; going low it takes a SETTLING or UP port to DOWN. -/
def State.signalDetectChange (side : Side) (level : Bool) (s : State) : State :=
  let s := s.setSignal side level
  if s.awake && !level && (s.port side).link != .down then s.entryToDown side else s

/-- SIGNAL_DETECT_CHANGE (R7). -/
def execSignalDetectChange (side : Side) (level : Bool) (t : Stamp) (s : State) : Host.Outcome State Fault Refusal :=
  .next ((s.moment t).signalDetectChange side level)

/-- Whether the hut clock at t has reached n µs beyond a stamp; an absent stamp is beyond reach. -/
def reached (n : Nat) (from? : Option Stamp) (t : Stamp) : Bool :=
  match from? with
  | some a => n ≤ interval a t
  | none => false

/-- R7: the hut clock reaches 1000 µs beyond the last-good stamp of a SETTLING or UP port. -/
def State.silenceExpiry (side : Side) (s : State) : State :=
  if s.awake && (s.port side).link != .down && reached 1000 (s.port side).lastGood s.clk.hut then s.entryToDown side else s

/-- SILENCE_EXPIRY (R7). -/
def execSilenceExpiry (side : Side) (t : Stamp) (s : State) : Host.Outcome State Fault Refusal :=
  .next ((s.moment t).silenceExpiry side)

/-- R6, R118: 100,000 µs beyond the settle start a SETTLING port becomes UP, takes its last up stamp, and its side's CUT_OFF is
cleared. No mark and no queue changes (R29). -/
def State.linkUp (side : Side) (s : State) : State :=
  if s.awake && (s.port side).link = .settling && reached 100000 (s.port side).settleStart s.clk.hut then
    State.markCutOff side false (s.setPort side { s.port side with link := .up, lastUp := some s.clk.hut })
  else s

/-- LINK_UP (R6). -/
def execLinkUp (side : Side) (t : Stamp) (s : State) : Host.Outcome State Fault Refusal :=
  .next ((s.moment t).linkUp side)

/-- R9: more than 2,000,000 µs beyond its last down stamp a port sets its aged mark. -/
def State.agedMark (side : Side) (s : State) : State :=
  if s.awake && reached 2000001 (s.port side).lastDown s.clk.hut then s.setPort side { s.port side with aged := true } else s

/-- AGED_MARK (R9). -/
def execAgedMark (side : Side) (t : Stamp) (s : State) : Host.Outcome State Fault Refusal :=
  .next ((s.moment t).agedMark side)

/-! ### RECEIVED_FRAME -/

/-- R19, R20: a frame offered to the port of a side for forwarding. -/
def State.offer (side : Side) (f : Frame) (s : State) : State :=
  let p := s.port side
  if f.hopsLeft = 0 ∨ p.link ≠ .up then s
  else if p.fwd.length < 8 then s.setPort side { p with fwd := p.fwd ++ [f.rewritten] }
  else { s with rly := { s.rly with relayDrops := satAdd s.rly.relayDrops 1 } }

/-- R13: whether a byte is this station's number. -/
def State.isOwn (s : State) (b : Byte) : Bool := s.station = some b.toNat

/-- R15: whether RLY forwards a good frame of another origin: all but a REQUEST for this station. -/
def State.forwards (s : State) (f : Frame) : Bool := !(f.kind = .request && s.isOwn f.target)

/-- R15, R16: whether RLY delivers a good frame of another origin to RQH. -/
def State.consumes (s : State) (f : Frame) : Bool :=
  f.kind = .request && (s.isOwn f.target || f.target = 63) && s.cfl.phase != .repeaterOnly

/-- R15, R16: whether RLY delivers a good frame of another origin to NBV. -/
def State.delivers (s : State) (f : Frame) : Bool := (f.kind = .state || f.kind = .notice) && s.cfl.phase = .running

/-- R17: what NBV is handed of a frame. -/
def Frame.delivery (f : Frame) (side : Side) : Delivery :=
  { side := side, origin := f.origin, hopsDone := f.hopsDone, kind := f.kind, stamp := f.stamp, body := f.body }

/-- R18: what RQH is handed of a frame. -/
def Frame.reqDelivery (f : Frame) : ReqDelivery :=
  { head := { requester := f.origin, tag := f.tag, broadcast := f.target = 63 }, body := f.body }

/-- R15 to R18: RLY decides on a good frame of another origin. -/
def State.relay (side : Side) (f : Frame) (s : State) : State :=
  let s' := if s.forwards f then s.offer (otherSide side) f else s
  if s.consumes f then { s' with rqh := { s'.rqh with deliveries := s'.rqh.deliveries ++ [f.reqDelivery] } }
  else if s.delivers f then { s' with nbv := { s'.nbv with deliveries := s'.nbv.deliveries ++ [f.delivery side] } }
  else s'

/-- R12 to R18: RLY takes a received frame. -/
def State.receivedFrame (r : ReceivedFrame) (s : State) : State :=
  if s.awake then
    let s := { s with rly := { s.rly with arrivals := s.rly.arrivals.erase r } }
    match goodFrame r with
    | none => { s with rly := { s.rly with malformed := satAdd s.rly.malformed 1 } }
    | some f =>
      if s.isOwn f.origin then { s with rly := { s.rly with ownOrigin := satAdd s.rly.ownOrigin 1 } }
      else s.relay r.side f
  else s

/-- RECEIVED_FRAME (R12). -/
def execReceivedFrame (r : ReceivedFrame) (s : State) : Host.Outcome State Fault Refusal := .next (s.receivedFrame r)

end Sys2Proof.Machine
end

