-- ==== Sys2Proof/Machine/Neighbours.lean ====
section
/-! DEFINITION. NBV (Chapter 8): the frames it takes, the prompted reply, the evidence it hands VDE, and its stale timers. -/

namespace Sys2Proof.Machine
open Sys2Proof

/-! ### Reading bodies (R112, 12.2, 12.3) -/

/-- A bit of a byte. -/
def bitAt (b : Byte) (i : Nat) : Bool := b.getLsbD i

/-- R114, 12.2: the summary that two bytes of a STATE body give, where the kind, input state and verdict codes name values. -/
def readSummary (b v : Byte) : Option Summary := do
  let kind ← PathKind.ofCode (b.toNat / 64)
  let input ← InputState.ofCode (b.toNat / 8 % 8)
  let verdict ← Verdict.ofCode (v.toNat / 16)
  pure { kind := some kind, input := some input, outputLow := some (bitAt b 1), pilot := some (.ofBit (bitAt b 2)),
         verdict := some verdict }

/-- R112, R114: the four summaries of a STATE body that NBV can use. -/
def readStateBody (body : List Byte) : Option (Vector Summary 4) :=
  if body.length = 23 then do
    let a ← readSummary (body.getD 2 0) (body.getD 3 0)
    let b ← readSummary (body.getD 4 0) (body.getD 5 0)
    let c ← readSummary (body.getD 6 0) (body.getD 7 0)
    let d ← readSummary (body.getD 8 0) (body.getD 9 0)
    pure #v[a, b, c, d]
  else none

/-- What a PATH notice says that NBV uses (R115, R119, 12.3). -/
structure PathReport where
  path      : Fin 4
  verdict   : Verdict
  input     : InputState
  outputLow : Bool
  pilot     : PilotMode
  prompted  : Bool
  fedBy     : Nat
deriving DecidableEq, Repr

/-- What a usable NOTICE body says to NBV (R112): a PATH notice, a POWER notice (true for DYING), or another subject. -/
inductive NoticeReport where
  | path (r : PathReport)
  | power (dying : Bool)
  | other
deriving DecidableEq, Repr

/-- R112, 12.3: a PATH notice's body. -/
def readPathNotice (body : List Byte) (p : Fin 4) : Option NoticeReport :=
  if body.length = 15 then do
    let verdict ← Verdict.ofCode (body.getD 1 0).toNat
    let input ← InputState.ofCode (body.getD 4 0).toNat
    let bits := body.getD 3 0
    pure (.path { path := p, verdict := verdict, input := input, outputLow := bitAt bits 2, pilot := .ofBit (bitAt bits 4),
                  prompted := bitAt bits 1, fedBy := (body.getD 5 0).toNat })
  else none

/-- R112: a NOTICE body that NBV can use, by the length of its subject and the codes of the fields NBV uses. -/
def readNoticeBody (body : List Byte) : Option NoticeReport :=
  match body with
  | [] => none
  | subject :: _ =>
    if h : subject.toNat < 4 then readPathNotice body ⟨subject.toNat, h⟩
    else if subject = 4 then
      if body.length = 4 then
        if body.getD 1 0 = 0 then some (.power false) else if body.getD 1 0 = 1 then some (.power true) else none
      else none
    else if subject = 5 then if body.length = 6 then some .other else none
    else if subject = 6 ∨ subject = 7 ∨ subject = 8 then if body.length = 5 then some .other else none
    else none

/-! ### What NBV hands on -/

/-- R120: an upstream report handed to VDE for each path that the neighbour path i on a side feeds, in index order
(log entry 8). -/
def State.handReport (side : Side) (i : Fin 4) (outputLow prompted : Bool) (s : State) : State :=
  (List.finRange 4).foldl
    (fun s p =>
      if s.kind p = .span ∧ upstreamSide p = side ∧ s.settings.paths[p].upstream = i then
        s.upstreamReport p outputLow prompted
      else s) s

/-- R121: a dying event handed to VDE for each SPAN path whose upstream side is this one, in index order (log entry 8). -/
def State.handDying (side : Side) (s : State) : State :=
  (List.finRange 4).foldl
    (fun s p => if s.kind p = .span ∧ upstreamSide p = side then s.dyingEvent p else s) s

/-- R119: a used PATH notice on a side prompts a reply when it is a WATCH fed by a path of this station whose downstream side is
that side and which is in use. -/
def State.promptReply (side : Side) (r : PathReport) (s : State) : State :=
  if h : r.fedBy < 4 then
    let q : Fin 4 := ⟨r.fedBy, h⟩
    if r.verdict = .watch ∧ downstreamSide q = side ∧ s.kind q ≠ .unused then s.askNotice (.path q) true else s
  else s

/-! ### Using a frame -/

/-- R114, R115: a record that a STATE or PATH notice refreshes at hut clock t. -/
def NbRec.refreshed (r : NbRec) (staleTime : Nat) (t : Stamp) : NbRec :=
  { r with lastHeard := some t, stale := false, staleTimer := .seconds staleTime }

/-- R114: a STATE frame used on a record. Its four reports are handed in index order (log entry 8). -/
def State.useState (side : Side) (m : Vector Summary 4) (s : State) : State :=
  let r := { (s.nb side).refreshed s.settings.staleTime s.clk.hut with heard := true, dying := false, summaries := m }
  (List.finRange 4).foldl (fun s i => s.handReport side i (m[i].outputLow.getD false) false) (s.setNb side r)

/-- R115: a summary that a PATH notice replaces; its kind stays. -/
def Summary.reported (m : Summary) (r : PathReport) : Summary :=
  { m with input := some r.input, outputLow := some r.outputLow, pilot := some r.pilot, verdict := some r.verdict }

/-- R115, R119: a PATH notice used on a record. The notice of a verdict it decides is asked for before the reply it prompts
(log entry 8). -/
def State.usePath (side : Side) (r : PathReport) (s : State) : State :=
  let nb := (s.nb side).refreshed s.settings.staleTime s.clk.hut
  let nb := { nb with summaries := upd nb.summaries r.path fun m => m.reported r }
  State.promptReply side r (State.handReport side r.path r.outputLow r.prompted (s.setNb side nb))

/-- R116: a POWER notice used on a record. -/
def State.usePower (side : Side) (dying : Bool) (s : State) : State :=
  let before := (s.nb side).dying
  let s := s.setNb side { s.nb side with lastHeard := some s.clk.hut, dying := dying }
  if dying && !before then s.handDying side else s

/-- R112: a frame from the configured station used on a record, by its kind and body. -/
def State.useFrame (d : Delivery) (s : State) : State :=
  match d.kind with
  | .state =>
    match readStateBody d.body with
    | some m => s.useState d.side m
    | none => s
  | .notice =>
    match readNoticeBody d.body with
    | some (.path r) => s.usePath d.side r
    | some (.power dying) => s.usePower d.side dying
    | some .other => s
    | none => s
  | .request => s
  | .answer => s

/-- R112, R113: NBV takes a delivered frame. In LOADING and in REPEATER_ONLY none is delivered to it (R16). -/
def State.neighbourFrame (d : Delivery) (s : State) : State :=
  if s.awake then
    let s := { s with nbv := { s.nbv with deliveries := s.nbv.deliveries.erase d } }
    if s.running then
      let r := s.nb d.side
      if d.hopsDone = 0 ∧ d.origin.toNat ≠ r.station then s.setNb d.side { r with mismatch := true }
      else if r.station ≠ 0 ∧ d.origin.toNat = r.station then State.settleAlarms (s.useFrame d)
      else s
    else s
  else s

/-- NEIGHBOUR_FRAME (R112). -/
def execNeighbourFrame (d : Delivery) (t : Stamp) (s : State) : Host.Outcome State Fault Refusal :=
  .next ((s.moment t).neighbourFrame d)

/-! ### STALE_EXPIRY -/

/-- R117: a stale timer runs out: stale is set and the timer stops. -/
def State.staleExpiry (side : Side) (s : State) : State :=
  if s.running && (s.nb side).staleTimer = .due then
    s.setNb side { s.nb side with stale := true, staleTimer := .stopped }
  else s

/-- STALE_EXPIRY (R117). -/
def execStaleExpiry (side : Side) (s : State) : Host.Outcome State Fault Refusal := .next (s.staleExpiry side)

end Sys2Proof.Machine
end

