-- ==== Sys2Proof/Machine/Tables.lean ====
section
/-! DEFINITION. The sine and cosine tables of the part (R75). The manual defines the entries as 2047 times the sine and
the cosine, rounded to the nearest integer; the first quarter of the sine is listed and the rest follows by symmetry. -/

namespace Sys2Proof.Machine

/-- S[0] to S[31] (R75). -/
def sineQuarter0 : List Nat :=
  [0, 13, 25, 38, 50, 63, 75, 88, 100, 113, 126, 138, 151, 163, 176, 188,
   201, 213, 226, 238, 251, 263, 275, 288, 300, 313, 325, 338, 350, 362, 375, 387]

/-- S[32] to S[63] (R75). -/
def sineQuarter1 : List Nat :=
  [399, 412, 424, 436, 449, 461, 473, 485, 497, 510, 522, 534, 546, 558, 570, 582,
   594, 606, 618, 630, 642, 654, 666, 678, 690, 701, 713, 725, 737, 748, 760, 772]

/-- S[64] to S[95] (R75). -/
def sineQuarter2 : List Nat :=
  [783, 795, 807, 818, 830, 841, 852, 864, 875, 887, 898, 909, 920, 932, 943, 954,
   965, 976, 987, 998, 1009, 1020, 1031, 1042, 1052, 1063, 1074, 1085, 1095, 1106, 1116, 1127]

/-- S[96] to S[127] (R75). -/
def sineQuarter3 : List Nat :=
  [1137, 1148, 1158, 1168, 1179, 1189, 1199, 1209, 1219, 1229, 1239, 1249, 1259, 1269, 1279, 1289,
   1299, 1308, 1318, 1328, 1337, 1347, 1356, 1365, 1375, 1384, 1393, 1402, 1411, 1421, 1430, 1439]

/-- S[128] to S[159] (R75). -/
def sineQuarter4 : List Nat :=
  [1447, 1456, 1465, 1474, 1483, 1491, 1500, 1508, 1517, 1525, 1533, 1542, 1550, 1558, 1566, 1574,
   1582, 1590, 1598, 1606, 1614, 1621, 1629, 1637, 1644, 1652, 1659, 1666, 1674, 1681, 1688, 1695]

/-- S[160] to S[191] (R75). -/
def sineQuarter5 : List Nat :=
  [1702, 1709, 1716, 1723, 1729, 1736, 1743, 1749, 1756, 1762, 1769, 1775, 1781, 1787, 1793, 1799,
   1805, 1811, 1817, 1823, 1828, 1834, 1840, 1845, 1850, 1856, 1861, 1866, 1871, 1876, 1881, 1886]

/-- S[192] to S[223] (R75). -/
def sineQuarter6 : List Nat :=
  [1891, 1896, 1901, 1905, 1910, 1914, 1919, 1923, 1927, 1932, 1936, 1940, 1944, 1948, 1951, 1955,
   1959, 1962, 1966, 1969, 1973, 1976, 1979, 1983, 1986, 1989, 1992, 1994, 1997, 2000, 2003, 2005]

/-- S[224] to S[255] (R75). -/
def sineQuarter7 : List Nat :=
  [2008, 2010, 2012, 2015, 2017, 2019, 2021, 2023, 2025, 2027, 2028, 2030, 2032, 2033, 2035, 2036,
   2037, 2038, 2039, 2040, 2041, 2042, 2043, 2044, 2045, 2045, 2046, 2046, 2046, 2047, 2047, 2047]

/-- S[256] to S[256] (R75). -/
def sineQuarter8 : List Nat :=
  [2047]

/-- S[0] to S[256] (R75). -/
def sineQuarter : List Nat :=
  sineQuarter0 ++ sineQuarter1 ++ sineQuarter2 ++ sineQuarter3 ++ sineQuarter4 ++ sineQuarter5 ++ sineQuarter6 ++ sineQuarter7 ++ sineQuarter8

/-- The table S of R75 at index m modulo 1024, from its first quarter: S rises to S[256], falls back over the second
quarter, and changes sign over the second half. -/
def sinTable (m : Nat) : Int :=
  let k := m % 1024
  let q := fun j => (sineQuarter.getD j 0 : Int)
  if k ≤ 256 then q k
  else if k ≤ 512 then q (512 - k)
  else if k ≤ 768 then - q (k - 512)
  else - q (1024 - k)

/-- The table C of R75: the cosine leads the sine by a quarter of a turn. -/
def cosTable (m : Nat) : Int := sinTable (m + 256)

end Sys2Proof.Machine
end

