-- ==== Sys2Proof/Machine/Pilots.lean ====
section
/-! DEFINITION. PLG's and TTG's oscillators at a pilot step (R83 to R87, R90), the pulses of a step, and the expiry of the test
claim (R94). -/

namespace Sys2Proof.Machine
open Sys2Proof

/-- R83: the term of an active tone at a phase. -/
def toneTerm (phase : Nat) : Int := roundNearest (16 * sinTable phase) 2047

/-- R84: the step size of a pilot oscillator of station n. -/
def stepSize (n : Nat) (m : PilotMode) : Nat :=
  match m with
  | .normal => normalBin n
  | .fill => fillBin n

/-- R84, R87: an oscillator at the end of a step: its phase advances by the step size of its mode if it took part in the step. -/
def Osc.endStep (o : Osc) (n : Nat) : Osc :=
  if o.on && o.inStep then { o with phase := (o.phase + stepSize n o.mode) % 1024 } else o

/-- R90: the test oscillator at the end of a step. -/
def Ttg.endStep (g : Ttg) : Ttg :=
  if g.held && g.inStep then { g with phase := (g.phase + g.bin.getD 0) % 1024 } else g

/-- R83: the count of an output in a step: the mid level, and the terms of the pilot and of the test tone where they are active. -/
def stepCount (p : Fin 4) (o : Osc) (g : Ttg) : Nat :=
  (32 + (if o.on then toneTerm o.phase else 0) + (if g.held ∧ g.path = some p then toneTerm g.phase else 0)).toNat

/-- R83, R84, R87, R90: one step ends, and the next begins with the counts of the tones then active. -/
def State.pilotStep (s : State) : State :=
  if s.awake then
    let osc := each (fun o => { (o.endStep (s.station.getD 0)) with inStep := o.on }) s.plg.osc
    let g := { s.ttg.endStep with inStep := s.ttg.held }
    { s with plg := { osc := osc, count := .ofFn fun p => stepCount p osc[p] g }, ttg := g }
  else s

/-- PILOT_STEP (R83). -/
def execPilotStep (s : State) : Host.Outcome State Fault Refusal := .next s.pilotStep

/-- R83: the levels of pilot output p over the 64 pulse periods of the step in progress; low while RSTN is low. -/
def State.pilotPulses (s : State) (p : Fin 4) : List Bool := (List.range 64).map (pulseHigh s.plg.count[p])

/-- R94, R96: the claim expires: the record becomes FREE and a TEST notice is asked for. -/
def State.testExpiry (s : State) : State :=
  if s.running && s.ttg.held && s.ttg.time.due then State.askNotice .test false { s with ttg := .free } else s

/-- TEST_EXPIRY (R94). -/
def execTestExpiry (s : State) : Host.Outcome State Fault Refusal := .next s.testExpiry

end Sys2Proof.Machine
end

