-- ==== Sys2Proof/Machine/Pool.lean ====
section
/-! DEFINITION. TCR's pool lanes: allocation, renewal, drop and expiry of watches (R66 to R72). -/

namespace Sys2Proof.Machine
open Sys2Proof

/-- R63: a pool lane that becomes FREE. It keeps the channel and thresholds of its last watch until it is tuned anew. -/
def Lane.freed (l : Lane) : Lane :=
  { l with
    state := .free, owner := .absent, bin := none, partner := none, combine := none, remaining := none, present := false,
    lastPower := none, limit := false, x := 0, y := 0, phase := 0, combined := false }

/-- Whether lane j belongs to the watch that holds lane i: it is i, or i's partner. -/
def inWatch (lanes : Vector Lane 16) (i j : Fin 16) : Bool := j = i || lanes[i].partner = some j

/-- R70, R71: the watch that holds lane i freed, with both lanes of a pair, and the TONE subject notified (R81). -/
def State.freeWatch (i : Fin 16) (s : State) : State :=
  State.askNotice .tone false
    { s with tcr := .ofFn fun j => if inWatch s.tcr i j then s.tcr[j].freed else s.tcr[j] }

/-- R67, R68: a lane as an allocation tunes it. -/
def Lane.allocated (requester : Byte) (channel : Fin 8) (bin on off secs : Nat) (pair : Option (Fin 16 × Combine)) : Lane :=
  { state := .starting, owner := .station requester, channel := channel, bin := some bin, phase := 0, x := 0, y := 0,
    on := on, off := off, present := false, lastPower := none, limit := false, partner := pair.map (·.1),
    combine := pair.map (·.2), remaining := some (.ofSecs secs), combined := false }

/-- Whether lane i is a FREE pool lane. -/
def poolFree (lanes : Vector Lane 16) (i : Fin 16) : Bool := 8 ≤ i.val && lanes[i].state = .free

/-- R67: the lowest-numbered FREE pool lane. -/
def freeLane (lanes : Vector Lane 16) : Option (Fin 16) := (List.finRange 16).find? (poolFree lanes)

/-- The lane after an even lane. -/
def nextLane (i : Fin 16) : Fin 16 := i + 1

/-- R68: the lowest pair position whose two lanes are both FREE. -/
def freePair (lanes : Vector Lane 16) : Option (Fin 16) :=
  (List.finRange 16).find? fun i => i.val % 2 = 0 && poolFree lanes i && poolFree lanes (nextLane i)

/-- R69: whether lane i is, or is the even lane of, the watch of the requester that a request matches. -/
def matchesWatch (lanes : Vector Lane 16) (requester : Byte) (a : WatchArgs) (i : Fin 16) : Bool :=
  let l := lanes[i]
  8 ≤ i.val && l.state != .free && l.owner = .station requester && l.channel = a.channel && l.bin = some a.bin &&
    match a.second with
    | none => l.partner = none
    | some (bin2, mode) =>
      i.val % 2 = 0 && l.partner = some (nextLane i) && l.combine = some mode && lanes[nextLane i].bin = some bin2

/-- R69: the watch that a request matches. -/
def matchingWatch (lanes : Vector Lane 16) (requester : Byte) (a : WatchArgs) : Option (Fin 16) :=
  (List.finRange 16).find? (matchesWatch lanes requester a)

/-- R69: the watch that holds lane i renewed for a number of seconds. -/
def renewed (lanes : Vector Lane 16) (i : Fin 16) (secs : Nat) : Vector Lane 16 :=
  .ofFn fun j => if inWatch lanes i j then { lanes[j] with remaining := some (.ofSecs secs) } else lanes[j]

/-- R67, R68: the lane table after a watch is allocated at lane i (the even lane of a pair). -/
def allocate (lanes : Vector Lane 16) (requester : Byte) (a : WatchArgs) (on off : Nat) (i : Fin 16) : Vector Lane 16 :=
  match a.second with
  | none => lanes.set i.val (Lane.allocated requester a.channel a.bin on off a.secs none) i.isLt
  | some (bin2, mode) =>
    (lanes.set i.val (Lane.allocated requester a.channel a.bin on off a.secs (some (nextLane i, mode))) i.isLt).set
      (nextLane i).val (Lane.allocated requester a.channel bin2 on off a.secs (some (i, mode))) (nextLane i).isLt

/-- R67 to R69, R81: TCR takes a TONE_WATCH that passes R66: the state after it, and the lane answered, or none for NO_LANE. -/
def State.toneWatch (requester : Byte) (a : WatchArgs) (s : State) : State × Option (Fin 16) :=
  match matchingWatch s.tcr requester a with
  | some i => ({ s with tcr := renewed s.tcr i a.secs }, some i)
  | none =>
    match (if a.second.isSome then freePair s.tcr else freeLane s.tcr) with
    | some i =>
      (State.askNotice .tone false
        { s with tcr := allocate s.tcr requester a s.settings.poolOn s.settings.poolOff i }, some i)
    | none => (s, none)

/-- R70: the watch that holds a lane expires: its lanes become FREE and a TONE notice is asked for. -/
def State.watchExpiry (i : Fin 16) (s : State) : State :=
  if s.running && 8 ≤ i.val && (s.tcr[i].remaining.map (·.due)).getD false then s.freeWatch i else s

/-- WATCH_EXPIRY (R70). -/
def execWatchExpiry (i : Fin 16) (s : State) : Host.Outcome State Fault Refusal := .next (s.watchExpiry i)

end Sys2Proof.Machine
end

