-- ==== Sys2Proof/Machine/Compose.lean ====
section
/-! DEFINITION. The bodies the part composes: STATE (R158), NOTICE (R160) and the results of the QUERY answers (12.4). -/

namespace Sys2Proof.Machine
open Sys2Proof

/-- A one-byte field. -/
def byte (n : Nat) : Byte := BitVec.ofNat 8 n

/-- A one-bit field at place i (R170). -/
def bit (b : Bool) (i : Nat) : Nat := if b then 2 ^ i else 0

/-- A one-byte field whose absent value is 0xFF (R170). -/
def byteOr (v : Option Nat) : Byte := byte (v.getD 255)

/-- A two-byte reading, mean or window whose absent or stopped value is all ones (R170). -/
def wordOr (v : Option Nat) : List Byte := be16 (v.getD 65535)

/-- A stamp's four bytes, 0 when it is absent (R170). -/
def stampOr (v : Option Stamp) : List Byte := be32 (v.getD 0).toNat

/-- The value of a LINE MASK (R170). -/
def maskValue (f : Fin 12 → Bool) : Nat := (List.finRange 12).foldl (fun a n => a + bit (f n) n.val) 0

/-- A LINE MASK (R170). -/
def lineMask (f : Fin 12 → Bool) : List Byte := be16 (maskValue f)

/-- The levels of the hut lines. -/
def Stu.levelMask (u : Stu) : List Byte := lineMask fun n => u.lines[n].level

/-- The flags of the hut lines. -/
def Stu.flagMask (u : Stu) : List Byte := lineMask fun n => u.lines[n].flag

/-- The FAN_STALL flags of the hut lines. -/
def Stu.stallMask (u : Stu) : List Byte := lineMask fun n => u.lines[n].fanStall

/-- The reading of AIN(8 + i). -/
def State.reading (s : State) (i : Fin 10) : Option Nat := s.smp.readings[i]

/-- R82: the pool lanes not FREE. -/
def State.poolInUse (s : State) : Nat := countFin 16 fun i => 8 ≤ i.val && s.tcr[i].state != .free

/-- 12.2: the two bytes of path p in a STATE body. -/
def State.statePath (s : State) (p : Fin 4) : List Byte :=
  let r := s.pmn[p]
  let v := s.vde[p].verdict
  [byte (64 * (s.kind p).code + 8 * r.input.code + bit s.plg.osc[p].mode.isFill 2 + bit r.outputLow 1 + bit r.biasHigh 0),
   byte (16 * v.code + v.owner.code)]

/-- R122: the four flags of a neighbour record in a STATE body. -/
def NbRec.stateFlags (r : NbRec) : Nat := bit r.heard 0 + bit r.stale 1 + bit r.cutOff 2 + bit r.mismatch 3

/-- R158, 12.2: the STATE body. -/
def State.stateBody (s : State) : List Byte :=
  [byte (outcomeCode s.cfl.outcome), byte (reasonCode s.cfl.reason)] ++
  s.statePath 0 ++ s.statePath 1 ++ s.statePath 2 ++ s.statePath 3 ++
  [byte (bit s.stu.dying 0 + bit s.stu.hot 1 + bit s.stu.filter 2)] ++
  s.stu.stallMask ++ s.stu.levelMask ++
  [byte (s.nbv.west.stateFlags + 16 * s.nbv.east.stateFlags), byte (s.west.link.code + 4 * s.east.link.code),
   byte s.stu.total, byte s.poolInUse,
   byte s.rly.relayDrops, byte s.rly.malformed, byte s.rly.ownOrigin, byte s.rqh.dropped]

/-- R160, 12.3: the body of a PATHp notice. -/
def State.pathBody (s : State) (p : Fin 4) (prompted : Bool) : List Byte :=
  let r := s.pmn[p]
  let v := s.vde[p]
  [byte p.val, byte v.verdict.code, byte v.evidence.code,
   byte (bit v.late 0 + bit prompted 1 + bit r.outputLow 2 + bit r.biasHigh 3 + bit s.plg.osc[p].mode.isFill 4 +
     bit r.lossStamp.isSome 5),
   byte r.input.code, byte s.settings.paths[p].upstream.val] ++
  wordOr r.inMean ++ wordOr r.outMean ++ stampOr r.lossStamp ++ [byte v.flaps]

/-- R160, 12.3: the TONE body. -/
def State.toneBody (s : State) : List Byte :=
  let pool := fun (f : Lane → Bool) =>
    (List.finRange 16).foldl (fun a i => if 8 ≤ i.val then a + bit (f s.tcr[i]) (i.val - 8) else a) 0
  let held := fun (i : Fin 16) => s.tcr[i].state != .free && s.tcr[i].partner.isSome
  [byte 7, byte (pool fun l => l.state != .free), byte (pool (·.present)), byte (pool (·.limit)),
   byte (bit (held 8) 0 + bit (held 10) 1 + bit (held 12) 2 + bit (held 14) 3 +
     bit (held 8 && s.tcr[(8 : Fin 16)].combined) 4 + bit (held 10 && s.tcr[(10 : Fin 16)].combined) 5 +
     bit (held 12 && s.tcr[(12 : Fin 16)].combined) 6 + bit (held 14 && s.tcr[(14 : Fin 16)].combined) 7)]

/-- A station number that may be absent, in one byte (R170). -/
def stationOr (v : Option Byte) : Byte := v.getD 0xFF

/-- R160, 12.3: the body of a NOTICE. Only a PATH notice carries the prompted value (R159). -/
def State.noticeBody (s : State) (subject : Subject) (prompted : Bool) : List Byte :=
  match subject with
  | .path p => s.pathBody p prompted
  | .power => [byte 4, byte (bit s.stu.dying 0)] ++ wordOr (s.reading 6)
  | .climate => [byte 5, byte (bit s.stu.hot 0 + bit s.stu.filter 1)] ++ s.stu.stallMask ++ wordOr (s.reading 5)
  | .lines => [byte 6] ++ s.stu.levelMask ++ s.stu.flagMask
  | .tone => s.toneBody
  | .test => [byte 8, byte s.ttg.held.toNat, stationOr s.ttg.holder] ++ be16 s.ttg.time.secs

/-- R28: the frame of an entry at a grant: a STATE or NOTICE composed from the part as it stands, an ANSWER as it
was fixed. -/
def State.composeEntry (s : State) (e : Entry) : Frame :=
  match e.item with
  | .state => s.originate .state 63 0 s.stateBody
  | .notice subject => s.originate .notice 63 0 (s.noticeBody subject e.prompted)
  | .answer _ frame => frame

/-! ### QUERY answers (12.4) -/

/-- R82: the results of a QUERY_LANE answer. An absent last power is sent as 0 (log entry 21). -/
def State.laneResults (s : State) (i : Fin 16) : List Byte :=
  let l := s.tcr[i]
  [byte i.val, byte l.state.code, l.owner.code, byte l.channel.val] ++ be16 (l.bin.getD 0) ++ be16 l.on ++ be16 l.off ++
  [byte (bit l.present 0 + bit l.limit 1 + bit l.lastPower.isSome 2 +
    bit (i.val % 2 = 0 && l.partner.isSome && l.combined) 3)] ++
  be32 (l.lastPower.getD 0) ++
  [byteOr (l.partner.map (·.val)), byteOr (l.combine.map (·.code))] ++
  be16 ((l.remaining.map (·.secs)).getD 0)

/-- R164: the results of a QUERY_PATH answer. -/
def State.pathResults (s : State) (p : Fin 4) : List Byte :=
  let r := s.pmn[p]
  let v := s.vde[p]
  [byte p.val, byte (s.kind p).code, byte s.settings.paths[p].upstream.val, byte v.verdict.code, byte v.verdict.owner.code,
   byte v.evidence.code, byteOr (v.cause.map (·.code)),
   byte (bit v.late 0 + bit r.outputLow 1 + bit r.biasHigh 2 + bit s.plg.osc[p].mode.isFill 3 +
     bit s.tcr[normalLane p].present 4 + bit s.tcr[fillLane p].present 5),
   byte (bit v.lossStamp.isSome 0 + bit v.watchStart.isSome 1 + bit r.lossStamp.isSome 2)] ++
  stampOr v.lossStamp ++ stampOr v.watchStart ++ wordOr v.window.left ++ be32 (v.holdOff.left.getD 4294967295) ++
  [byte v.toneAbsent, byte v.flaps, byte r.input.code, byte r.lossRun] ++ stampOr r.lossStamp ++
  wordOr r.inMean ++ wordOr r.outMean ++ wordOr (s.reading ⟨p.val, by omega⟩)

/-- 12.4: a tacho period in units of 257 µs, rounded up. -/
def periodByte (us : Nat) : Byte := byte ((us + 256) / 257)

/-- R164: the results of a QUERY_SITE answer. -/
def State.siteResults (s : State) : List Byte :=
  s.stu.levelMask ++ s.stu.flagMask ++
  be16 (maskValue (fun n => s.stu.lines[n].fanStall) + bit s.stu.dying 12 + bit s.stu.hot 13 + bit s.stu.filter 14) ++
  (List.finRange 12).map (fun n => periodByte s.stu.lines[n].period) ++
  (List.finRange 10).flatMap fun i => wordOr (s.reading i)

/-- R122: the results of a QUERY_NEIGHBOUR answer. An absent output-low or pilot mode is sent as 0 (log entry 21). -/
def State.neighbourResults (s : State) (side : Side) : List Byte :=
  let r := s.nb side
  let port := s.port side
  let four := fun (f : Summary → Bool) =>
    bit (f r.summaries[(0 : Fin 4)]) 0 + bit (f r.summaries[(1 : Fin 4)]) 1 + bit (f r.summaries[(2 : Fin 4)]) 2 +
      bit (f r.summaries[(3 : Fin 4)]) 3
  [byte (if side = .west then 0 else 1), byte r.station,
   byte (bit r.heard 0 + bit r.stale 1 + bit r.cutOff 2 + bit r.mismatch 3 + bit r.dying 4 + bit r.lastHeard.isSome 5 +
     bit port.lastUp.isSome 6 + bit port.lastDown.isSome 7),
   byte port.link.code] ++ stampOr r.lastHeard ++ stampOr port.lastUp ++ stampOr port.lastDown ++
  (List.finRange 4).flatMap (fun p =>
    let m := r.summaries[p]
    [byteOr (m.kind.map (·.code)), byteOr (m.input.map (·.code)), byteOr (m.verdict.map (·.code))]) ++
  [byte (four (·.outputLow.isSome) + 16 * four (·.outputLow.getD false)),
   byte (four (·.pilot.isSome) + 16 * four fun m => (m.pilot.map (·.isFill)).getD false)]

end Sys2Proof.Machine
end

