-- ==== Sys2Proof/Machine/Site.lean ====
section
/-! DEFINITION. STU (Chapter 10): hut lines, tachometers, climate and power, the commands of the hut lines and their timers,
and RPB's STATE period timer (R157). -/

namespace Sys2Proof.Machine
open Sys2Proof

/-! ### Lines -/

/-- The record of a line replaced by its image under f. -/
def State.modLine (n : Fin 12) (f : LineRec → LineRec) (s : State) : State :=
  { s with stu := { s.stu with lines := upd s.stu.lines n f } }

/-- R149: whether the stall condition holds for a line: a FAN with a pair, driven HIGH, whose tacho's period is 0. -/
def Stu.stalled (u : Stu) (n : Fin 12) : Bool :=
  match u.lines[n].fn, u.lines[n].paired with
  | .fan, some m => u.lines[n].level && u.lines[m].period = 0
  | _, _ => false

/-- R149: a line's stall timer and FAN_STALL brought to its stall condition. While the condition goes on holding, its timer is
running or FAN_STALL is set; when it starts to hold neither is so, and the timer starts at 5000 ms. -/
def LineRec.stallSettled (r : LineRec) (stalled : Bool) : LineRec :=
  if stalled then
    if r.stallTimer = .stopped && !r.fanStall then { r with stallTimer := .running 5000 } else r
  else { r with stallTimer := .stopped, fanStall := false }

/-- R149: every line brought to its stall condition. -/
def Stu.settleStall (u : Stu) : Stu := { u with lines := .ofFn fun n => u.lines[n].stallSettled (u.stalled n) }

/-- R149, R151: the stall conditions settled; a change of any FAN_STALL asks for a CLIMATE notice. -/
def State.settleStall (s : State) : State :=
  let s' := { s with stu := s.stu.settleStall }
  if (List.finRange 12).any fun n => s'.stu.lines[n].fanStall != s.stu.lines[n].fanStall then s'.askNotice .climate false
  else s'

/-! ### Power (R152, R153) and the STATE period timer (R157) -/

/-- R152: entry to DYING, in which SNQ takes the notice (R27), the STATE period timer stops, and the state is held. An event
that would enter DYING while the power state is DYING changes nothing. -/
def State.enterDying (s : State) : State :=
  if s.stu.dying then s
  else
    { s with
      stu := { s.stu with dying := true }
      snq := snqDying (s.isUp .west) (s.isUp .east) s.snq
      stateTimer := .stopped }

/-- R153: whether every POWER_GOOD line's level is HIGH. -/
def Stu.allPowerGood (u : Stu) : Bool := (List.finRange 12).all fun n => u.lines[n].fn != .powerGood || u.lines[n].level

/-- R153: whether the battery allows a return to NORMAL. -/
def State.batteryRevived (s : State) : Bool :=
  s.settings.dyingLevel = 0 ||
    match s.smp.readings[(6 : Fin 10)] with
    | some v => s.settings.reviveLevel ≤ v
    | none => false

/-- R153: the return to NORMAL: a POWER notice in REVIVED form, and the STATE period timer restarted with a STATE asked for. The
manual leaves open which request SNQ takes first (log entry 7). -/
def State.returnToNormal (s : State) : State :=
  let w := s.isUp .west
  let x := s.isUp .east
  let q :=
    if Config.stateBeforeRevived s.choices then snqAsk (.notice .power) false w x (snqAsk .state false w x s.snq)
    else snqAsk .state false w x (snqAsk (.notice .power) false w x s.snq)
  { s with
    stu := { s.stu with dying := false }
    snq := q
    stateTimer := .seconds s.settings.statePeriod
    choices := s.choices + 1 }

/-- R153: the return to NORMAL judged, while the power state is DYING. -/
def State.judgeRevival (s : State) : State :=
  if s.stu.dying && s.stu.allPowerGood && s.batteryRevived then s.returnToNormal else s

/-- R152, R153: a battery reading judged. -/
def State.judgeBattery (v : Nat) (s : State) : State :=
  if s.stu.dying then s.judgeRevival
  else if s.settings.dyingLevel ≠ 0 ∧ v < s.settings.dyingLevel then s.enterDying
  else s

/-- R157: the STATE period timer runs out: it restarts, and a STATE is asked for. -/
def State.statePeriodExpiry (s : State) : State :=
  if s.running && s.stateTimer = .due then
    State.askState { s with stateTimer := .seconds s.settings.statePeriod }
  else s

/-- STATE_PERIOD_EXPIRY (R157). -/
def execStatePeriodExpiry (s : State) : Host.Outcome State Fault Refusal := .next s.statePeriodExpiry

/-! ### Climate (R148, R150) -/

/-- R148: every FAN line driven HIGH while HOT is set, and at its requested level while it is clear. -/
def driveFans (hot : Bool) (lines : Vector LineRec 12) : Vector LineRec 12 :=
  each (fun r => if r.fn = .fan then { r with level := hot || r.requested } else r) lines

/-- R148, R149, R151: a cabinet temperature reading judged. -/
def State.judgeHot (v : Nat) (s : State) : State :=
  let hot := hotAfter s.settings.hotLimit s.settings.hotHysteresis s.stu.hot v
  if hot = s.stu.hot then s
  else
    State.settleStall
      (State.askNotice .climate false { s with stu := { s.stu with hot := hot, lines := driveFans hot s.stu.lines } })

/-- R150, R151: a filter pressure reading judged. -/
def State.judgeFilter (v : Nat) (s : State) : State :=
  let filter := filterAfter s.settings.filterLimit s.settings.siteMargin s.stu.filter v
  if filter = s.stu.filter then s else State.askNotice .climate false { s with stu := { s.stu with filter := filter } }

/-! ### HUT_LINE_CHANGE -/

/-- R144: an IN line's level changes: its trigger may set its flag, and a flag newly set with report on asks for a LINES
notice. -/
def State.inputChange (n : Fin 12) (level : Bool) (s : State) : State :=
  let r := s.stu.lines[n]
  let met := r.trigger.metBy r.level level
  let s' := s.modLine n fun r => { r with level := level, flag := r.flag || met }
  if met && !r.flag && r.report then s'.askNotice .lines false else s'

/-- R147: the period that an edge with stamp t gives after an edge with stamp a, clamped to 1 to 65,535 µs (log entry 10). -/
def tachoPeriod (a t : Stamp) : Nat := max 1 (min 65535 (interval a t))

/-- R147: a TACHO line's record after its pin takes a level at stamp t. -/
def LineRec.tachoChange (r : LineRec) (level : Bool) (t : Stamp) : LineRec :=
  if level then
    { r with
      level := true
      period := match r.lastEdge with | some a => tachoPeriod a t | none => r.period
      lastEdge := some t
      edgeTimer := .running 1000 }
  else { r with level := false }

/-- R152, R153: a POWER_GOOD line takes a level. -/
def State.powerGoodChange (n : Fin 12) (level : Bool) (s : State) : State :=
  let s := s.modLine n fun r => { r with level := level }
  if level then s.judgeRevival else s.enterDying

/-- R143: an input pin's change of level reaches STU at stamp t. -/
def State.lineEvent (n : Fin 12) (level : Bool) (t : Stamp) (s : State) : State :=
  match s.stu.lines[n].fn with
  | .inp => s.inputChange n level
  | .tacho => State.settleStall (s.modLine n fun r => r.tachoChange level t)
  | .powerGood => s.powerGoodChange n level
  | .out => s
  | .fan => s
  | .alarm => s

/-- R143: the pin of a line takes a level. In LOADING and in REPEATER_ONLY STU takes no event, and a level that is no change is
none. -/
def State.hutLineChange (n : Fin 12) (level : Bool) (t : Stamp) (s : State) : State :=
  let s := { s with pins := { s.pins with lines := s.pins.lines.set n.val level n.isLt } }
  if s.running && s.stu.lines[n].level != level then State.settleAlarms (s.lineEvent n level t) else s

/-- HUT_LINE_CHANGE (R143). -/
def execHutLineChange (n : Fin 12) (level : Bool) (t : Stamp) (s : State) : Host.Outcome State Fault Refusal :=
  .next ((s.moment t).hutLineChange n level t)

/-! ### EDGE_TIMER_EXPIRY and STALL_TIMER_EXPIRY -/

/-- R147, R149: a tacho's edge timer runs out: the period becomes 0 and the last edge stamp absent. -/
def State.edgeTimerExpiry (n : Fin 12) (s : State) : State :=
  if s.running && s.stu.lines[n].edgeTimer = .due then
    State.settleAlarms
      (State.settleStall (s.modLine n fun r => { r with period := 0, lastEdge := none, edgeTimer := .stopped }))
  else s

/-- EDGE_TIMER_EXPIRY (R147). -/
def execEdgeTimerExpiry (n : Fin 12) (s : State) : Host.Outcome State Fault Refusal := .next (s.edgeTimerExpiry n)

/-- R149, R151: a fan's stall timer runs out: FAN_STALL is set. -/
def State.stallTimerExpiry (n : Fin 12) (s : State) : State :=
  if s.running && s.stu.lines[n].stallTimer = .due then
    State.settleAlarms
      (State.askNotice .climate false (s.modLine n fun r => { r with stallTimer := .stopped, fanStall := true }))
  else s

/-- STALL_TIMER_EXPIRY (R149). -/
def execStallTimerExpiry (n : Fin 12) (s : State) : Host.Outcome State Fault Refusal := .next (s.stallTimerExpiry n)

/-! ### Requests on the lines (R145, R146) -/

/-- R144, R145: the line records after a LINES_ACK of a mask: a masked IN line's flag is cleared, and set again where a HIGH or
LOW trigger still holds. -/
def Stu.acknowledge (u : Stu) (mask : Vector Bool 12) : Stu :=
  { u with lines := .ofFn fun n =>
      let r := u.lines[n]
      if mask[n] && r.fn = .inp then { r with flag := r.trigger.heldBy r.level } else r }

/-- R146, R148: the line records after LINES_SET (`level` true) or LINES_CLEAR of a mask. -/
def Stu.request (u : Stu) (level : Bool) (mask : Vector Bool 12) : Stu :=
  { u with lines := .ofFn fun n =>
      let r := u.lines[n]
      if mask[n] && (r.fn = .out || r.fn = .fan) then
        { r with requested := level, level := if r.fn = .fan then u.hot || level else level }
      else r }

/-- R146: the lines whose driven level a request changed. -/
def changedLines (before after : Stu) (n : Fin 12) : Bool := before.lines[n].level != after.lines[n].level

end Sys2Proof.Machine
end

