-- ==== Sys2Proof/Machine/Requests.lean ====
section
/-! DEFINITION. RQH (Chapter 11): the answer slots and every request of 11.4 and 11.5. -/

namespace Sys2Proof.Machine
open Sys2Proof

/-- What executing a request gives RQH: a status with results, or nothing yet for an accepted PROBE (R163). -/
inductive Reply where
  | done (status : Status) (results : List Byte)
  | waiting
deriving DecidableEq, Repr

/-- R161: the lowest-numbered FREE slot. -/
def freeSlot (slots : Vector Slot 6) : Option (Fin 6) := (List.finRange 6).find? fun k => slots[k].state = .free

/-- R161: a request takes a slot. -/
def State.takeSlot (k : Fin 6) (rq : RequestHead) (body : List Byte) (s : State) : State :=
  let slot : Slot :=
    { state := .waiting, requester := rq.requester, tag := rq.tag, request := body.head?, broadcast := rq.broadcast }
  { s with rqh := { s.rqh with slots := s.rqh.slots.set k.val slot k.isLt } }

/-- R161: whether a request reaches RQH: not while RSTN is low, nor in REPEATER_ONLY (R16). -/
def State.takesRequests (s : State) : Bool := s.awake && s.cfl.phase != .repeaterOnly

/-- R161 to R163: RQH takes a request with the given body; in LOADING it answers NOT_READY, and otherwise `run`
judges and executes it in its slot. A notice that executing it asks for joins SNQ before its ANSWER entry (log entry 8). -/
def State.takeRequest (rq : RequestHead) (body : List Byte) (run : Fin 6 → State → State × Reply) (s : State) :
    State :=
  if s.takesRequests then
    let s := { s with rqh := { s.rqh with deliveries := s.rqh.deliveries.erase { head := rq, body := body } } }
    if s.station.isNone then s
    else
      match freeSlot s.rqh.slots with
      | none => { s with rqh := { s.rqh with dropped := satAdd s.rqh.dropped 1 } }
      | some k =>
        let s := s.takeSlot k rq body
        if s.cfl.phase = .loading then s.complete k .notReady []
        else
          match run k s with
          | (s, .done status results) => s.complete k status results
          | (s, .waiting) => s
  else s

/-- A request that changes nothing: its reply alone. -/
def answering (reply : State → Reply) (_ : Fin 6) (s : State) : State × Reply := (s, reply s)

/-! ### UNKNOWN_REQUEST -/

/-- UNKNOWN_REQUEST (R162). A body whose code names a request is not this command's. -/
def execUnknownRequest (rq : RequestHead) (body : List Byte) (t : Stamp) (s : State) : Host.Outcome State Fault Refusal :=
  let s := s.moment t
  .next (if (body.head?.map isRequestCode).getD false then s
    else s.takeRequest rq body (answering fun _ => .done .unknownRequest []))

/-! ### The queries -/

/-- R164: the reply to a QUERY_PATH. -/
def replyQueryPath (args : List Byte) (s : State) : Reply :=
  match byteArg 4 args with
  | some p => .done .ok (s.pathResults p)
  | none => .done .badArgument []

/-- QUERY_PATH (R164). -/
def execQueryPath (rq : RequestHead) (args : List Byte) (t : Stamp) (s : State) : Host.Outcome State Fault Refusal :=
  .next ((s.moment t).takeRequest rq (16 :: args) (answering (replyQueryPath args)))

/-- R164: the reply to a QUERY_SITE. -/
def replyQuerySite (args : List Byte) (s : State) : Reply :=
  match args with
  | [] => .done .ok s.siteResults
  | _ => .done .badArgument []

/-- QUERY_SITE (R164). -/
def execQuerySite (rq : RequestHead) (args : List Byte) (t : Stamp) (s : State) : Host.Outcome State Fault Refusal :=
  .next ((s.moment t).takeRequest rq (17 :: args) (answering (replyQuerySite args)))

/-- R82: the reply to a QUERY_LANE. -/
def replyQueryLane (args : List Byte) (s : State) : Reply :=
  match byteArg 16 args with
  | some i => .done .ok (s.laneResults i)
  | none => .done .badArgument []

/-- QUERY_LANE (R82). -/
def execQueryLane (rq : RequestHead) (args : List Byte) (t : Stamp) (s : State) : Host.Outcome State Fault Refusal :=
  .next ((s.moment t).takeRequest rq (18 :: args) (answering (replyQueryLane args)))

/-- R122: the reply to a QUERY_NEIGHBOUR. -/
def replyQueryNeighbour (args : List Byte) (s : State) : Reply :=
  match sideArg args with
  | some side => .done .ok (s.neighbourResults side)
  | none => .done .badArgument []

/-- QUERY_NEIGHBOUR (R122). -/
def execQueryNeighbour (rq : RequestHead) (args : List Byte) (t : Stamp) (s : State) : Host.Outcome State Fault Refusal :=
  .next ((s.moment t).takeRequest rq (29 :: args) (answering (replyQueryNeighbour args)))

/-! ### PROBE -/

/-- R56: a probe is offered to SMP, and joins the tail of a queue of up to 4. -/
def runProbe (args : List Byte) (k : Fin 6) (s : State) : State × Reply :=
  match byteArg 18 args with
  | some ch =>
    if s.smp.probes.length < 4 then
      ({ s with smp := { s.smp with probes := s.smp.probes ++ [{ channel := ch, slot := k }] } }, .waiting)
    else (s, .done .busy [])
  | none => (s, .done .badArgument [])

/-- PROBE (R56). -/
def execProbe (rq : RequestHead) (args : List Byte) (t : Stamp) (s : State) : Host.Outcome State Fault Refusal :=
  .next ((s.moment t).takeRequest rq (19 :: args) (runProbe args))

/-! ### TONE_WATCH and TONE_DROP -/

/-- R66 to R69: a TONE_WATCH is taken by TCR. -/
def runToneWatch (requester : Byte) (args : List Byte) (_ : Fin 6) (s : State) : State × Reply :=
  match watchArgs args with
  | some a =>
    match s.toneWatch requester a with
    | (s', some i) => (s', .done .ok [byte i.val])
    | (s', none) => (s', .done .noLane [])
  | none => (s, .done .badArgument [])

/-- TONE_WATCH (R66). -/
def execToneWatch (rq : RequestHead) (args : List Byte) (t : Stamp) (s : State) : Host.Outcome State Fault Refusal :=
  .next ((s.moment t).takeRequest rq (20 :: args) (runToneWatch rq.requester args))

/-- R71: a TONE_DROP is taken by TCR. The lane number it answers is the one named, also of a pair (log entry 22). -/
def runToneDrop (requester : Byte) (args : List Byte) (_ : Fin 6) (s : State) : State × Reply :=
  match byteArg 16 args with
  | some i =>
    if i.val < 8 then (s, .done .notOwner [])
    else if s.tcr[i].state = .free then (s, .done .notHeld [])
    else if s.tcr[i].owner = .station requester then (s.freeWatch i, .done .ok [byte i.val])
    else (s, .done .notOwner [])
  | none => (s, .done .badArgument [])

/-- TONE_DROP (R71). -/
def execToneDrop (rq : RequestHead) (args : List Byte) (t : Stamp) (s : State) : Host.Outcome State Fault Refusal :=
  .next ((s.moment t).takeRequest rq (21 :: args) (runToneDrop rq.requester args))

/-! ### GEN_CLAIM and GEN_RELEASE -/

/-- R92: the test record as a claim of a FREE record, or the holder's claim of another path or bin, sets it. -/
def Ttg.claimed (requester : Byte) (a : ClaimArgs) : Ttg :=
  { held := true, holder := some requester, path := some a.path, bin := some a.bin, time := .ofSecs a.secs, phase := 0,
    inStep := false }

/-- R92: the results of a GEN_CLAIM answered OK. -/
def claimResults (a : ClaimArgs) : List Byte := [byte a.path.val] ++ be16 a.bin ++ be16 a.secs

/-- R91, R92, R96: a GEN_CLAIM is taken by TTG. Its TEST notice is asked for before its answer (log entry 8). -/
def runGenClaim (requester : Byte) (args : List Byte) (_ : Fin 6) (s : State) : State × Reply :=
  match claimArgs args with
  | some a =>
    if s.kind a.path = .unused then (s, .done .badArgument [])
    else if s.ttg.held then
      if s.ttg.holder = some requester then
        if s.ttg.path = some a.path ∧ s.ttg.bin = some a.bin then
          ({ s with ttg := { s.ttg with time := .ofSecs a.secs } }, .done .ok (claimResults a))
        else ({ s with ttg := .claimed requester a }, .done .ok (claimResults a))
      else (s, .done .held (stationOr s.ttg.holder :: be16 s.ttg.time.secs))
    else (State.askNotice .test false { s with ttg := .claimed requester a }, .done .ok (claimResults a))
  | none => (s, .done .badArgument [])

/-- GEN_CLAIM (R92). -/
def execGenClaim (rq : RequestHead) (args : List Byte) (t : Stamp) (s : State) : Host.Outcome State Fault Refusal :=
  .next ((s.moment t).takeRequest rq (22 :: args) (runGenClaim rq.requester args))

/-- R93, R96: a GEN_RELEASE is taken by TTG. Its TEST notice is asked for before its answer (log entry 8). -/
def runGenRelease (requester : Byte) (args : List Byte) (_ : Fin 6) (s : State) : State × Reply :=
  match args with
  | [] =>
    if s.ttg.held then
      if s.ttg.holder = some requester then (State.askNotice .test false { s with ttg := .free }, .done .ok [])
      else (s, .done .notOwner [])
    else (s, .done .notHeld [])
  | _ => (s, .done .badArgument [])

/-- GEN_RELEASE (R93). -/
def execGenRelease (rq : RequestHead) (args : List Byte) (t : Stamp) (s : State) : Host.Outcome State Fault Refusal :=
  .next ((s.moment t).takeRequest rq (23 :: args) (runGenRelease rq.requester args))

/-! ### LINES_SET, LINES_CLEAR and LINES_ACK -/

/-- R146: a LINES_SET or LINES_CLEAR is taken by STU. -/
def runLines (level : Bool) (args : List Byte) (_ : Fin 6) (s : State) : State × Reply :=
  match maskArg args with
  | some mask =>
    let after := s.stu.request level mask
    (State.settleAlarms (State.settleStall { s with stu := after }),
      .done .ok (s.stu.levelMask ++ lineMask (changedLines s.stu after)))
  | none => (s, .done .badArgument [])

/-- LINES_SET (R146). -/
def execLinesSet (rq : RequestHead) (args : List Byte) (t : Stamp) (s : State) : Host.Outcome State Fault Refusal :=
  .next ((s.moment t).takeRequest rq (24 :: args) (runLines true args))

/-- LINES_CLEAR (R146). -/
def execLinesClear (rq : RequestHead) (args : List Byte) (t : Stamp) (s : State) : Host.Outcome State Fault Refusal :=
  .next ((s.moment t).takeRequest rq (25 :: args) (runLines false args))

/-- R145: a LINES_ACK is taken by STU. -/
def runLinesAck (args : List Byte) (_ : Fin 6) (s : State) : State × Reply :=
  match maskArg args with
  | some mask => ({ s with stu := s.stu.acknowledge mask }, .done .ok s.stu.flagMask)
  | none => (s, .done .badArgument [])

/-- LINES_ACK (R145). -/
def execLinesAck (rq : RequestHead) (args : List Byte) (t : Stamp) (s : State) : Host.Outcome State Fault Refusal :=
  .next ((s.moment t).takeRequest rq (26 :: args) (runLinesAck args))

/-! ### RECHECK -/

/-- R139: a RECHECK is taken by VDE. -/
def runRecheck (args : List Byte) (_ : Fin 6) (s : State) : State × Reply :=
  match byteArg 4 args with
  | some p =>
    if s.vde[p].verdict = .notApplicable then (s, .done .notApplicable [])
    else
      let s := State.settleAlarms (s.recheckPath p)
      (s, .done .ok [byte p.val, byte s.vde[p].verdict.code])
  | none => (s, .done .badArgument [])

/-- RECHECK (R139). -/
def execRecheck (rq : RequestHead) (args : List Byte) (t : Stamp) (s : State) : Host.Outcome State Fault Refusal :=
  .next ((s.moment t).takeRequest rq (27 :: args) (runRecheck args))

/-! ### RESTART_REQUEST -/

/-- R162, R167: a RESTART is judged; an accepted one sets the restart pending flag. -/
def runRestart (broadcast : Bool) (args : List Byte) (k : Fin 6) (s : State) : State × Reply :=
  match args with
  | [] =>
    if broadcast then (s, .done .notApplicable [])
    else if s.rqh.restartPending.isSome then (s, .done .busy [])
    else ({ s with rqh := { s.rqh with restartPending := some k } }, .done .ok [])
  | _ => (s, .done .badArgument [])

/-- RESTART_REQUEST (R167). -/
def execRestartRequest (rq : RequestHead) (args : List Byte) (t : Stamp) (s : State) : Host.Outcome State Fault Refusal :=
  .next ((s.moment t).takeRequest rq (28 :: args) (runRestart rq.broadcast args))

end Sys2Proof.Machine
end

