-- ==== Sys2Proof/Machine/Sampler.lean ====
section
/-! DEFINITION. The sampler's events (Chapter 4) and what TCR (Chapter 5), PLG's mode inputs (R86) and PMN (Chapter 7) do with
them. -/

namespace Sys2Proof.Machine
open Sys2Proof

/-! ### PLG's mode inputs (R86, R88) -/

/-- R86: an oscillator with its mode decided by its two mode inputs. -/
def Osc.decided (o : Osc) : Osc := { o with mode := if o.lossIn || o.fillIn then .fill else .normal }

/-- R86, R88: an oscillator of path p replaced after a mode input; a change of mode asks for a PATHp notice. -/
def State.setOsc (p : Fin 4) (o : Osc) (s : State) : State :=
  let s' := { s with plg := { s.plg with osc := s.plg.osc.set p.val o p.isLt } }
  if o.mode = s.plg.osc[p].mode then s' else s'.askNotice (.path p) false

/-- R86: the loss input of path p replaced. -/
def State.lossInput (p : Fin 4) (v : Bool) (s : State) : State :=
  s.setOsc p { s.plg.osc[p] with lossIn := v }.decided

/-- R86: the fill input of path p replaced. -/
def State.fillInput (p : Fin 4) (v : Bool) (s : State) : State :=
  s.setOsc p { s.plg.osc[p] with fillIn := v }.decided

/-! ### BLOCK_START -/

/-- R73: a lane at a block start. -/
def Lane.atBlockStart (l : Lane) : Lane :=
  if l.state = .starting then { l with state := .running, phase := 0, x := 0, y := 0 } else l

/-- R98, R101: a path record at a block start. -/
def PathRec.atBlockStart (r : PathRec) (monitored : Bool) : PathRec :=
  { r with inSum := 0, outSum := 0, lossAtStart := if monitored then r.input = .loss else r.lossAtStart }

/-- R51: a block starts where one is due, at slot 0 of cycle 0. -/
def State.blockStart (s : State) : State :=
  if s.running && s.smp.scanning && s.smp.block = .startDue then
    { s with
      smp := { s.smp with block := .inProgress, cycle := 0, slot := 0 }
      tcr := each Lane.atBlockStart s.tcr
      pmn := .ofFn fun p => s.pmn[p].atBlockStart (s.monitored p) }
  else s

/-- BLOCK_START (R51). -/
def execBlockStart (s : State) : Host.Outcome State Fault Refusal := .next s.blockStart

/-! ### TAP_SAMPLE -/

/-- R74: a lane takes a tap sample of channel ch. -/
def Lane.accumulate (ch : Fin 8) (code : Nat) (l : Lane) : Lane :=
  if l.state = .running && l.channel = ch then
    { l with
      x := l.x + code * cosTable l.phase
      y := l.y + code * sinTable l.phase
      phase := (l.phase + l.bin.getD 0) % 1024 }
  else l

/-- R98: a sample added to the sum of its channel, AIN0 to AIN3 the input sums and AIN4 to AIN7 the output sums. -/
def addSample (ch : Fin 8) (code : Nat) (pmn : Vector PathRec 4) : Vector PathRec 4 :=
  .ofFn fun p =>
    let r := pmn[p]
    if ch.val = p.val then { r with inSum := r.inSum + code }
    else if ch.val = p.val + 4 then { r with outSum := r.outSum + code }
    else r

/-- R100, R101: path p enters LOSS with the given loss stamp: a loss event to VDE for a SPAN path, the loss
input to PLG, and a PATHp notice. -/
def State.enterLoss (p : Fin 4) (stamp : Stamp) (s : State) : State :=
  let s := { s with pmn := upd s.pmn p fun r => { r with input := .loss, lossStamp := some stamp } }
  let s := State.lossInput p true (s.askNotice (.path p) false)
  if s.kind p = .span then s.lossEvent p stamp else s

/-- R99, R100: the loss comparator of path p takes a sample with stamp t. -/
def State.compareLoss (p : Fin 4) (code : Nat) (t : Stamp) (s : State) : State :=
  if s.monitored p then
    let c := s.settings.paths[p]
    let before := s.pmn[p]
    let run := if code < c.loss then satAdd before.lossRun 1 else 0
    let s := { s with pmn := upd s.pmn p fun r => { r with lossRun := run } }
    if code < c.loss ∧ run = c.lossRunLength ∧ before.input ≠ .loss then s.enterLoss p t else s
  else s

/-- R49: whether slot k is the one that SMP converts next. -/
def State.atSlot (s : State) (k : Fin 9) : Bool :=
  s.running && s.smp.scanning && s.smp.block = .inProgress && s.smp.slot = k

/-- R49, R50: the tap whose slot it is gives its sample, which is handed to TCR's lanes, to PMN's sum and, for an input tap, to the loss
comparator; the next slot follows. -/
def State.tapSample (ch : Fin 8) (code : Code) (t : Stamp) (s : State) : State :=
  if s.atSlot ch.castSucc then
    let s := { s with
      smp := { s.smp with slot := ch.succ }
      tcr := each (Lane.accumulate ch code.toNat) s.tcr
      pmn := addSample ch code.toNat s.pmn }
    State.settleAlarms (if h : ch.val < 4 then s.compareLoss ⟨ch.val, h⟩ code.toNat t else s)
  else s

/-- TAP_SAMPLE (R50). -/
def execTapSample (ch : Fin 8) (code : Code) (t : Stamp) (s : State) : Host.Outcome State Fault Refusal :=
  .next ((s.moment t).tapSample ch code t)

/-! ### BLOCK_END: TCR (R77 to R81) -/

/-- R77, R78: a lane at a block end. -/
def Lane.evaluate (l : Lane) : Lane :=
  if l.state = .running then
    let pt := tonePower l.x l.y
    { l with
      limit := l.limit || isLimited (scaled l.x) || isLimited (scaled l.y)
      present := presentAfter l.present pt l.on l.off
      lastPower := some pt
      x := 0
      y := 0
      phase := 0 }
  else l

/-- R79: the combined result of the even lane at position i of an evaluated pair. -/
def combinedAt (lanes : Vector Lane 16) (i : Fin 16) : Lane :=
  let l := lanes[i]
  match l.combine, l.partner with
  | some mode, some j =>
    if l.state = .running ∧ i.val % 2 = 0 then { l with combined := mode.result l.present lanes[j].present } else l
  | _, _ => l

/-- R77 to R79: the lane table after a block end. -/
def evaluateLanes (lanes : Vector Lane 16) : Vector Lane 16 :=
  let evaluated := each Lane.evaluate lanes
  .ofFn fun i => combinedAt evaluated i

/-- R81: whether the change from one lane table to the next asks for a TONE notice at a block end: a pool lane's presence or a
combined result changes, or a limit flag becomes set. -/
def toneChanged (before after : Vector Lane 16) : Bool :=
  (List.finRange 16).any fun i =>
    8 ≤ i.val && (before[i].present != after[i].present || before[i].combined != after[i].combined ||
      before[i].limit != after[i].limit)

/-- R80: what TCR hands PLG and VDE of path p at a block end. -/
def State.handLaneResult (before : Vector Lane 16) (p : Fin 4) (s : State) : State :=
  if s.kind p = .span ∧ s.tcr[normalLane p].state = .running then
    let fill := s.tcr[fillLane p].present
    let s := if before[fillLane p].present = fill then s else s.fillInput p fill
    s.laneResult p s.tcr[normalLane p].present fill
  else s

/-- R77 to R81: TCR takes a block end. -/
def State.tcrBlockEnd (s : State) : State :=
  let before := s.tcr
  let s := { s with tcr := evaluateLanes before }
  let s := if toneChanged before s.tcr then s.askNotice .tone false else s
  (List.finRange 4).foldl (fun s p => s.handLaneResult before p) s

/-! ### BLOCK_END: PMN (R98, R101 to R104) -/

/-- R98: a path record with its means formed and its sums returned to 0. -/
def PathRec.meansFormed (r : PathRec) : PathRec :=
  { r with inMean := some (r.inSum / 1024), outMean := some (r.outSum / 1024), inSum := 0, outSum := 0 }

/-- R101 to R103: path p, monitored, takes its input state from its input mean m at a block end with stamp t. -/
def State.judgeInput (p : Fin 4) (m : Nat) (t : Stamp) (s : State) : State :=
  let c := s.settings.paths[p]
  let r := s.pmn[p]
  match r.input with
  | .loss =>
    if restores c r.lossAtStart r.lossRun m then
      let s := { s with pmn := upd s.pmn p fun r => { r with input := lightState c m } }
      let s := State.lossInput p false (s.askNotice (.path p) false)
      if s.kind p = .span then s.restoreEvent p else s
    else s
  | .unknown =>
    if firstState c m = .loss then s.enterLoss p t
    else State.askNotice (.path p) false { s with pmn := upd s.pmn p fun r => { r with input := firstState c m } }
  | st =>
    if heldState c st m = st then s
    else State.askNotice (.path p) false { s with pmn := upd s.pmn p fun r => { r with input := heldState c st m } }

/-- R104: path p, monitored, judges output-low from its output mean n. -/
def State.judgeOutput (p : Fin 4) (n : Nat) (s : State) : State :=
  let r := s.pmn[p]
  let low := outputLowAfter s.settings.paths[p] r.outputLow n
  if low = r.outputLow then s
  else State.askNotice (.path p) false { s with pmn := upd s.pmn p fun r => { r with outputLow := low } }

/-- R98, R101 to R104: PMN takes a block end for path p. -/
def State.pmnPathEnd (t : Stamp) (p : Fin 4) (s : State) : State :=
  let m := s.pmn[p].inSum / 1024
  let n := s.pmn[p].outSum / 1024
  let s := { s with pmn := upd s.pmn p PathRec.meansFormed }
  if s.monitored p then State.judgeOutput p n (s.judgeInput p m t) else s

/-- R98, R101 to R104: PMN takes a block end. -/
def State.pmnBlockEnd (t : Stamp) (s : State) : State := (List.finRange 4).foldl (fun s p => s.pmnPathEnd t p) s

/-- R51: a block ends where its cycle 1023 is complete. TCR and PMN each take the event, in the order the command names (R125). -/
def State.blockEnd (pmnFirst : Bool) (t : Stamp) (s : State) : State :=
  if s.running && s.smp.scanning && s.smp.block = .endDue then
    let s := { s with smp := { s.smp with block := .startDue } }
    State.settleAlarms (if pmnFirst then (s.pmnBlockEnd t).tcrBlockEnd else s.tcrBlockEnd.pmnBlockEnd t)
  else s

/-- BLOCK_END (R51). -/
def execBlockEnd (pmnFirst : Bool) (t : Stamp) (s : State) : Host.Outcome State Fault Refusal :=
  .next ((s.moment t).blockEnd pmnFirst t)

/-! ### SHARED_SLOT (R52 to R55, R58) -/

/-- R105, R106: a bias reading of path p judged. -/
def State.judgeBias (p : Fin 4) (v : Nat) (s : State) : State :=
  let r := s.pmn[p]
  let high := biasHighAfter s.settings.paths[p].biasLimit s.settings.siteMargin r.biasHigh v
  if s.monitored p && high != r.biasHigh then
    State.askNotice (.path p) false { s with pmn := upd s.pmn p fun r => { r with biasHigh := high } }
  else s

/-- R55: a new reading v of AIN(8 + i) offered to the block that decides on it. -/
def State.offerReading (i : Fin 10) (v : Nat) (s : State) : State :=
  if h : i.val < 4 then s.judgeBias ⟨i.val, h⟩ v
  else if i.val = 5 then s.judgeHot v
  else if i.val = 6 then s.judgeBattery v
  else if i.val = 9 then s.judgeFilter v
  else s

/-- R53, R54: the slow channel under the pointer is converted to a code, and the pointer advances; the 32nd conversion forms its
reading. -/
def State.slowConversion (code : Nat) (s : State) : State :=
  let i := s.smp.slowPtr
  let sum := s.smp.slowSum[i] + code
  let full := decide (32 ≤ s.smp.slowCnt[i] + 1)
  let s := { s with smp := { s.smp with
    slowPtr := i + 1
    slowSum := s.smp.slowSum.set i.val (if full then 0 else sum) i.isLt
    slowCnt := s.smp.slowCnt.set i.val (if full then 0 else s.smp.slowCnt[i] + 1) i.isLt
    readings := if full then s.smp.readings.set i.val (some (sum / 32)) i.isLt else s.smp.readings } }
  if full then s.offerReading i (sum / 32) else s

/-- R58: the results of a PROBE: channel, code and stamp of the conversion. -/
def probeResults (channel : Fin 18) (code : Nat) (t : Stamp) : List Byte :=
  [BitVec.ofNat 8 channel.val] ++ be16 code ++ be32 t.toNat

/-- R49, R51: a scan cycle completes. The next follows, or, after cycle 1023, the block's end is due. -/
def Smp.cycleDone (m : Smp) : Smp :=
  { m with
    slot := 0
    cycle := (m.cycle + 1) % 1024
    block := if m.cycle = 1023 then .endDue else m.block }

/-- R52: slot 8 converts the oldest probe's channel, whose answer completes, or the slow channel under the pointer. The cycle
then completes (R49). -/
def State.sharedSlot (code : Code) (t : Stamp) (s : State) : State :=
  if s.atSlot 8 then
    let s := { s with smp := s.smp.cycleDone }
    match s.smp.probes with
    | probe :: rest =>
      State.complete probe.slot .ok (probeResults probe.channel code.toNat t) { s with smp := { s.smp with probes := rest } }
    | [] => State.settleAlarms (s.slowConversion code.toNat)
  else s

/-- SHARED_SLOT (R52). -/
def execSharedSlot (code : Code) (t : Stamp) (s : State) : Host.Outcome State Fault Refusal :=
  .next ((s.moment t).sharedSlot code t)

end Sys2Proof.Machine
end

