-- ==== Sys2Proof/Machine/Send.lean ====
section
/-! DEFINITION. The port arbiter (R31 to R34) and the two commands at which it grants. -/

namespace Sys2Proof.Machine
open Sys2Proof

/-- R33: the entry that the local source of a side would grant: the one nearest the head with the side's mark. -/
def State.localWork (s : State) (side : Side) : Option Entry := s.snq.find? (·.mark side)

/-- R33, first case: the POWER entry marked for the side while the power state is DYING. -/
def State.dyingWork (s : State) (side : Side) : Option Entry :=
  if s.stu.dying then s.snq.find? fun e => e.item = .notice .power && e.mark side else none

/-- What a grant sends: the head of the forward queue, or an entry of SNQ (R33). -/
inductive Granted where
  | forward (f : Frame)
  | entry (e : Entry)
deriving DecidableEq, Repr

/-- R33: what the arbiter of a side grants, if either source has work. -/
def State.choose (s : State) (side : Side) : Option Granted :=
  match s.dyingWork side with
  | some e => some (.entry e)
  | none =>
    match (s.port side).fwd, s.localWork side with
    | f :: _, some e => some (if (s.port side).marker = .forward then .entry e else .forward f)
    | f :: _, none => some (.forward f)
    | [], some e => some (.entry e)
    | [], none => none

/-- R21, R32: a grant of the forward source: its head frame passes whole to the transmitter. -/
def State.grantForward (side : Side) (f : Frame) (s : State) : State :=
  s.setPort side { s.port side with fwd := (s.port side).fwd.tail, marker := .forward, tx := some f }

/-- R28: an entry's mark for a side cleared in the list; the entry leaves if it has no mark left, and an ANSWER entry leaving
frees its slot. -/
def State.takeMark (side : Side) (e : Entry) (s : State) : State :=
  let q := s.snq.map fun x => if x = e then x.unmark side else x
  State.answersLeft ((q.filter (!·.marked)).filterMap Entry.slot?) { s with snq := q.filter Entry.marked }

/-- R28, R32: a grant of the local source: the entry's frame, composed at this moment, passes to the transmitter,
and its mark for the port is cleared. -/
def State.grantEntry (side : Side) (e : Entry) (s : State) : State :=
  State.takeMark side e
    (s.setPort side { s.port side with marker := .locally, tx := some (s.composeEntry e) })

/-- R31, R33: the arbiter of a side grants, when its port is UP, its transmitter is free and a source has work. -/
def State.grant (side : Side) (s : State) : State :=
  if s.isUp side && (s.port side).tx.isNone then
    match s.choose side with
    | some (.forward f) => s.grantForward side f
    | some (.entry e) => s.grantEntry side e
    | none => s
  else s

/-- R31: the transmitter of a side sends the closing delimiter of its frame and becomes free, and the arbiter grants if work
waits. A transmitter that holds no frame finishes none. -/
def State.transmitDone (side : Side) (s : State) : State :=
  if (s.port side).tx.isSome then State.grant side (s.setPort side { s.port side with tx := none }) else s

/-- TRANSMIT_DONE (R31). -/
def execTransmitDone (side : Side) (t : Stamp) (s : State) : Host.Outcome State Fault Refusal :=
  .next ((s.moment t).transmitDone side)

/-- GRANT_AT_SYMBOL_BOUNDARY (R31). -/
def execGrantAtSymbolBoundary (side : Side) (t : Stamp) (s : State) : Host.Outcome State Fault Refusal :=
  .next ((s.moment t).grant side)

end Sys2Proof.Machine
end

