-- ==== Sys2Proof/Machine/Start.lean ====
section
/-! DEFINITION. The millisecond tick (R1), the power-on reset and its release (R35, R36), the ends of a load (R38 to R44) and the entry to
RUNNING (R43). -/

namespace Sys2Proof.Machine
open Sys2Proof

/-! ### POWER_ON_RESET and RSTN_RELEASE -/

/-- R45: how the transaction on the I2C port stands when RSTN goes low: one in progress is abandoned without a STOP. -/
def I2c.abandon (i : I2c) : Option I2cEnd := if i.phase = .idle then i.ended else some .abandoned

/-- R35: RSTN goes low: the whole part is held in reset and the straps are sampled. The levels on the other pins are the world's. -/
def State.powerOnReset (straps : BitVec 6) (s : State) : State :=
  .held s.pins straps s.cfl.i2c.abandon s.choices s.pending

/-- POWER_ON_RESET (R35). -/
def execPowerOnReset (straps : BitVec 6) (s : State) : Host.Outcome State Fault Refusal := .next (s.powerOnReset straps)

/-- R36: RSTN goes high: the strap value is latched, the pilot outputs carry the mid level (R83), and a load begins. -/
def State.rstnRelease (straps : BitVec 6) (sdaHold : Option Nat) (s : State) : State :=
  if s.awake then s
  else
    State.startLoad { s with
      pins := { s.pins with rstn := true, sdaHold := sdaHold }
      plg := { s.plg with count := .replicate 4 32 }
      cfl := { s.cfl with strap := straps } }

/-- RSTN_RELEASE (R36). -/
def execRstnRelease (straps : BitVec 6) (sdaHold : Option Nat) (s : State) : Host.Outcome State Fault Refusal :=
  .next (s.rstnRelease straps sdaHold)

/-! ### MILLISECOND_TICK -/

/-- R1: the next millisecond tick, 1000 µs after the tick before. -/
def State.millisecondTick (s : State) : State := if s.awake then s.elapse (1000 - s.clk.sinceTick) 1 else s

/-- MILLISECOND_TICK (R1). -/
def execMillisecondTick (s : State) : Host.Outcome State Fault Refusal := .next s.millisecondTick

/-! ### The entry to RUNNING (R43) -/

/-- R64: a lane's thresholds once a load has ended: those of its path, or those of the pool. -/
def Lane.withThresholds (c : Settings) (i : Fin 16) (l : Lane) : Lane :=
  if i.val < 8 then
    let q := c.paths[(⟨i.val / 2 % 4, by omega⟩ : Fin 4)]
    { l with on := q.toneOn, off := q.toneOff }
  else { l with on := c.poolOn, off := c.poolOff }

/-- R65: an automatic lane at the entry to RUNNING: tuned to the upstream neighbour's normal or fill bin where its path is SPAN. -/
def Lane.tuned (c : Settings) (i : Fin 16) (l : Lane) : Lane :=
  let p : Fin 4 := ⟨i.val / 2 % 4, by omega⟩
  if i.val < 8 ∧ c.paths[p].kind = .span then
    let u := if p.val % 2 = 0 then c.west else c.east
    { l with state := .starting, bin := some (if i.val % 2 = 0 then normalBin u else fillBin u), limit := false }
  else l

/-- R143, R144, R156: the record of a line at the entry to RUNNING, with the level on its pin. -/
def LineRec.entered (c : LineSettings) (pin : Bool) : LineRec :=
  match c.fn with
  | .inp => { LineRec.reset with fn := .inp, level := pin, trigger := c.trigger, report := c.report,
                                 flag := c.trigger.heldBy pin }
  | .out => { LineRec.reset with fn := .out, level := c.startHigh, requested := c.startHigh }
  | .fan => { LineRec.reset with fn := .fan, level := c.startHigh, requested := c.startHigh, paired := c.paired }
  | .tacho => { LineRec.reset with fn := .tacho, level := pin }
  | .powerGood => { LineRec.reset with fn := .powerGood, level := pin }
  | .alarm => { LineRec.reset with fn := .alarm }

/-- R122: a neighbour record at the entry to RUNNING. -/
def NbRec.entered (station staleTime : Nat) (cutOff : Bool) : NbRec :=
  { NbRec.reset cutOff with station := station, staleTimer := .seconds staleTime }

/-- R156: STU takes its lines at the entry to RUNNING; a flag set at once with report on asks for a LINES notice (R144). -/
def State.enterSite (s : State) : State :=
  let c := s.settings
  let lines : Vector LineRec 12 := .ofFn fun n => LineRec.entered c.lines[n] s.pins.lines[n]
  let s := { s with stu := Stu.settleStall { Stu.reset with lines := lines } }
  if (List.finRange 12).any fun n => s.stu.lines[n].flag && s.stu.lines[n].report then s.askNotice .lines false else s

/-- R43: the entry to RUNNING. Its effects are taken in the order of the table of R43, the judgement of the POWER_GOOD lines
(R152) last (log entry 8). -/
def State.enterRunning (s : State) : State :=
  let c := s.settings
  let s : State := { s with
    cfl := { s.cfl with phase := .running }
    smp := { Smp.reset with scanning := true }
    tcr := .ofFn fun i => s.tcr[i].tuned c i
    plg := { s.plg with osc := .ofFn fun p => { Osc.reset with on := c.paths[p].kind != .unused } }
    pmn := .replicate 4 .reset
    nbv := { s.nbv with
      west := .entered c.west c.staleTime (!s.isUp .west)
      east := .entered c.east c.staleTime (!s.isUp .east) }
    vde := .ofFn fun p => { VerdictRec.reset with verdict := if c.paths[p].kind = .span then .pending else .notApplicable } }
  let s := s.enterSite
  let s := State.askState { s with stateTimer := .seconds c.statePeriod }
  let s := if s.stu.allPowerGood then s else s.enterDying
  s.settleAlarms

/-- R42, R43, R64: the end of a load: outcome, reason and settings are set, and the phase follows the strap value. -/
def State.loadEnd (outcome : StartOutcome) (reason : StartReason) (c : Settings) (s : State) : State :=
  let s : State := { s with
    cfl := { s.cfl with
      outcome := some outcome
      reason := some reason
      settings := some c
      loadTimer := .stopped
      i2c := { s.cfl.i2c with phase := .idle, ended := some .stop } }
    tcr := .ofFn fun i => s.tcr[i].withThresholds c i }
  if s.station.isSome then s.enterRunning else { s with cfl := { s.cfl with phase := .repeaterOnly } }

/-! ### I2C_NACK, LOAD_TIMER_EXPIRY and IMAGE_READ_DONE -/

/-- R36: whether a load is in progress. -/
def State.loading (s : State) : Bool := s.awake && s.cfl.phase = .loading

/-- R37: whether the transaction of a load has begun. While CFL still recovers the bus no byte is sent or read (log entry 11). -/
def State.transacting (s : State) : Bool := s.loading && s.cfl.i2c.phase = .reading

/-- R38, R42: the load ends DEFAULTED, NO_MEMORY. -/
def State.loadFailed (s : State) : State := s.loadEnd .defaulted .noMemory (defaultSettings s.station)

/-- I2C_NACK (R38): a missing acknowledge ends the load, at whichever of the three places it is missing. -/
def execI2cNack (_stage : I2cStage) (s : State) : Host.Outcome State Fault Refusal :=
  .next (if s.transacting then s.loadFailed else s)

/-- R38: the load timer runs out: CFL abandons the transaction with a STOP. How long the memory that this interrupts holds SDA low at the
next load (R37 step 1) is a free value (log entry 11). -/
def State.loadTimerExpiry (s : State) : State :=
  if s.loading && s.cfl.loadTimer = .due then
    State.loadFailed { s with
      pins := { s.pins with sdaHold := Config.sdaHoldAfterAbandon s.choices }
      choices := s.choices + 1 }
  else s

/-- LOAD_TIMER_EXPIRY (R38). -/
def execLoadTimerExpiry (s : State) : Host.Outcome State Fault Refusal := .next s.loadTimerExpiry

/-- R39 to R42: the image is read whole and judged. -/
def State.imageReadDone (image : List Byte) (s : State) : State :=
  if s.transacting && image.length = 139 then
    let j := judgeImage s.station image
    s.loadEnd j.1 j.2.1 j.2.2
  else s

/-- IMAGE_READ_DONE (R39). -/
def execImageReadDone (image : List Byte) (s : State) : Host.Outcome State Fault Refusal := .next (s.imageReadDone image)

end Sys2Proof.Machine
end

