-- ==== Sys2Proof/Machine/Dispatch.lean ====
section
/-! DEFINITION. The meaning of each command, one arm per row of spec/opcode_table.json. -/

namespace Sys2Proof.Machine
open Sys2Proof

def exec (i : Instr) (s : State) : Host.Outcome State Fault Refusal :=
  match i with
  | .powerOnReset straps => Sys2Proof.Machine.execPowerOnReset straps s
  | .rstnRelease straps sdaHold => Sys2Proof.Machine.execRstnRelease straps sdaHold s
  | .millisecondTick => Sys2Proof.Machine.execMillisecondTick s
  | .symbolReceived side sym t => Sys2Proof.Machine.execSymbolReceived side sym t s
  | .signalDetectChange side level t => Sys2Proof.Machine.execSignalDetectChange side level t s
  | .silenceExpiry side t => Sys2Proof.Machine.execSilenceExpiry side t s
  | .linkUp side t => Sys2Proof.Machine.execLinkUp side t s
  | .agedMark side t => Sys2Proof.Machine.execAgedMark side t s
  | .receivedFrame f => Sys2Proof.Machine.execReceivedFrame f s
  | .transmitDone side t => Sys2Proof.Machine.execTransmitDone side t s
  | .i2cNack stage => Sys2Proof.Machine.execI2cNack stage s
  | .loadTimerExpiry => Sys2Proof.Machine.execLoadTimerExpiry s
  | .imageReadDone image => Sys2Proof.Machine.execImageReadDone image s
  | .blockStart => Sys2Proof.Machine.execBlockStart s
  | .tapSample channel code t => Sys2Proof.Machine.execTapSample channel code t s
  | .blockEnd pmnFirst t => Sys2Proof.Machine.execBlockEnd pmnFirst t s
  | .sharedSlot code t => Sys2Proof.Machine.execSharedSlot code t s
  | .pilotStep => Sys2Proof.Machine.execPilotStep s
  | .neighbourFrame d t => Sys2Proof.Machine.execNeighbourFrame d t s
  | .staleExpiry side => Sys2Proof.Machine.execStaleExpiry side s
  | .windowExpiry path => Sys2Proof.Machine.execWindowExpiry path s
  | .holdOffExpiry path => Sys2Proof.Machine.execHoldOffExpiry path s
  | .watchExpiry lane => Sys2Proof.Machine.execWatchExpiry lane s
  | .testExpiry => Sys2Proof.Machine.execTestExpiry s
  | .statePeriodExpiry => Sys2Proof.Machine.execStatePeriodExpiry s
  | .hutLineChange line level t => Sys2Proof.Machine.execHutLineChange line level t s
  | .edgeTimerExpiry line => Sys2Proof.Machine.execEdgeTimerExpiry line s
  | .stallTimerExpiry line => Sys2Proof.Machine.execStallTimerExpiry line s
  | .unknownRequest rq body t => Sys2Proof.Machine.execUnknownRequest rq body t s
  | .queryPath rq args t => Sys2Proof.Machine.execQueryPath rq args t s
  | .querySite rq args t => Sys2Proof.Machine.execQuerySite rq args t s
  | .queryLane rq args t => Sys2Proof.Machine.execQueryLane rq args t s
  | .queryNeighbour rq args t => Sys2Proof.Machine.execQueryNeighbour rq args t s
  | .probe rq args t => Sys2Proof.Machine.execProbe rq args t s
  | .toneWatch rq args t => Sys2Proof.Machine.execToneWatch rq args t s
  | .toneDrop rq args t => Sys2Proof.Machine.execToneDrop rq args t s
  | .genClaim rq args t => Sys2Proof.Machine.execGenClaim rq args t s
  | .genRelease rq args t => Sys2Proof.Machine.execGenRelease rq args t s
  | .linesSet rq args t => Sys2Proof.Machine.execLinesSet rq args t s
  | .linesClear rq args t => Sys2Proof.Machine.execLinesClear rq args t s
  | .linesAck rq args t => Sys2Proof.Machine.execLinesAck rq args t s
  | .recheck rq args t => Sys2Proof.Machine.execRecheck rq args t s
  | .restartRequest rq args t => Sys2Proof.Machine.execRestartRequest rq args t s
  | .grantAtSymbolBoundary side t => Sys2Proof.Machine.execGrantAtSymbolBoundary side t s

end Sys2Proof.Machine
end

