-- ==== Sys2Proof/Machine/Step.lean ====
section
/-! DEFINITION. One step: the command at the front of the queue, or, with none waiting, one microsecond of the hut clock. -/

namespace Sys2Proof.Machine
open Sys2Proof

/-- R1: with no command waiting the part idles: while RSTN is high one microsecond of the hut clock passes, with the tick that falls at
its end (log entry 1). -/
def State.idle (s : State) : State := if s.awake then s.elapse 1 ((s.clk.sinceTick + 1) / 1000) else s

/-- Take the command at the front of the queue and answer its outcome on the queue's rest. -/
def step (s : State) : Host.Outcome State Fault Refusal :=
  match s.pending with
  | [] => .next s.idle
  | c :: rest => exec c { s with pending := rest }

/-- The command that a word spells put at the front of the queue; no word spells one. -/
def State.withFetchWord (s : State) (nbits w : Nat) : State :=
  match decodeTableWord nbits w with
  | some c => { s with pending := c :: s.pending }
  | none => s

end Sys2Proof.Machine
end

