-- ==== Sys2Proof/WellFormed.lean ====
section
/-! DEFINITION. Which commands the part can meet: the bounds that the manual puts on the data an event
carries. `exec` gives every command a meaning, well formed or not. -/

namespace Sys2Proof

/-- R4: an assembly stores at most 53 bytes. -/
def ReceivedFrame.wellFormed (f : ReceivedFrame) : Bool := f.bytes.length ≤ 53

/-- R10, R12, R15: NBV is given STATE and NOTICE frames alone, of good frames. -/
def Delivery.wellFormed (d : Delivery) : Bool :=
  (d.kind = .state || d.kind = .notice) && d.origin.toNat ≤ 60 && d.hopsDone.toNat ≤ 63 && d.body.length ≤ 40

/-- R12, R161: a requester is a station 0 to 60. -/
def RequestHead.wellFormed (rq : RequestHead) : Bool := rq.requester.toNat ≤ 60

/-- R10, R170: the arguments follow the request code in a body of at most 40 bytes. -/
def requestWellFormed (rq : RequestHead) (args : List Byte) : Bool := rq.wellFormed && args.length ≤ 39

/-- R162: a body that holds no request code, or one that names no request (codes 16 to 29, R170). -/
def namesNoRequest : List Byte → Bool
  | [] => true
  | c :: _ => c.toNat < 16 || 29 < c.toNat

/-- The bounds on each command's data. -/
def Instr.wellFormed : Instr → Bool
  | .powerOnReset _ => true
  | .rstnRelease _ sdaHold => sdaHold.all (· < sdaHoldLimit)
  | .millisecondTick => true
  | .symbolReceived _ _ _ => true
  | .signalDetectChange _ _ _ => true
  | .silenceExpiry _ _ => true
  | .linkUp _ _ => true
  | .agedMark _ _ => true
  | .receivedFrame f => f.wellFormed
  | .transmitDone _ _ => true
  | .i2cNack _ => true
  | .loadTimerExpiry => true
  | .imageReadDone image => image.length = 139
  | .blockStart => true
  | .tapSample _ _ _ => true
  | .blockEnd _ _ => true
  | .sharedSlot _ _ => true
  | .pilotStep => true
  | .neighbourFrame d _ => d.wellFormed
  | .staleExpiry _ => true
  | .windowExpiry _ => true
  | .holdOffExpiry _ => true
  | .watchExpiry lane => 8 ≤ lane.val
  | .testExpiry => true
  | .statePeriodExpiry => true
  | .hutLineChange _ _ _ => true
  | .edgeTimerExpiry _ => true
  | .stallTimerExpiry _ => true
  | .unknownRequest rq body _ => rq.wellFormed && namesNoRequest body && body.length ≤ 40
  | .queryPath rq args _ => requestWellFormed rq args
  | .querySite rq args _ => requestWellFormed rq args
  | .queryLane rq args _ => requestWellFormed rq args
  | .queryNeighbour rq args _ => requestWellFormed rq args
  | .probe rq args _ => requestWellFormed rq args
  | .toneWatch rq args _ => requestWellFormed rq args
  | .toneDrop rq args _ => requestWellFormed rq args
  | .genClaim rq args _ => requestWellFormed rq args
  | .genRelease rq args _ => requestWellFormed rq args
  | .linesSet rq args _ => requestWellFormed rq args
  | .linesClear rq args _ => requestWellFormed rq args
  | .linesAck rq args _ => requestWellFormed rq args
  | .recheck rq args _ => requestWellFormed rq args
  | .restartRequest rq args _ => requestWellFormed rq args
  | .grantAtSymbolBoundary _ _ => true

end Sys2Proof
end

