-- ==== Sys2Proof/Safety.lean ====
section
/-! DEFINITION. What counts as a sound state of the part, and the words the statements are made in: the invariants that the manual
states of the machine, and the shape of a state after a request was answered. -/

namespace Sys2Proof.Machine
open Sys2Proof

/-! ### Invariants of the manual -/

/-- A place of an item in the send queue's sixteen: STATE, the nine subjects, the six answer slots (R23). -/
def Item.place : Item → Nat
  | .state => 0
  | .notice s => 1 + s.code
  | .answer k _ => 10 + k.val

/-- The answer slots of the ANSWER entries of a send queue, in order. -/
def answerSlots (q : List Entry) : List (Fin 6) := q.filterMap Entry.slot?

/-- R23: every entry has a mark, and no two entries stand for the same STATE, subject or answer slot. -/
def State.queueSound (s : State) : Prop := (∀ e ∈ s.snq, e.marked = true) ∧ (s.snq.map (·.item.place)).Nodup

/-- R161, R163: a READY slot has exactly one ANSWER entry in the send queue, and no other slot has one; a WAITING slot has exactly one
probe in the probe queue, and no other slot has one. Probes wait in RUNNING alone (R59), in a queue of at most 4 (R56). -/
def State.slotsSound (s : State) : Prop :=
  (∀ k : Fin 6,
    (answerSlots s.snq).count k = (if s.rqh.slots[k].state = .ready then 1 else 0) ∧
    (s.smp.probes.map (·.slot)).count k = (if s.rqh.slots[k].state = .waiting then 1 else 0)) ∧
  (s.running = false → s.smp.probes = []) ∧ s.smp.probes.length ≤ 4

/-- R4, R20: a port's forward queue holds at most 8 frames, and none while the port is not UP; its assembly holds at most 53 bytes, and
nothing at all while no symbol has come. -/
def Port.sound (p : Port) : Prop :=
  p.fwd.length ≤ 8 ∧ (p.link ≠ .up → p.fwd = []) ∧ p.assembly.bytes.length ≤ 53 ∧ p.assembly.count ≤ 255 ∧
    (p.assembly.count = 0 → p.assembly = .empty)

/-- R20, R118: both ports are sound, and each neighbour record is CUT_OFF exactly while its port is not UP. -/
def State.portsSound (s : State) : Prop := ∀ side, (s.port side).sound ∧ (s.nb side).cutOff = !s.isUp side

/-- R1: no millisecond tick is passed without being taken. R37: no recovery pulse is left unsent. R14, R97, R123, R161: every saturating
count stands at 255 or below. -/
def State.countsSound (s : State) : Prop :=
  s.clk.sinceTick ≤ 1000 ∧ s.cfl.i2c.sincePulse < 10 ∧
  s.rly.relayDrops ≤ 255 ∧ s.rly.malformed ≤ 255 ∧ s.rly.ownOrigin ≤ 255 ∧ s.rqh.dropped ≤ 255 ∧
    ∀ p : Fin 4, s.pmn[p].lossRun ≤ 255 ∧ s.vde[p].toneAbsent ≤ 255 ∧ s.vde[p].flaps ≤ 255

/-- R49, R51: the samples of tap ch that the block has brought: one from each cycle that is past its slot, and 1024 of every tap when its
end is due. -/
def Smp.taken (m : Smp) (ch : Fin 8) : Nat :=
  match m.block with
  | .startDue => 0
  | .inProgress => m.cycle + if ch.val < m.slot.val then 1 else 0
  | .endDue => 1024

/-- R49, R51, R74, R98: SMP stands at a cycle 0 to 1023, at slot 0 of cycle 0 between blocks, and before a block start outside RUNNING; no
accumulator and no sum holds more than the samples that its tap has given in the block, so none leaves its 40 bits or its 0 to 4,193,280;
and a lane that does not run has empty accumulators. -/
def State.sumsSound (s : State) : Prop :=
  s.smp.cycle < 1024 ∧ (s.smp.block ≠ .inProgress → s.smp.cycle = 0 ∧ s.smp.slot = 0) ∧
  (s.running = false → s.smp.block = .startDue) ∧
  (∀ i : Fin 16,
    s.tcr[i].x.natAbs ≤ 8382465 * s.smp.taken s.tcr[i].channel ∧
    s.tcr[i].y.natAbs ≤ 8382465 * s.smp.taken s.tcr[i].channel ∧
    s.tcr[i].phase < 1024 ∧ (s.tcr[i].state ≠ .running → s.tcr[i].x = 0 ∧ s.tcr[i].y = 0)) ∧
  (∀ p : Fin 4,
    s.pmn[p].inSum ≤ 4095 * s.smp.taken ⟨p.val, by omega⟩ ∧ s.pmn[p].outSum ≤ 4095 * s.smp.taken ⟨p.val + 4, by omega⟩)

/-- R62, R63, R65, R68, R70: the eight automatic lanes belong to their paths and taps, and are never FREE; a pool lane is never PARKED;
FREE it has no owner, bin, partner, combine mode or remaining time, and otherwise a station, a bin 1 to 511 and 1 to 3600 seconds; and the
partner of a lane is the other lane of its pair position, names it in turn, and stands in the same state with the same owner, channel,
combine mode and remaining time. -/
def State.lanesSound (s : State) : Prop :=
  ∀ i : Fin 16,
    (i.val < 8 →
      s.tcr[i].owner = .path ∧ s.tcr[i].channel.val = i.val / 2 ∧ s.tcr[i].state ≠ .free ∧ s.tcr[i].partner = none ∧
      s.tcr[i].combine = none ∧ s.tcr[i].remaining = none) ∧
    (8 ≤ i.val →
      s.tcr[i].state ≠ .parked ∧
      (s.tcr[i].state = .free →
        s.tcr[i].owner = .absent ∧ s.tcr[i].bin = none ∧ s.tcr[i].partner = none ∧ s.tcr[i].combine = none ∧
        s.tcr[i].remaining = none ∧ s.tcr[i].present = false ∧ s.tcr[i].lastPower = none ∧ s.tcr[i].limit = false) ∧
      (s.tcr[i].state ≠ .free →
        (∃ n, s.tcr[i].owner = .station n) ∧ (∃ b, s.tcr[i].bin = some b ∧ 1 ≤ b ∧ b ≤ 511) ∧
        ∃ w, s.tcr[i].remaining = some w ∧ 1 ≤ w.secs ∧ w.secs ≤ 3600 ∧ w.tick < 1000)) ∧
    (s.tcr[i].partner = none ↔ s.tcr[i].combine = none) ∧
    ∀ j : Fin 16, s.tcr[i].partner = some j →
      j.val / 2 = i.val / 2 ∧ j ≠ i ∧ s.tcr[j].partner = some i ∧ s.tcr[j].state = s.tcr[i].state ∧
      s.tcr[j].owner = s.tcr[i].owner ∧ s.tcr[j].channel = s.tcr[i].channel ∧ s.tcr[j].combine = s.tcr[i].combine ∧
      s.tcr[j].remaining = s.tcr[i].remaining

/-- R123, R130: a path that is not SPAN stands NOT_APPLICABLE in RUNNING, and a path stands in WATCH only while its input is in LOSS. -/
def State.verdictsSound (s : State) : Prop :=
  ∀ p : Fin 4,
    (s.running = true → s.kind p ≠ .span → s.vde[p].verdict = .notApplicable) ∧
    (s.vde[p].verdict = .watch → s.pmn[p].input = .loss)

/-- R63, R65, R86: the two automatic lanes of a path stand in the same state, PARKED unless the part is in RUNNING and the path is SPAN,
and absent until they run; a pilot's loss input says whether its path is in LOSS, its fill input whether the fill lane is present; and its
mode is FILL exactly when either input is true. -/
def State.pilotsSound (s : State) : Prop :=
  ∀ p : Fin 4,
    s.tcr[normalLane p].state = s.tcr[fillLane p].state ∧
    (s.running = false ∨ s.kind p ≠ .span → s.tcr[fillLane p].state = .parked) ∧
    (s.tcr[fillLane p].state ≠ .running → s.tcr[fillLane p].present = false) ∧
    s.plg.osc[p].lossIn = decide (s.pmn[p].input = .loss) ∧
    s.plg.osc[p].fillIn = s.tcr[fillLane p].present ∧
    s.plg.osc[p].mode = (if s.pmn[p].input = .loss ∨ s.tcr[fillLane p].present = true then .fill else .normal)

/-- R148: while HOT is set every FAN line is driven HIGH. R149: no line's stall condition is unsettled: while it holds the stall timer
runs or FAN_STALL is set, and else neither. R27: while the power state is DYING the send queue holds no STATE. R154: in RUNNING the
contributions last handed are those their owners hold, the owned-alarm total is their sum with the power state's, and every ALARM line is
driven HIGH exactly while it is above 0. -/
def State.siteSound (s : State) : Prop :=
  (s.stu.hot = true → ∀ n : Fin 12, s.stu.lines[n].fn = .fan → s.stu.lines[n].level = true) ∧
  (∀ n : Fin 12,
    (s.stu.stalled n = true → s.stu.lines[n].stallTimer ≠ .stopped ∨ s.stu.lines[n].fanStall = true) ∧
    (s.stu.stalled n = false → s.stu.lines[n].stallTimer = .stopped ∧ s.stu.lines[n].fanStall = false)) ∧
  (s.stu.dying = true → ∀ e ∈ s.snq, e.item ≠ .state) ∧
  (s.running = true →
    s.stu.vdeAlarms = s.vdeCount ∧ s.stu.pmnAlarms = s.pmnCount ∧ s.stu.climate = s.stu.climateCount ∧
    s.stu.total = s.vdeCount + s.pmnCount + s.stu.climateCount + s.stu.dying.toNat ∧
    ∀ n : Fin 12, s.stu.lines[n].fn = .alarm → s.stu.lines[n].level = decide (0 < s.stu.total))

/-- R90: the test record. HELD it has a holder, a path in use, a bin outside the pilot plan and 1 to 3600 seconds left; FREE, and whenever
the part is not in RUNNING, every field stands at its FREE value. -/
def State.testSound (s : State) : Prop :=
  (s.ttg.held = false → s.ttg = Ttg.free) ∧
  (s.running = false → s.ttg = Ttg.free) ∧
  (s.ttg.held = true →
    s.ttg.holder.isSome = true ∧ (∃ p, s.ttg.path = some p ∧ s.kind p ≠ .unused) ∧
    (∃ b, s.ttg.bin = some b ∧ 1 ≤ b ∧ b ≤ 511 ∧ inPilotPlan b = false) ∧
    1 ≤ s.ttg.time.secs ∧ s.ttg.time.secs ≤ 3600 ∧ s.ttg.time.tick < 1000 ∧ s.ttg.phase < 1024)

/-- R41, R42, R43, R44: settings once taken are consistent; RUNNING has a station number; a part with none, or held in reset, originates
nothing. -/
def State.configSound (s : State) : Prop :=
  (∀ c, s.cfl.settings = some c → consistent c = true) ∧
  (s.running = true → s.station.isSome = true ∧ s.cfl.settings.isSome = true) ∧
  (s.station = none ∨ s.awake = false → s.snq = [])

/-! ### Frames and requests -/

/-- R10: the values the fields of a frame may have. -/
def Frame.inRange (f : Frame) : Prop :=
  f.origin.toNat ≤ 60 ∧ (f.target.toNat ≤ 60 ∨ f.target.toNat = 63) ∧ f.hopsLeft.toNat ≤ 63 ∧ f.hopsDone.toNat ≤ 63 ∧
    f.body.length ≤ 40

/-- R12: the ten conditions under which a received frame is MALFORMED. Bytes are numbered as in 12.2. -/
def isMalformed (r : ReceivedFrame) : Prop :=
  r.spoiled = some .symbolError ∨ r.spoiled = some .badEscape ∨ r.spoiled = some .overlong ∨
  r.bytes.length < 13 ∨ 53 < r.bytes.length ∨ crc r.bytes ≠ 0 ∨
  (r.bytes.getD 10 0).toNat ≠ r.bytes.length - 13 ∨
  ¬ (1 ≤ (r.bytes.getD 0 0).toNat ∧ (r.bytes.getD 0 0).toNat ≤ 4) ∨
  61 ≤ (r.bytes.getD 1 0).toNat ∨
  (r.bytes.getD 2 0).toNat = 61 ∨ (r.bytes.getD 2 0).toNat = 62 ∨ 63 < (r.bytes.getD 2 0).toNat ∨
  63 < (r.bytes.getD 3 0).toNat ∨ 63 < (r.bytes.getD 4 0).toNat

/-- R161, R163: a request taken now takes slot k, the lowest-numbered FREE one, and its answer finds a port UP. -/
def State.slotFor (s : State) (k : Fin 6) : Prop :=
  s.station.isSome = true ∧ s.rqh.slots[k].state = .free ∧ (∀ j : Fin 6, j < k → s.rqh.slots[j].state ≠ .free) ∧
    (s.isUp .west = true ∨ s.isUp .east = true)

/-- R161 to R163: in RUNNING, RQH can take a request in slot k, and its answer finds a port UP. -/
def State.canAnswer (s : State) (k : Fin 6) : Prop := s.running = true ∧ s.slotFor k

/-- R161: the delivery of a request with the given body taken. -/
def State.requestTaken (s : State) (rq : RequestHead) (req : List Byte) : State :=
  { s with rqh := { s.rqh with deliveries := s.rqh.deliveries.erase { head := rq, body := req } } }

/-- R163: the ANSWER frame of a request completed now with the given body. -/
def State.answerFrame (s : State) (rq : RequestHead) (body : List Byte) : Frame :=
  { kind := .answer, origin := BitVec.ofNat 8 (s.station.getD 0), target := rq.requester,
    hopsLeft := BitVec.ofNat 8 s.reach, hopsDone := 0, stamp := s.clk.hut, tag := rq.tag, body := body }

/-- A request with body `req` taken in slot k and completed at once with the given ANSWER body, and nothing else changed:
the slot, the delivery taken, and one ANSWER entry at the tail marked for the ports that are UP (R24, R161, R163). -/
def State.answered (s : State) (k : Fin 6) (rq : RequestHead) (req body : List Byte) : State :=
  { s with
    snq := s.snq ++ [{ item := .answer k (s.answerFrame rq body), west := s.isUp .west, east := s.isUp .east, prompted := false }]
    rqh := { s.rqh with
      slots := s.rqh.slots.set k.val
        { state := .ready, requester := rq.requester, tag := rq.tag, request := req.head?, broadcast := rq.broadcast } k.isLt
      deliveries := s.rqh.deliveries.erase { head := rq, body := req } } }

/-- The head, the body and the stamp of the request that a command carries (R18, 12.4). An UNKNOWN_REQUEST carries a body that names
no request. -/
def requestOf : Instr → Option (RequestHead × List Byte × Stamp)
  | .unknownRequest rq body t => if namesNoRequest body then some (rq, body, t) else none
  | .queryPath rq args t => some (rq, 16 :: args, t)
  | .querySite rq args t => some (rq, 17 :: args, t)
  | .queryLane rq args t => some (rq, 18 :: args, t)
  | .probe rq args t => some (rq, 19 :: args, t)
  | .toneWatch rq args t => some (rq, 20 :: args, t)
  | .toneDrop rq args t => some (rq, 21 :: args, t)
  | .genClaim rq args t => some (rq, 22 :: args, t)
  | .genRelease rq args t => some (rq, 23 :: args, t)
  | .linesSet rq args t => some (rq, 24 :: args, t)
  | .linesClear rq args t => some (rq, 25 :: args, t)
  | .linesAck rq args t => some (rq, 26 :: args, t)
  | .recheck rq args t => some (rq, 27 :: args, t)
  | .restartRequest rq args t => some (rq, 28 :: args, t)
  | .queryNeighbour rq args t => some (rq, 29 :: args, t)
  | _ => none

/-- A two-byte argument at place i. -/
def argWord (args : List Byte) (i : Nat) : Nat := 256 * (args.getD i 0).toNat + (args.getD (i + 1) 0).toNat

/-- R162: arguments that are not one byte below n. -/
def badByte (n : Nat) (args : List Byte) : Prop := args.length ≠ 1 ∨ n ≤ (args.getD 0 0).toNat

/-- R162, 12.4: the arguments of a request that are answered BAD_ARGUMENT: of another length, or out of their range (R66, R71, R82, R91,
R122, R139, R145, R146). -/
def State.badArguments (s : State) : Instr → Prop
  | .queryPath _ args _ => badByte 4 args
  | .recheck _ args _ => badByte 4 args
  | .queryLane _ args _ => badByte 16 args
  | .toneDrop _ args _ => badByte 16 args
  | .probe _ args _ => badByte 18 args
  | .queryNeighbour _ args _ => badByte 2 args
  | .querySite _ args _ => args ≠ []
  | .genRelease _ args _ => args ≠ []
  | .restartRequest _ args _ => args ≠ []
  | .linesSet _ args _ => args.length ≠ 2 ∨ 4096 ≤ argWord args 0
  | .linesClear _ args _ => args.length ≠ 2 ∨ 4096 ≤ argWord args 0
  | .linesAck _ args _ => args.length ≠ 2 ∨ 4096 ≤ argWord args 0
  | .genClaim _ args _ =>
    args.length ≠ 5 ∨ 4 ≤ (args.getD 0 0).toNat ∨ (∃ p : Fin 4, p.val = (args.getD 0 0).toNat ∧ s.kind p = .unused) ∨
      argWord args 1 = 0 ∨ 512 ≤ argWord args 1 ∨ (64 ≤ argWord args 1 ∧ argWord args 1 ≤ 421 ∧ argWord args 1 % 3 = 1) ∨
      argWord args 3 < 10 ∨ 3600 < argWord args 3
  | .toneWatch _ args _ =>
    (args.length ≠ 5 ∧ args.length ≠ 8) ∨ 8 ≤ (args.getD 0 0).toNat ∨ argWord args 1 = 0 ∨ 512 ≤ argWord args 1 ∨
      (args.length = 5 ∧ (argWord args 3 < 10 ∨ 3600 < argWord args 3)) ∨
      (args.length = 8 ∧ (argWord args 3 = 0 ∨ 512 ≤ argWord args 3 ∨ argWord args 3 = argWord args 1 ∨
        3 ≤ (args.getD 5 0).toNat ∨ argWord args 6 < 10 ∨ 3600 < argWord args 6))
  | _ => False

/-- R154: two states of STU that differ at most in the contributions, the total and the levels of the ALARM lines that follow it. -/
def sameButAlarms (a b : Stu) : Prop :=
  a.hot = b.hot ∧ a.filter = b.filter ∧ a.dying = b.dying ∧
    ∀ n : Fin 12, a.lines[n] = (if b.lines[n].fn = .alarm then { b.lines[n] with level := a.lines[n].level } else b.lines[n])

/-- R46: what a restart leaves of state s at state u: every block but the line ports, RLY, the hut clock and the strap value at its start
values, CFL with its outcome, reason and settings in a new load, and the pilot outputs with the counts of the present step. R37: the load
recovers the bus first where the memory holds SDA low. -/
def restarted (s u : State) : Prop :=
  u.cfl.phase = .loading ∧ u.cfl.loadTimer = .running 50 ∧ u.cfl.outcome = s.cfl.outcome ∧ u.cfl.reason = s.cfl.reason ∧
  u.cfl.settings = s.cfl.settings ∧ u.cfl.strap = s.cfl.strap ∧ u.snq = [] ∧ u.smp = State.reset.smp ∧ u.tcr = State.reset.tcr ∧
  u.plg.osc = State.reset.plg.osc ∧ u.plg.count = s.plg.count ∧ u.ttg = State.reset.ttg ∧ u.pmn = State.reset.pmn ∧
  (∀ side, u.nb side = { State.reset.nb side with cutOff := !u.isUp side }) ∧ u.vde = State.reset.vde ∧ u.stu = State.reset.stu ∧
  u.stateTimer = .stopped ∧ u.rqh.slots = State.reset.rqh.slots ∧ u.rqh.dropped = 0 ∧ u.rqh.restartPending = none ∧
  u.rly.malformed = s.rly.malformed ∧ u.rly.ownOrigin = s.rly.ownOrigin ∧ u.clk = s.clk ∧
  (∀ n, s.pins.sdaHold = some n → n < 5000 → u.cfl.i2c = { phase := .reading, pulses := n, sincePulse := 0, ended := none }) ∧
  (s.pins.sdaHold = none → u.cfl.i2c = { phase := .recovering, pulses := 0, sincePulse := 0, ended := none })

/-- A NOTICE of a subject asked for, without a prompt, in a state that is in RUNNING (R24, R25, R159). -/
def State.withNotice (s : State) (subject : Subject) : State :=
  { s with snq := snqAsk (.notice subject) false (s.isUp .west) (s.isUp .east) s.snq }

/-! ### The image as R171 lays it out -/

/-- R171: the 18 bytes of a path's record. -/
def PathSettings.image (c : PathSettings) : List Byte :=
  [BitVec.ofNat 8 (c.kind.code + 16 * c.upstream.val)] ++ be16 c.loss ++ be16 c.restoreMargin ++ be16 c.degrade ++
    be16 c.overload ++ [BitVec.ofNat 8 c.lossRunLength] ++ be16 c.outputLow ++ be16 c.biasLimit ++ be16 c.toneOn ++ be16 c.toneOff

/-- R171: the 3 bytes of a line's record. -/
def LineSettings.image (c : LineSettings) : List Byte :=
  [BitVec.ofNat 8 c.fn.code,
   BitVec.ofNat 8 (c.trigger.code + (if c.report then 8 else 0) + (if c.startHigh then 16 else 0)),
   match c.paired with | some m => BitVec.ofNat 8 m.val | none => 0xFF]

/-- R171: bytes 0 to 136 of the image that holds the given settings. -/
def Settings.fields (c : Settings) : List Byte :=
  [0x62, 139, BitVec.ofNat 8 c.west, BitVec.ofNat 8 c.east, BitVec.ofNat 8 c.reach, BitVec.ofNat 8 c.statePeriod] ++
    be16 c.staleTime ++ be16 c.window ++ be16 c.holdOff ++ [BitVec.ofNat 8 c.foreignConfirm] ++ be16 c.poolOn ++ be16 c.poolOff ++
    be16 c.hotLimit ++ be16 c.hotHysteresis ++ be16 c.dyingLevel ++ be16 c.reviveLevel ++ be16 c.filterLimit ++ be16 c.siteMargin ++
    c.paths.toList.flatMap PathSettings.image ++ c.lines.toList.flatMap LineSettings.image

/-- R39, R171: the image that holds the given settings, with its check. -/
def Settings.image (c : Settings) : List Byte := c.fields ++ checkBytes c.fields

/-- R40: the ranges of a path's fields. -/
def PathSettings.inRange (c : PathSettings) : Prop :=
  1 ≤ c.loss ∧ c.loss ≤ 4094 ∧ 1 ≤ c.restoreMargin ∧ c.restoreMargin ≤ 1000 ∧ 1 ≤ c.degrade ∧ c.degrade ≤ 4094 ∧
  1 ≤ c.overload ∧ c.overload ≤ 4094 ∧ 4 ≤ c.lossRunLength ∧ c.lossRunLength ≤ 255 ∧ 1 ≤ c.outputLow ∧ c.outputLow ≤ 4094 ∧
  1 ≤ c.biasLimit ∧ c.biasLimit ≤ 4095 ∧ 1 ≤ c.toneOn ∧ c.toneOn ≤ 65535 ∧ 1 ≤ c.toneOff ∧ c.toneOff ≤ 65535

/-- R40: a field of a line that does not belong to its function is not used, and stands at NONE, off, LOW and no pair. -/
def LineSettings.inRange (c : LineSettings) : Prop :=
  (c.fn ≠ .inp → c.trigger = .none ∧ c.report = false) ∧ (c.fn ≠ .out → c.fn ≠ .fan → c.startHigh = false) ∧
    (c.fn ≠ .fan → c.paired = none)

/-- R40: the ranges of the settings. -/
def Settings.inRange (c : Settings) : Prop :=
  c.west ≤ 60 ∧ c.east ≤ 60 ∧ 1 ≤ c.reach ∧ c.reach ≤ 63 ∧ 1 ≤ c.statePeriod ∧ c.statePeriod ≤ 60 ∧
  3 ≤ c.staleTime ∧ c.staleTime ≤ 600 ∧ 20 ≤ c.window ∧ c.window ≤ 2000 ∧ 1 ≤ c.holdOff ∧ c.holdOff ≤ 600 ∧
  2 ≤ c.foreignConfirm ∧ c.foreignConfirm ≤ 60 ∧ 1 ≤ c.poolOn ∧ c.poolOn ≤ 65535 ∧ 1 ≤ c.poolOff ∧ c.poolOff ≤ 65535 ∧
  c.hotLimit ≤ 4095 ∧ 1 ≤ c.hotHysteresis ∧ c.hotHysteresis ≤ 1000 ∧ c.dyingLevel ≤ 4095 ∧ c.reviveLevel ≤ 4095 ∧
  c.filterLimit ≤ 4095 ∧ 1 ≤ c.siteMargin ∧ c.siteMargin ≤ 1000 ∧
  (∀ p : Fin 4, c.paths[p].inRange) ∧ (∀ n : Fin 12, c.lines[n].inRange)

/-- R40, R42: the settings of a load that ends DEFAULTED, at a station or with no station number. -/
def Settings.isDefault (c : Settings) (station : Option Nat) : Prop :=
  (∀ n, station = some n → c.west = n - 1 ∧ c.east = (if n = 60 then 0 else n + 1)) ∧
  (station = none → c.west = 0 ∧ c.east = 0) ∧
  c.reach = 63 ∧ c.statePeriod = 5 ∧ c.staleTime = 30 ∧ c.window = 250 ∧ c.holdOff = 15 ∧ c.foreignConfirm = 8 ∧
  c.poolOn = 100 ∧ c.poolOff = 50 ∧ c.hotLimit = 2600 ∧ c.hotHysteresis = 120 ∧ c.dyingLevel = 0 ∧ c.reviveLevel = 0 ∧
  c.filterLimit = 3000 ∧ c.siteMargin = 60 ∧
  (∀ p : Fin 4,
    c.paths[p].kind = (if (if p.val % 2 = 0 then c.west else c.east) = 0 then .localPath else .span) ∧ c.paths[p].upstream = p ∧
    c.paths[p].loss = 400 ∧ c.paths[p].restoreMargin = 100 ∧ c.paths[p].degrade = 1200 ∧ c.paths[p].overload = 3900 ∧
    c.paths[p].lossRunLength = 16 ∧ c.paths[p].outputLow = 400 ∧ c.paths[p].biasLimit = 3500 ∧ c.paths[p].toneOn = 100 ∧
    c.paths[p].toneOff = 50) ∧
  (∀ n : Fin 12,
    c.lines[n] = { fn := .inp, trigger := .both, report := true, startHigh := false, paired := none })

/-- R129: a last down stamp that lies within the correlation window of loss stamp `loss`, of a port that is DOWN and has not marked it
aged. -/
def Port.recentlyDown (p : Port) (windowMs : Nat) (loss : Stamp) : Prop :=
  p.link = .down ∧ p.aged = false ∧
    ∃ d, p.lastDown = some d ∧ (interval d loss ≤ 1000 * windowMs ∨ interval loss d ≤ 1000 * windowMs)

end Sys2Proof.Machine
end

