-- ==== Sys2Proof/Certificates/Slice0/Obligations.lean ====
section
/-! DEFINITION. The statements for the provers, family by family. A command that carries a stamp t finds the part in a state `s₀`, and
acts on it as it stands at the event, in the state `s = s₀.moment t`: a stamp ahead of the hut clock brings the clock to t, with the
millisecond ticks before t taken, and one behind it, captured before the event is taken, leaves it standing (R1, R47, R129; log entry 1;
MillisecondTickPacesTimers). The statements speak of s. -/

open Sys2Proof Sys2Proof.Machine

/-! ### Steps -/

/-- A step takes the command at the front of the queue and runs it on the queue's rest. R1: with no command waiting, while RSTN is high the
hut clock rises by 1, modulo 2^32, and every other field stays, but for the recovery pulse that each tenth microsecond of a bus recovery
sends (R37) and for the millisecond tick, which the thousandth microsecond brings with all that MILLISECOND_TICK does; a tick reached and
not yet taken is taken first; while RSTN is low nothing changes. That the passing of time is the step on an empty queue is the model's choice (log entry 1); the pace of the pulses is
read from R37's 100 kHz (log entry 11). -/
def Obligations.StepTakesFrontCommandOrMicrosecond : Prop :=
  (∀ (c : Instr) (rest : List Instr) (s : State), s.pending = c :: rest → step s = exec c { s with pending := rest }) ∧
  (∀ s : State, s.pending = [] → s.awake = false → step s = .next s) ∧
  ∀ s : State, s.pending = [] → s.awake = true →
    (s.clk.sinceTick < 999 → s.cfl.i2c.sincePulse < 10 →
      step s = .next { s with
        clk := { hut := s.clk.hut + 1, sinceTick := s.clk.sinceTick + 1 }
        cfl := { s.cfl with i2c :=
          if s.cfl.i2c.phase = .recovering then
            { s.cfl.i2c with
              pulses := if s.cfl.i2c.sincePulse = 9 then s.cfl.i2c.pulses + 1 else s.cfl.i2c.pulses
              sincePulse := if s.cfl.i2c.sincePulse = 9 then 0 else s.cfl.i2c.sincePulse + 1 }
          else s.cfl.i2c } }) ∧
    (s.clk.sinceTick = 999 → step s = exec .millisecondTick s) ∧
    (s.clk.sinceTick = 1000 → ∃ v, exec .millisecondTick s = .next v ∧ step s = step v)

/-- Every command is taken, in every state: none ends in a fault or a refusal, none takes a command from the queue of waiting commands and
none adds one. That no event stops the part is read from the manual, which names none that does (log entry 13), and the queue is the
model's own field (log entry 12). -/
def Obligations.EveryCommandIsTaken : Prop := ∀ (c : Instr) (s : State), ∃ u, exec c s = .next u ∧ u.pending = s.pending

/-! ### Reset, load and start (Chapter 3) -/

/-- What POWER_ON_RESET leaves, block by block, as the reset tables of the chapters give it. R45: a transaction in progress on
the I2C port is abandoned. R35: while RSTN is low the whole part is held: no command but POWER_ON_RESET and RSTN_RELEASE changes anything
but the levels on the pins. That those levels, all but RSTN's, pass through the reset (log entry 17), that the waiting commands do (log
entry 12), and that another command then changes pins alone (log entry 3) are the model's readings. -/
def Obligations.PowerOnResetHoldsThePart : Prop :=
  (∀ (straps : BitVec 6) (s : State), ∃ u, exec (.powerOnReset straps) s = .next u ∧
      u.clk.hut = 0 ∧ u.clk.sinceTick = 0 ∧ u.pins = { s.pins with rstn := false } ∧ u.pending = s.pending ∧
      (∀ side, (u.port side).link = .down ∧ (u.port side).lastUp = none ∧ (u.port side).lastDown = none ∧
        (u.port side).settleStart = none ∧ (u.port side).lastGood = none ∧ (u.port side).aged = false ∧
        (u.port side).assembly = { bytes := [], count := 0, esc := false, spoiled := none } ∧ (u.port side).fwd = [] ∧
        (u.port side).marker = .locally ∧ (u.port side).tx = none) ∧
      u.rly.relayDrops = 0 ∧ u.rly.malformed = 0 ∧ u.rly.ownOrigin = 0 ∧ u.snq = [] ∧
      u.smp.scanning = false ∧ u.smp.cycle = 0 ∧ u.smp.slot = 0 ∧ u.smp.slowPtr = 0 ∧ u.smp.probes = [] ∧
      (∀ i : Fin 10, u.smp.slowSum[i] = 0 ∧ u.smp.slowCnt[i] = 0 ∧ u.smp.readings[i] = none) ∧
      (∀ i : Fin 16, u.tcr[i].state = (if i.val < 8 then .parked else .free) ∧
        u.tcr[i].owner = (if i.val < 8 then .path else .absent) ∧
        u.tcr[i].channel.val = (if i.val < 8 then i.val / 2 else 0) ∧
        u.tcr[i].bin = none ∧ u.tcr[i].phase = 0 ∧ u.tcr[i].x = 0 ∧ u.tcr[i].y = 0 ∧ u.tcr[i].present = false ∧
        u.tcr[i].lastPower = none ∧ u.tcr[i].limit = false ∧ u.tcr[i].partner = none ∧ u.tcr[i].combine = none ∧
        u.tcr[i].remaining = none ∧ u.tcr[i].combined = false) ∧
      (∀ p : Fin 4, u.plg.osc[p].on = false ∧ u.plg.osc[p].mode = .normal ∧ u.plg.osc[p].phase = 0 ∧
        u.plg.osc[p].lossIn = false ∧ u.plg.osc[p].fillIn = false ∧ u.plg.count[p] = 0) ∧
      (u.ttg.held = false ∧ u.ttg.holder = none ∧ u.ttg.path = none ∧ u.ttg.bin = none ∧ u.ttg.time.secs = 0 ∧
        u.ttg.time.tick = 0 ∧ u.ttg.phase = 0) ∧
      (∀ p : Fin 4, u.pmn[p].input = .unknown ∧ u.pmn[p].lossRun = 0 ∧ u.pmn[p].lossStamp = none ∧
        u.pmn[p].lossAtStart = false ∧ u.pmn[p].inSum = 0 ∧ u.pmn[p].outSum = 0 ∧ u.pmn[p].inMean = none ∧
        u.pmn[p].outMean = none ∧ u.pmn[p].outputLow = false ∧ u.pmn[p].biasHigh = false) ∧
      (∀ side, (u.nb side).station = 0 ∧ (u.nb side).heard = false ∧ (u.nb side).lastHeard = none ∧ (u.nb side).stale = false ∧
        (u.nb side).staleTimer = .stopped ∧ (u.nb side).cutOff = true ∧ (u.nb side).mismatch = false ∧ (u.nb side).dying = false ∧
        ∀ p : Fin 4, (u.nb side).summaries[p] = { kind := none, input := none, outputLow := none, pilot := none, verdict := none }) ∧
      (∀ p : Fin 4, u.vde[p].verdict = .pending ∧ u.vde[p].evidence = .none ∧ u.vde[p].late = false ∧ u.vde[p].cause = none ∧
        u.vde[p].lossStamp = none ∧ u.vde[p].watchStart = none ∧ u.vde[p].window = .stopped ∧ u.vde[p].holdOff = .stopped ∧
        u.vde[p].toneAbsent = 0 ∧ u.vde[p].flaps = 0) ∧
      (∀ n : Fin 12, u.stu.lines[n].flag = false ∧ u.stu.lines[n].requested = false ∧ u.stu.lines[n].period = 0 ∧
        u.stu.lines[n].lastEdge = none ∧ u.stu.lines[n].edgeTimer = .stopped ∧ u.stu.lines[n].stallTimer = .stopped ∧
        u.stu.lines[n].fanStall = false) ∧
      (u.stu.hot = false ∧ u.stu.filter = false ∧ u.stu.dying = false ∧ u.stu.vdeAlarms = 0 ∧ u.stu.pmnAlarms = 0 ∧
        u.stu.climate = 0 ∧ u.stu.total = 0) ∧
      u.stateTimer = .stopped ∧
      (∀ k : Fin 6, u.rqh.slots[k].state = .free) ∧ u.rqh.dropped = 0 ∧ u.rqh.restartPending = none ∧
      (u.cfl.strap = straps ∧ u.cfl.phase = .loading ∧ u.cfl.outcome = none ∧ u.cfl.reason = none ∧ u.cfl.settings = none ∧
        u.cfl.loadTimer = .stopped ∧ u.cfl.i2c.phase = .idle ∧
        u.cfl.i2c.ended = (if s.cfl.i2c.phase = .idle then s.cfl.i2c.ended else some .abandoned))) ∧
  ∀ (c : Instr) (pins : Pins) (straps : BitVec 6) (ended : Option I2cEnd) (n : Nat) (q : List Instr),
    (∀ b, c ≠ .powerOnReset b) → (∀ b h, c ≠ .rstnRelease b h) →
    ∃ pins' : Pins, exec c (State.held pins straps ended n q) = .next (State.held pins' straps ended n q)

/-- R35, R36, R37, R83: at the release of RSTN the strap value is latched, the pilot outputs carry the mid level, the load timer starts at
50 ms, and the transaction begins after as many recovery pulses as the memory holds SDA low for; one that 50 ms at 100 kHz cannot free, or
that holds SDA low for ever, leaves the port recovering; nothing else changes. That the number of pulses is an operand of the release, and
that those which free the memory are sent within it, is the model's choice (log entry 11). -/
def Obligations.ReleaseBeginsLoad : Prop :=
  ∀ (straps : BitVec 6) (hold freed : Option Nat) (s : State), s.awake = false → freed = hold.filter (fun n => decide (n < 5000)) →
    exec (.rstnRelease straps hold) s = .next { s with
      pins := { s.pins with rstn := true, sdaHold := freed.map fun _ => 0 }
      plg := { s.plg with count := .replicate 4 32 }
      cfl := { s.cfl with
        strap := straps
        phase := .loading
        loadTimer := .running 50
        i2c :=
          match freed with
          | some n => { phase := .reading, pulses := n, sincePulse := 0, ended := none }
          | none => { phase := .recovering, pulses := 0, sincePulse := 0, ended := none } } }

/-- R38, R42, R43: a missing acknowledge, or the load timer's expiry, ends the load DEFAULTED, NO_MEMORY, with every setting at its
default; the phase follows the strap value; the clock, the line ports and RLY continue. While CFL still recovers the bus no byte is sent, and
neither a missing acknowledge nor an image is taken (log entry 11). That the timer's expiry is a command of its own, taken when the tick
has made the timer due, is read from R1 (log entry 2). -/
def Obligations.LoadFailureTakesDefaults : Prop :=
  (∀ (c : Instr) (s : State), s.awake = true → s.cfl.phase = .loading →
    ((∃ stage, c = .i2cNack stage) ∧ s.cfl.i2c.phase = .reading ∨ (c = .loadTimerExpiry ∧ s.cfl.loadTimer = .due)) →
    ∃ u d, exec c s = .next u ∧ u.cfl.outcome = some .defaulted ∧ u.cfl.reason = some .noMemory ∧
      u.cfl.settings = some d ∧ d.isDefault s.station ∧ u.cfl.loadTimer = .stopped ∧ u.cfl.i2c.phase = .idle ∧
      u.cfl.i2c.ended = some .stop ∧ u.cfl.strap = s.cfl.strap ∧
      u.cfl.phase = (if s.station.isSome then .running else .repeaterOnly) ∧
      u.clk = s.clk ∧ u.west = s.west ∧ u.east = s.east ∧ u.rly = s.rly) ∧
  ∀ (c : Instr) (s : State), s.cfl.i2c.phase = .recovering → ((∃ stage, c = .i2cNack stage) ∨ ∃ img, c = .imageReadDone img) →
    exec c s = .next s

/-- R39 to R42: an image read whole is judged by its check, then its fields, then their consistency, and adopted or rejected whole. -/
def Obligations.ImageJudgedAndAdopted : Prop :=
  ∀ (img : List Byte) (s : State), s.awake = true → s.cfl.phase = .loading → s.cfl.i2c.phase = .reading →
    img.length = 139 →
    ∃ u d, exec (.imageReadDone img) s = .next u ∧ u.cfl.settings = some d ∧ u.cfl.loadTimer = .stopped ∧
      u.cfl.phase = (if s.station.isSome then .running else .repeaterOnly) ∧
      u.clk = s.clk ∧ u.west = s.west ∧ u.east = s.east ∧ u.rly = s.rly ∧
      (crc img ≠ 0 → u.cfl.outcome = some .defaulted ∧ u.cfl.reason = some .badCheck ∧ d.isDefault s.station) ∧
      (crc img = 0 → img.getD 0 0 ≠ 0x62 ∨ img.getD 1 0 ≠ 139 → u.cfl.outcome = some .defaulted ∧ u.cfl.reason = some .badField) ∧
      (crc img = 0 → readFields img = none →
        u.cfl.outcome = some .defaulted ∧ u.cfl.reason = some .badField ∧ d.isDefault s.station) ∧
      (∀ e, crc img = 0 → readFields img = some e → consistent e = false →
        u.cfl.outcome = some .defaulted ∧ u.cfl.reason = some .badField ∧ d.isDefault s.station) ∧
      (∀ e, crc img = 0 → readFields img = some e → consistent e = true →
        u.cfl.outcome = some .loaded ∧ u.cfl.reason = some .none ∧ d = e)

/-- R41: the cases of inconsistency. -/
def Obligations.InconsistencyCases : Prop :=
  ∀ c : Settings, consistent c = false ↔
    (∃ p : Fin 4, c.paths[p].kind = .span ∧ (if p.val % 2 = 0 then c.west else c.east) = 0) ∨
    (∃ p : Fin 4, c.paths[p].upstream.val % 2 ≠ p.val % 2) ∨
    c.poolOff ≥ c.poolOn ∨ (∃ p : Fin 4, c.paths[p].toneOff ≥ c.paths[p].toneOn) ∨
    (∃ p : Fin 4, c.paths[p].degrade ≤ c.paths[p].loss ∨ c.paths[p].overload ≤ c.paths[p].degrade) ∨
    (c.dyingLevel ≠ 0 ∧ c.reviveLevel ≤ c.dyingLevel) ∨
    c.staleTime < 2 * c.statePeriod ∨
    (∃ n m : Fin 12, c.lines[n].fn = .fan ∧ c.lines[n].paired = some m ∧ c.lines[m].fn ≠ .tacho) ∨
    (∃ n k m : Fin 12, n ≠ k ∧ c.lines[n].fn = .fan ∧ c.lines[n].paired = some m ∧ c.lines[k].fn = .fan ∧
      c.lines[k].paired = some m)

/-- R171: the image laid out from settings in range and consistent is 139 bytes long and is adopted as those settings, at every station.
-/
def Obligations.ImageLayoutRoundTrip : Prop :=
  ∀ (c : Settings) (station : Option Nat), c.inRange → consistent c = true →
    c.image.length = 139 ∧ judgeImage station c.image = (.loaded, .none, c)

/-- R43, with R48, R65, R85, R122, R123, R152, R156 and R157: the entry to RUNNING at the end of a load that adopts an image. -/
def Obligations.EntryToRunningStartsBlocks : Prop :=
  ∀ (img : List Byte) (c : Settings) (s : State), s.awake = true → s.cfl.phase = .loading → s.cfl.i2c.phase = .reading →
    s.station.isSome = true → s.tcr = lanesReset → img.length = 139 → crc img = 0 → readFields img = some c → consistent c = true →
    ∃ u, exec (.imageReadDone img) s = .next u ∧ u.cfl.phase = .running ∧
      u.smp.scanning = true ∧ u.smp.block = .startDue ∧ u.smp.cycle = 0 ∧ u.smp.slot = 0 ∧ u.smp.slowPtr = 0 ∧
      (∀ p : Fin 4,
        (c.paths[p].kind = .span →
          u.tcr[normalLane p].state = .starting ∧ u.tcr[fillLane p].state = .starting ∧
          u.tcr[normalLane p].channel.val = p.val ∧ u.tcr[fillLane p].channel.val = p.val ∧
          u.tcr[normalLane p].bin = some (64 + 6 * ((if p.val % 2 = 0 then c.west else c.east) - 1)) ∧
          u.tcr[fillLane p].bin = some (64 + 6 * ((if p.val % 2 = 0 then c.west else c.east) - 1) + 3) ∧
          u.vde[p].verdict = .pending) ∧
        (c.paths[p].kind ≠ .span →
          u.tcr[normalLane p].state = .parked ∧ u.tcr[fillLane p].state = .parked ∧ u.vde[p].verdict = .notApplicable) ∧
        u.tcr[normalLane p].on = c.paths[p].toneOn ∧ u.tcr[normalLane p].off = c.paths[p].toneOff ∧
        u.tcr[fillLane p].on = c.paths[p].toneOn ∧ u.tcr[fillLane p].off = c.paths[p].toneOff ∧
        u.plg.osc[p].on = decide (c.paths[p].kind ≠ .unused) ∧ u.plg.osc[p].mode = .normal ∧ u.plg.osc[p].phase = 0) ∧
      u.nbv.west.station = c.west ∧ u.nbv.east.station = c.east ∧
      (∀ side, (u.nb side).heard = false ∧ (u.nb side).staleTimer = .running (1000 * c.staleTime) ∧
        (u.nb side).cutOff = !s.isUp side) ∧
      (∀ n : Fin 12, u.stu.lines[n].fn = c.lines[n].fn ∧
        (c.lines[n].fn = .out ∨ c.lines[n].fn = .fan → u.stu.lines[n].level = c.lines[n].startHigh ∧
          u.stu.lines[n].requested = c.lines[n].startHigh) ∧
        (c.lines[n].fn = .inp ∨ c.lines[n].fn = .tacho ∨ c.lines[n].fn = .powerGood →
          u.stu.lines[n].level = s.pins.lines[n]) ∧
        (u.stu.lines[n].flag = true ↔ c.lines[n].fn = .inp ∧
          (c.lines[n].trigger = .high ∧ s.pins.lines[n] = true ∨ c.lines[n].trigger = .low ∧ s.pins.lines[n] = false))) ∧
      ((∃ n : Fin 12, c.lines[n].fn = .powerGood ∧ s.pins.lines[n] = false) →
        u.stu.dying = true ∧ u.stateTimer = .stopped ∧ u.stu.total = 1 ∧ ∀ e ∈ u.snq, e.item ≠ .state) ∧
      ((∀ n : Fin 12, c.lines[n].fn = .powerGood → s.pins.lines[n] = true) →
        u.stu.dying = false ∧ u.stateTimer = .running (1000 * c.statePeriod) ∧
        (s.isUp .west = true ∨ s.isUp .east = true →
          ∃ e ∈ u.snq, e.item = .state ∧ (s.isUp .west = true → e.west = true) ∧ (s.isUp .east = true → e.east = true)))

/-! ### Symbols, assembly and the check (Chapter 1) -/

/-- R4: what a received symbol does to the receive assembly, in both columns of its table: a delimiter empties it and, on an UP port,
hands RLY the frame of a symbol count above 0; any other symbol counts, and is stored, escapes or spoils. -/
def Obligations.ReceiveAssemblyTable : Prop :=
  ∀ (side : Side) (sym : Symbol) (t : Stamp) (s₀ s : State), s = s₀.moment t → s.awake = true →
    ∃ u, exec (.symbolReceived side sym t) s₀ = .next u ∧
      (sym = .framed 0xD3 →
        (u.port side).assembly = { bytes := [], count := 0, esc := false, spoiled := none } ∧
        u.rly.arrivals = s.rly.arrivals ++
          (if (s.port side).link = .up ∧ (s.port side).assembly.count ≠ 0 then
            [{ side := side
               bytes := (s.port side).assembly.bytes
               spoiled := (s.port side).assembly.spoiled.or (if (s.port side).assembly.esc then some .badEscape else none)
               stamp := t }]
          else [])) ∧
      (sym ≠ .framed 0xD3 →
        u.rly.arrivals = s.rly.arrivals ∧
        (u.port side).assembly.count = min 255 ((s.port side).assembly.count + 1) ∧
        (u.port side).assembly.esc = decide (sym = .framed 0xD9 ∧ (s.port side).assembly.esc = false) ∧
        ∃ stored : Option Byte,
          stored = (match sym, (s.port side).assembly.esc with
            | .error, _ => none
            | .framed b, false => if b = 0xD9 then none else some b
            | .framed b, true => if b = 0xF3 then some 0xD3 else if b = 0xF9 then some 0xD9 else none) ∧
          (u.port side).assembly.bytes =
            (if (s.port side).assembly.spoiled = none ∧ (s.port side).assembly.bytes.length < 53 then
              (s.port side).assembly.bytes ++ stored.toList
            else (s.port side).assembly.bytes) ∧
          (u.port side).assembly.spoiled =
            (s.port side).assembly.spoiled.or
              (if sym = .error then some .symbolError
              else if (s.port side).assembly.esc = true ∧ stored = none then some .badEscape
              else if stored ≠ none ∧ 53 ≤ (s.port side).assembly.bytes.length then some .overlong
              else none))

/-- R5, R6, R7: what a received symbol does to a port's link state and stamps; nothing but the port's link record, its assembly and the
frame handed to RLY changes. -/
def Obligations.LinkSymbolTable : Prop :=
  ∀ (side : Side) (sym : Symbol) (t : Stamp) (s₀ s : State), s = s₀.moment t → s.awake = true →
    ∃ u, exec (.symbolReceived side sym t) s₀ = .next u ∧
      ((u.port side).link =
        (if (s.port side).link = .down ∧ sym ≠ .error ∧ s.signal side = true then .settling else (s.port side).link)) ∧
      ((u.port side).settleStart =
        (if (s.port side).link = .down ∧ sym ≠ .error ∧ s.signal side = true then some t
        else if (s.port side).link = .settling ∧ sym = .error then some t
        else (s.port side).settleStart)) ∧
      ((u.port side).lastGood =
        (if sym ≠ .error ∧ ((s.port side).link ≠ .down ∨ s.signal side = true) then some t else (s.port side).lastGood)) ∧
      u.port side = { s.port side with
        link := (u.port side).link, settleStart := (u.port side).settleStart, lastGood := (u.port side).lastGood,
        assembly := (u.port side).assembly } ∧
      u.port (otherSide side) = s.port (otherSide side) ∧
      { u with west := s.west, east := s.east, rly := { u.rly with arrivals := s.rly.arrivals } } = s

/-- R8: on entry to DOWN, by signal detect or by silence, from SETTLING or UP, the port takes its last down stamp, loses its assembly and
its forward queue, and RLY's relay drops rise by the frames lost. R29: the port's mark leaves every entry of SNQ, the other marks and the
order stay, and an entry left with no mark leaves; an ANSWER that leaves frees its slot, whose record then stands as after reset, which is
the model's choice (log entry 9). R118: the record of the side is CUT_OFF. R131, R134, R142: each SPAN path on that side in WATCH or
UNRESOLVED becomes SPAN_FAULT, LINE_CUT, and R140 notifies its PATH subject; no other verdict changes. -/
def Obligations.EntryToDownEffects : Prop :=
  ∀ (c : Instr) (side : Side) (t : Stamp) (decided : Fin 4 → Prop) (s₀ s : State), s = s₀.moment t → s.awake = true →
    (s.port side).link ≠ .down → s.rqh.restartPending = none →
    (c = .signalDetectChange side false t ∨
      c = .silenceExpiry side t ∧ ∃ g, (s.port side).lastGood = some g ∧ 1000 ≤ (s.clk.hut - g).toNat) →
    (∀ p, decided p ↔ s.running = true ∧ s.kind p = .span ∧ upstreamSide p = side ∧
      (s.vde[p].verdict = .watch ∨ s.vde[p].verdict = .unresolved)) →
    ∃ (u : State) (q : List Entry), exec c s₀ = .next u ∧
      u.port side = { s.port side with
        link := .down, lastDown := some s.clk.hut, aged := false
        assembly := { bytes := [], count := 0, esc := false, spoiled := none }, fwd := [] } ∧
      u.port (otherSide side) = s.port (otherSide side) ∧
      u.rly = { s.rly with relayDrops := min 255 (s.rly.relayDrops + (s.port side).fwd.length) } ∧
      u.nb side = { s.nb side with cutOff := true } ∧ u.nb (otherSide side) = s.nb (otherSide side) ∧
      (∀ k : Fin 6,
        u.rqh.slots[k] =
          (if ∃ e ∈ s.snq, e.slot? = some k ∧ (e.unmark side).marked = false then Slot.reset else s.rqh.slots[k])) ∧
      q = (s.snq.map fun e => e.unmark side).filter (fun e => e.mark (otherSide side)) ∧
      ((∀ p, ¬ decided p) → u.snq = q) ∧
      (∀ keep : Entry → Bool, (∀ e, keep e = false ↔ ∃ p, decided p ∧ e.item = .notice (.path p)) → u.snq.filter keep = q.filter keep) ∧
      (∀ p, decided p → (s.port (otherSide side)).link = .up →
        ∃ e ∈ u.snq, e.item = .notice (.path p) ∧ e.mark (otherSide side) = true) ∧
      (∀ e ∈ u.snq, e.mark side = false) ∧
      (∀ p : Fin 4,
        (decided p →
          u.vde[p] = { s.vde[p] with
            verdict := .spanFault
            evidence := .lineCut
            late := decide (s.vde[p].verdict = .unresolved)
            window := if s.vde[p].verdict = .watch then .stopped else s.vde[p].window }) ∧
        (¬ decided p → u.vde[p] = s.vde[p])) ∧
      u.clk = s.clk ∧ u.tcr = s.tcr ∧ u.plg = s.plg ∧ u.ttg = s.ttg ∧ u.pmn = s.pmn ∧ u.smp = s.smp ∧ u.cfl = s.cfl ∧
      u.stateTimer = s.stateTimer

/-- R6, R7, R9, R118: a signal-detect input that rises, or that falls while the port is DOWN, changes the level on the pin and nothing
else; 100,000 µs beyond its settle start a SETTLING port becomes UP with its last up stamp and its record's CUT_OFF cleared; more than
2,000,000 µs beyond its last down stamp a port sets its aged mark; nothing else changes. -/
def Obligations.SignalRiseLinkUpAndAgedMark : Prop :=
  ∀ (side : Side) (level : Bool) (t a : Stamp) (s₀ s : State), s = s₀.moment t → s.awake = true →
    (level = true ∨ (s.port side).link = .down →
      exec (.signalDetectChange side level t) s₀ = .next (State.setSignal side level s)) ∧
    ((s.port side).link = .settling → (s.port side).settleStart = some a → 100000 ≤ (s.clk.hut - a).toNat →
      exec (.linkUp side t) s₀ = .next
        ((s.setPort side { s.port side with link := .up, lastUp := some s.clk.hut }).setNb side
          { s.nb side with cutOff := false })) ∧
    ((s.port side).lastDown = some a → 2000000 < (s.clk.hut - a).toNat →
      exec (.agedMark side t) s₀ = .next (s.setPort side { s.port side with aged := true }))

/-- R2: a byte's symbol takes ten bit times from a low start bit to a high stop bit and is received as that byte; a low stop bit makes a
symbol error of any data. R11: the check register ends at 0 exactly when the two check bytes are those computed over the bytes before
them; over "123456789" the check is 0x29B1. -/
def Obligations.SymbolsAndCheckDetectErrors : Prop :=
  (∀ b : Byte, (symbolBits b).length = 10 ∧ (symbolBits b).head? = some false ∧ (symbolBits b).getLast? = some true ∧
    readSymbol (symbolBits b) = some (.framed b)) ∧
  (∀ d0 d1 d2 d3 d4 d5 d6 d7 : Bool, readSymbol [false, d0, d1, d2, d3, d4, d5, d6, d7, false] = some .error) ∧
  (∀ (bs : List Byte) (hi lo : Byte), crc (bs ++ [hi, lo]) = 0 ↔ [hi, lo] = checkBytes bs) ∧
  checkBytes [0x31, 0x32, 0x33, 0x34, 0x35, 0x36, 0x37, 0x38, 0x39] = [0x29, 0xB1]

/-- R10, R11, R12, R170: the bytes of a frame whose fields are in range are 13 to 53 bytes long and are received as that very frame, on
either port. -/
def Obligations.FrameRoundTrip : Prop :=
  ∀ (f : Frame) (side : Side) (t : Stamp), f.inRange →
    13 ≤ f.bytes.length ∧ f.bytes.length ≤ 53 ∧
      goodFrame { side := side, bytes := f.bytes, spoiled := none, stamp := t } = some f

/-- R3, R4, R11, R12: the symbols a transmitter sends for a frame, received one by one on an UP port whose assembly is empty, hand RLY one
received frame, stamped with the closing delimiter's stamp, which is that very frame. -/
def Obligations.SentFrameIsReceived : Prop :=
  ∀ (side : Side) (f : Frame) (sent : List (Byte × Stamp)) (t : Stamp) (rest : List Instr) (s : State),
    f.inRange → s.awake = true → (s.port side).link = .up → (s.port side).assembly = .empty →
    sent.map (·.1) = f.sent → sent.getLast? = some (0xD3, t) →
    s.pending = sent.map (fun x => .symbolReceived side (.framed x.1) x.2) ++ rest →
    ∃ u r, Host.Core.run Sys2Proof.core sent.length s = .next u ∧ u.pending = rest ∧ u.rly.arrivals = s.rly.arrivals ++ [r] ∧
      r.side = side ∧ r.stamp = t ∧ goodFrame r = some f ∧ (u.port side).link = .up ∧ (u.port side).assembly = .empty

/-! ### RLY (Chapter 1, R19, R20) -/

/-- R12: a received frame is malformed when any of the conditions holds; it then raises the malformed counter by 1, saturating at 255,
once however many hold, and is discarded: nothing is forwarded, delivered or tested for own origin. Any other is a good frame and leaves
the counter. -/
def Obligations.MalformedFrameCountsOnce : Prop :=
  ∀ (r : ReceivedFrame) (s : State), s.awake = true →
    (isMalformed r →
      exec (.receivedFrame r) s = .next { s with rly := { s.rly with
        malformed := min 255 (s.rly.malformed + 1), arrivals := s.rly.arrivals.erase r } }) ∧
    (¬ isMalformed r → ∃ u f, exec (.receivedFrame r) s = .next u ∧ goodFrame r = some f ∧ u.rly.malformed = s.rly.malformed)

/-- R13: a good frame bearing this station's number raises the own-origin counter by 1, saturating at 255, and is discarded. R15 to R20:
what RLY does with a good frame of another origin: the offer to the other port, rewritten, and the delivery by kind, target and start
phase; nothing else changes. -/
def Obligations.GoodFrameIsDecided : Prop :=
  ∀ (r : ReceivedFrame) (f : Frame) (s : State), s.awake = true → goodFrame r = some f →
    (1 ≤ s.cfl.strap.toNat → s.cfl.strap.toNat ≤ 60 → f.origin.toNat = s.cfl.strap.toNat →
      exec (.receivedFrame r) s = .next { s with rly := { s.rly with
        ownOrigin := min 255 (s.rly.ownOrigin + 1), arrivals := s.rly.arrivals.erase r } }) ∧
    (s.station ≠ some f.origin.toNat →
      ∃ (u : State) (offered : Bool), exec (.receivedFrame r) s = .next u ∧
        (offered = true ↔ ¬ (f.kind = .request ∧ s.station = some f.target.toNat) ∧ f.hopsLeft ≠ 0 ∧
          (s.port (otherSide r.side)).link = .up) ∧
        u.port (otherSide r.side) =
          (if offered = true ∧ (s.port (otherSide r.side)).fwd.length < 8 then
            { s.port (otherSide r.side) with
              fwd := (s.port (otherSide r.side)).fwd ++
                [{ f with hopsLeft := f.hopsLeft - 1, hopsDone := if 63 ≤ f.hopsDone.toNat then 63 else f.hopsDone + 1 }] }
          else s.port (otherSide r.side)) ∧
        u.port r.side = s.port r.side ∧
        u.rly = { s.rly with
          relayDrops :=
            if offered = true ∧ 8 ≤ (s.port (otherSide r.side)).fwd.length then min 255 (s.rly.relayDrops + 1)
            else s.rly.relayDrops
          arrivals := s.rly.arrivals.erase r } ∧
        u.rqh = { s.rqh with
          deliveries := s.rqh.deliveries ++
            (if f.kind = .request ∧ (s.station = some f.target.toNat ∨ f.target = 63) ∧ s.cfl.phase ≠ .repeaterOnly then
              [{ head := { requester := f.origin, tag := f.tag, broadcast := decide (f.target = 63) }, body := f.body }]
            else []) } ∧
        u.nbv = { s.nbv with
          deliveries := s.nbv.deliveries ++
            (if (f.kind = .state ∨ f.kind = .notice) ∧ s.cfl.phase = .running then
              [{ side := r.side, origin := f.origin, hopsDone := f.hopsDone, kind := f.kind, stamp := f.stamp, body := f.body }]
            else []) } ∧
        { u with west := s.west, east := s.east, rly := s.rly, rqh := s.rqh, nbv := s.nbv } = s)

/-! ### The send queue and the arbiter (Chapter 2) -/

/-- R24, R25, R26: what a request for a NOTICE does to the send queue: an entry of its subject keeps its place and is marked again
for the UP ports, and is prompted if the request is; else a new entry joins the tail, marked for the UP ports; else, with no port UP, it
is lost. The POWER notice of a part that is DYING is not among them: R27 places it at the head (PowerGoodLineMovesPowerState,
SiteReadingsJudged). -/
def Obligations.SendQueueTakesRequest : Prop :=
  ∀ (subject : Subject) (prompt : Bool) (s : State), s.running = true →
    (subject ≠ .power ∨ s.stu.dying = false) →
    ((∃ e ∈ s.snq, e.item = .notice subject) →
      (s.askNotice subject prompt).snq.length = s.snq.length ∧
      ∀ (i : Nat) (e : Entry), s.snq[i]? = some e →
        (s.askNotice subject prompt).snq[i]? = some
          (if e.item = .notice subject then
            { item := e.item, west := e.west || s.isUp .west, east := e.east || s.isUp .east, prompted := e.prompted || prompt }
          else e)) ∧
    ((∀ e ∈ s.snq, e.item ≠ .notice subject) → (s.isUp .west = true ∨ s.isUp .east = true) →
      (s.askNotice subject prompt).snq =
        s.snq ++ [{ item := .notice subject, west := s.isUp .west, east := s.isUp .east, prompted := prompt }]) ∧
    ((∀ e ∈ s.snq, e.item ≠ .notice subject) → s.isUp .west = false → s.isUp .east = false →
      (s.askNotice subject prompt).snq = s.snq)

/-- R21, R31, R32, R33: a transmitter that is free, or that the command frees, takes the head frame of the forward queue when the local
source has no work or was served last, and no POWER notice waits while DYING; with no work, or the port not UP, it stays free, and nothing
else changes. -/
def Obligations.GrantOfForwardSource : Prop :=
  ∀ (c : Instr) (side : Side) (t : Stamp) (s₀ s : State), s = s₀.moment t → s.awake = true →
    (c = .grantAtSymbolBoundary side t ∧ (s.port side).tx = none ∨ c = .transmitDone side t ∧ (s.port side).tx ≠ none) →
    (∀ (f : Frame) (rest : List Frame), (s.port side).link = .up → (s.port side).fwd = f :: rest →
      (s.stu.dying = true → ∀ e ∈ s.snq, e.item = .notice .power → e.mark side = false) →
      ((s.port side).marker = .locally ∨ ∀ e ∈ s.snq, e.mark side = false) →
      exec c s₀ = .next (s.setPort side { s.port side with fwd := rest, marker := .forward, tx := some f })) ∧
    ((s.port side).link ≠ .up ∨ (s.port side).fwd = [] ∧ (∀ e ∈ s.snq, e.mark side = false) →
      exec c s₀ = .next (s.setPort side { s.port side with tx := none }))

/-- R22, R28, R31, R32, R33: a grant of the local source takes the entry nearest the head marked for the port, or the POWER entry while
DYING; its frame is composed at this moment, its mark is cleared, an entry with no mark left leaves, and an ANSWER that leaves frees its
slot, whose record then stands as after reset, which is the model's choice (log entry 9). -/
def Obligations.GrantOfLocalSource : Prop :=
  ∀ (c : Instr) (side : Side) (t : Stamp) (pre post : List Entry) (e : Entry) (s₀ s : State), s = s₀.moment t →
    s.awake = true →
    (c = .grantAtSymbolBoundary side t ∧ (s.port side).tx = none ∨ c = .transmitDone side t ∧ (s.port side).tx ≠ none) →
    (s.port side).link = .up → s.queueSound → s.rqh.restartPending = none →
    s.snq = pre ++ e :: post → e.mark side = true →
    (s.stu.dying = true ∧ e.item = .notice .power ∨
      (∀ x ∈ pre, x.mark side = false) ∧ ((s.port side).fwd = [] ∨ (s.port side).marker = .forward) ∧
        (s.stu.dying = true → ∀ x ∈ s.snq, x.item = .notice .power → x.mark side = false)) →
    ∃ u f, exec c s₀ = .next u ∧
      u.port side = { s.port side with marker := .locally, tx := some f } ∧
      u.port (otherSide side) = s.port (otherSide side) ∧
      u.snq = pre ++ (if (e.unmark side).marked = true then [e.unmark side] else []) ++ post ∧
      (∀ k fixed, e.item = .answer k fixed → f = fixed) ∧
      ((∀ k fixed, e.item ≠ .answer k fixed) →
        f.origin = BitVec.ofNat 8 (s.station.getD 0) ∧ f.target = 63 ∧ f.hopsLeft = BitVec.ofNat 8 s.reach ∧ f.hopsDone = 0 ∧
        f.stamp = s.clk.hut ∧ f.tag = 0) ∧
      (e.item = .state → f.kind = .state ∧ f.body = s.stateBody) ∧
      (∀ x, e.item = .notice x → f.kind = .notice ∧ f.body = s.noticeBody x e.prompted) ∧
      (∀ k : Fin 6, u.rqh.slots[k] =
        (if e.slot? = some k ∧ (e.unmark side).marked = false then Slot.reset else s.rqh.slots[k])) ∧
      { u with west := s.west, east := s.east, snq := s.snq, rqh := { u.rqh with slots := s.rqh.slots } } = s

/-! ### The sampler, the correlator and the path monitor (Chapters 4, 5 and 7) -/

/-- R51, R63, R73, R98, R101: at a block start every STARTING lane becomes RUNNING with phase, X and Y 0, every sum is 0, and every
monitored path notes whether it is in LOSS; nothing else changes. R49, R51: the block runs from slot 0 of cycle 0; a tap gives its sample
at its own slot of a cycle and at no other, the shared slot is slot 8, a block ends where its cycle 1023 is complete and starts where the
block before has ended. That the command of such an event out of its place changes nothing is the model's reading (log entries 3 and 5). -/
def Obligations.BlockStartStartsLanesAndSlotsComeInOrder : Prop :=
  (∀ s : State, s.running = true → s.smp.scanning = true → s.smp.block = .startDue →
    ∃ u, exec .blockStart s = .next u ∧
      (∀ i : Fin 16, u.tcr[i] =
        (if s.tcr[i].state = .starting then { s.tcr[i] with state := .running, phase := 0, x := 0, y := 0 } else s.tcr[i])) ∧
      (∀ p : Fin 4, u.pmn[p] = { s.pmn[p] with
        inSum := 0, outSum := 0
        lossAtStart := if s.kind p = .unused then s.pmn[p].lossAtStart else decide (s.pmn[p].input = .loss) }) ∧
      u.smp = { s.smp with block := .inProgress, cycle := 0, slot := 0 } ∧
      { u with smp := s.smp, tcr := s.tcr, pmn := s.pmn } = s) ∧
  (∀ s : State, s.smp.block ≠ .startDue → exec .blockStart s = .next s) ∧
  ∀ (ch : Fin 8) (code : Code) (pmnFirst : Bool) (t : Stamp) (s₀ s : State), s = s₀.moment t →
    (s.smp.block ≠ .inProgress ∨ s.smp.slot.val ≠ ch.val → exec (.tapSample ch code t) s₀ = .next s) ∧
    (s.smp.block ≠ .inProgress ∨ s.smp.slot.val ≠ 8 → exec (.sharedSlot code t) s₀ = .next s) ∧
    (s.smp.block ≠ .endDue → exec (.blockEnd pmnFirst t) s₀ = .next s)

/-- R50, R63, R74, R98: a tap sample is accumulated by every RUNNING lane of its channel and added to the sum of its tap; no other lane
and no other sum changes, and the slow channels, the probes, the ports and the answer slots do not change at all. R99: a sample of a
monitored path's input tap acts on its loss run, in every input state: below the loss threshold the run rises by 1, saturating at 255, and
else it returns to 0. -/
def Obligations.TapSampleAccumulates : Prop :=
  ∀ (ch : Fin 8) (code : Code) (t : Stamp) (s₀ s : State), s = s₀.moment t → s.running = true → s.smp.scanning = true → s.smp.block = .inProgress →
    s.smp.slot.val = ch.val →
    ∃ u, exec (.tapSample ch code t) s₀ = .next u ∧
      (∀ i : Fin 16, u.tcr[i] =
        (if s.tcr[i].state = .running ∧ s.tcr[i].channel = ch then
          { s.tcr[i] with
            x := s.tcr[i].x + code.toNat * cosTable s.tcr[i].phase
            y := s.tcr[i].y + code.toNat * sinTable s.tcr[i].phase
            phase := (s.tcr[i].phase + s.tcr[i].bin.getD 0) % 1024 }
        else s.tcr[i])) ∧
      (∀ p : Fin 4,
        u.pmn[p].inSum = s.pmn[p].inSum + (if ch.val = p.val then code.toNat else 0) ∧
        u.pmn[p].outSum = s.pmn[p].outSum + (if ch.val = p.val + 4 then code.toNat else 0) ∧
        u.pmn[p].lossRun =
          (if ch.val = p.val ∧ s.kind p ≠ .unused then
            (if code.toNat < s.settings.paths[p].loss then min 255 (s.pmn[p].lossRun + 1) else 0)
          else s.pmn[p].lossRun) ∧
        u.pmn[p].inMean = s.pmn[p].inMean ∧ u.pmn[p].outMean = s.pmn[p].outMean ∧
        u.pmn[p].lossAtStart = s.pmn[p].lossAtStart ∧ u.pmn[p].outputLow = s.pmn[p].outputLow ∧
        u.pmn[p].biasHigh = s.pmn[p].biasHigh) ∧
      u.smp = { s.smp with slot := ch.succ } ∧ u.clk = s.clk ∧
      u.west = s.west ∧ u.east = s.east ∧ u.rly = s.rly ∧ u.rqh = s.rqh ∧ u.ttg = s.ttg ∧ u.nbv = s.nbv ∧ u.cfl = s.cfl ∧
      u.stateTimer = s.stateTimer ∧ u.pins = s.pins

/-- R100, R128, R129, R130, R137: the sample that raises the loss run of a path not in LOSS to the loss run length trips it: LOSS with
that sample's stamp, the loss input and FILL, a PATHp entry, and, for a SPAN path, the verdict of a loss event. A link-down taken first
whose stamp lies after the sample's, by at most the correlation window, decides the verdict too (R129): the loss stamp is then behind the
hut clock, which the watch starts from. -/
def Obligations.TripEntersLoss : Prop :=
  ∀ (p : Fin 4) (ch : Fin 8) (code : Code) (t : Stamp) (s₀ s : State), s = s₀.moment t →
    s.running = true → s.smp.scanning = true → s.smp.block = .inProgress → s.smp.slot.val = ch.val → ch.val = p.val → s.kind p ≠ .unused →
    code.toNat < s.settings.paths[p].loss → s.pmn[p].lossRun + 1 = s.settings.paths[p].lossRunLength →
    s.settings.paths[p].lossRunLength ≤ 255 → s.pmn[p].input ≠ .loss →
    ∃ u, exec (.tapSample ch code t) s₀ = .next u ∧
      u.pmn[p].input = .loss ∧ u.pmn[p].lossStamp = some t ∧ u.plg.osc[p].lossIn = true ∧ u.plg.osc[p].mode = .fill ∧
      (s.isUp .west = true ∨ s.isUp .east = true →
        ∃ e ∈ u.snq, e.item = .notice (.path p) ∧ (s.isUp .west = true → e.west = true) ∧ (s.isUp .east = true → e.east = true)) ∧
      (s.kind p ≠ .span → u.vde = s.vde) ∧
      (s.kind p = .span → s.vde[p].verdict.isLight = true →
        u.vde[p].lossStamp = some t ∧ u.vde[p].toneAbsent = 0 ∧ u.vde[p].late = false ∧
        ((s.nb (upstreamSide p)).dying = true → u.vde[p].verdict = .upstreamPower ∧ u.vde[p].evidence = .dying) ∧
        ((s.nb (upstreamSide p)).dying = false → (s.port (upstreamSide p)).recentlyDown s.settings.window t →
          u.vde[p].verdict = .spanFault ∧ u.vde[p].evidence = .lineCut) ∧
        ((s.nb (upstreamSide p)).dying = false → ¬ (s.port (upstreamSide p)).recentlyDown s.settings.window t →
          u.vde[p].verdict = .watch ∧ u.vde[p].evidence = .none ∧ u.vde[p].watchStart = some s.clk.hut ∧
          u.vde[p].window = .running s.settings.window)) ∧
      (∀ cause, s.kind p = .span → s.vde[p].verdict = .restoring → s.vde[p].cause = some cause →
        u.vde[p].verdict = cause ∧ u.vde[p].cause = none ∧ u.vde[p].flaps = min 255 (s.vde[p].flaps + 1) ∧
        u.vde[p].lossStamp = some t ∧ u.vde[p].toneAbsent = 0 ∧ u.vde[p].holdOff = .stopped ∧
        (cause ≠ .watch → u.vde[p].evidence = s.vde[p].evidence ∧ u.vde[p].late = s.vde[p].late ∧
          u.vde[p].window = s.vde[p].window) ∧
        (cause = .watch → u.vde[p].watchStart = some s.clk.hut ∧ u.vde[p].window = .running s.settings.window))

/-- R75: every entry of C and S is the integer nearest to 2047 times the cosine and the sine of its index's part of a turn, nearer than
halfway, so no tie arises; it lies in −2047 to 2047, the entries half a turn on are its negative, and the quarters stand as the rule gives
them. R76: 1024 samples of one code add nothing to X and Y of a lane that begins a block on a bin 1 to 511, whatever the code, and its
phase stands at 0 again. -/
def Obligations.TablesRoundSinesAndConstantInputAddsNothing : Prop :=
  (∀ m : Nat, m < 1024 →
    |2047 * Real.cos (2 * Real.pi * (m : ℝ) / 1024) - (cosTable m : ℝ)| < 1 / 2 ∧
    |2047 * Real.sin (2 * Real.pi * (m : ℝ) / 1024) - (sinTable m : ℝ)| < 1 / 2 ∧
    (cosTable m).natAbs ≤ 2047 ∧ (sinTable m).natAbs ≤ 2047) ∧
  (∀ m : Nat, m < 512 → cosTable (m + 512) = -cosTable m ∧ sinTable (m + 512) = -sinTable m) ∧
  [0, 256, 512, 768].map cosTable = [2047, 0, -2047, 0] ∧ [0, 256, 512, 768].map sinTable = [0, 2047, 0, -2047] ∧
  ∀ (l : Lane) (bin code : Nat), l.state = .running → l.phase = 0 → l.bin = some bin → 1 ≤ bin → bin ≤ 511 →
    (Nat.repeat (Lane.accumulate l.channel code) 1024 l).x = l.x ∧ (Nat.repeat (Lane.accumulate l.channel code) 1024 l).y = l.y ∧
    (Nat.repeat (Lane.accumulate l.channel code) 1024 l).phase = 0

/-- R77, R78, R79: at a block end a RUNNING lane scales and limits its accumulators, forms its tone power and judges its presence with
hysteresis, then returns X, Y and phase to 0; an even lane of a pair takes the combined result; no other lane changes. R81: a
TONE notice is asked for when a pool lane's presence, a combined result or a limit flag changes, and not otherwise. -/
def Obligations.BlockEndEvaluatesLanes : Prop :=
  ∀ (pmnFirst : Bool) (t : Stamp) (s₀ s : State), s = s₀.moment t → s.running = true →
    s.smp.scanning = true → s.smp.block = .endDue →
    ∃ u, exec (.blockEnd pmnFirst t) s₀ = .next u ∧
      (∀ i : Fin 16, s.tcr[i].state ≠ .running → u.tcr[i] = s.tcr[i]) ∧
      (∀ i : Fin 16, s.tcr[i].state = .running → ∃ xs ys : Int, ∃ pt : Nat,
        xs = max (-32768) (min 32767 (s.tcr[i].x / 65536)) ∧ ys = max (-32768) (min 32767 (s.tcr[i].y / 65536)) ∧
        (pt : Int) = xs * xs + ys * ys ∧ pt ≤ 2147483648 ∧
        u.tcr[i].lastPower = some pt ∧
        u.tcr[i].present = (if s.tcr[i].present then decide (¬ pt < s.tcr[i].off * 1024) else decide (pt ≥ s.tcr[i].on * 1024)) ∧
        u.tcr[i].limit = (s.tcr[i].limit || decide (s.tcr[i].x ≥ 2147483648 ∨ s.tcr[i].x < -2147483648 ∨
          s.tcr[i].y ≥ 2147483648 ∨ s.tcr[i].y < -2147483648)) ∧
        u.tcr[i].x = 0 ∧ u.tcr[i].y = 0 ∧ u.tcr[i].phase = 0 ∧ u.tcr[i].state = .running ∧ u.tcr[i].bin = s.tcr[i].bin ∧
        u.tcr[i].owner = s.tcr[i].owner ∧ u.tcr[i].remaining = s.tcr[i].remaining ∧
        (∀ j mode, s.tcr[i].partner = some j → s.tcr[i].combine = some mode → i.val % 2 = 0 →
          u.tcr[i].combined = (match mode with
            | .and => u.tcr[i].present && u.tcr[j].present
            | .or => u.tcr[i].present || u.tcr[j].present
            | .xor => u.tcr[i].present ^^ u.tcr[j].present))) ∧
      (∀ changed : Prop,
        (changed ↔ ∃ i : Fin 16, 8 ≤ i.val ∧ (u.tcr[i].present ≠ s.tcr[i].present ∨ u.tcr[i].combined ≠ s.tcr[i].combined ∨
          u.tcr[i].limit ≠ s.tcr[i].limit)) →
        (changed → s.isUp .west = true ∨ s.isUp .east = true →
          ∃ e ∈ u.snq, e.item = .notice .tone ∧ (s.isUp .west = true → e.west = true) ∧ (s.isUp .east = true → e.east = true)) ∧
        (¬ changed → ∀ e : Entry, e.item = .notice .tone → (e ∈ u.snq ↔ e ∈ s.snq)))

/-- R98, R101 to R104: at a block end PMN forms both means of every path, and every monitored path takes its new input state and its
output-low flag from them; nothing is judged of an UNUSED path. -/
def Obligations.BlockEndJudgesPaths : Prop :=
  ∀ (pmnFirst : Bool) (t : Stamp) (p : Fin 4) (s₀ s : State), s = s₀.moment t → s.running = true →
    s.smp.scanning = true → s.smp.block = .endDue →
    ∃ (u : State) (m n : Nat) (c : PathSettings), exec (.blockEnd pmnFirst t) s₀ = .next u ∧
      m = s.pmn[p].inSum / 1024 ∧ n = s.pmn[p].outSum / 1024 ∧ c = s.settings.paths[p] ∧
      u.pmn[p].inMean = some m ∧ u.pmn[p].outMean = some n ∧ u.pmn[p].inSum = 0 ∧ u.pmn[p].outSum = 0 ∧
      u.pmn[p].lossRun = s.pmn[p].lossRun ∧ u.pmn[p].biasHigh = s.pmn[p].biasHigh ∧
      (c.kind = .unused → u.pmn[p].input = s.pmn[p].input ∧ u.pmn[p].outputLow = s.pmn[p].outputLow) ∧
      (c.kind ≠ .unused →
        u.pmn[p].input =
          (match s.pmn[p].input with
          | .unknown => if m < c.loss then .loss else if m ≥ c.overload then .high else if m < c.degrade then .low else .ok
          | .ok => if m ≥ c.overload then .high else if m < c.degrade then .low else .ok
          | .low => if m ≥ c.overload then .high else if m ≥ c.degrade + c.restoreMargin then .ok else .low
          | .high =>
            if (m : Int) ≥ (c.overload : Int) - c.restoreMargin then .high else if m < c.degrade then .low else .ok
          | .loss =>
            if s.pmn[p].lossAtStart = true ∧ s.pmn[p].lossRun < c.lossRunLength ∧ m ≥ c.loss + c.restoreMargin then
              (if m ≥ c.overload then .high else if m < c.degrade then .low else .ok)
            else .loss) ∧
        u.pmn[p].lossStamp =
          (if s.pmn[p].input = .unknown ∧ m < c.loss then some t else s.pmn[p].lossStamp) ∧
        u.pmn[p].outputLow =
          (if s.pmn[p].outputLow then decide (¬ n ≥ c.outputLow + c.restoreMargin) else decide (n < c.outputLow)) ∧
        (u.pmn[p].input ≠ s.pmn[p].input ∨ u.pmn[p].outputLow ≠ s.pmn[p].outputLow →
          (s.isUp .west = true ∨ s.isUp .east = true) → ∃ e ∈ u.snq, e.item = .notice (.path p)))

/-- R123: the groups of verdicts. R80, R125, R126, R127, R136: what the lane result of a block end does to the verdict of a SPAN path,
whichever of TCR and PMN is first: with light, also at the block end that first judges it, the tone-absent count, and the light evaluation
of a light verdict or of a RESTORING whose hold-off has run out, so that PENDING becomes CLEAR or SYMPATHETIC at once on a tone. R101, R128:
first judged below the loss threshold, a light verdict takes the loss event and the count is 0. R125, R131, R134: in LOSS the count and the
record stand; where the path is restored at this block end, the count is kept if the lane result is taken first, and updated if the restore
is. -/
def Obligations.LaneResultJudgesLight : Prop :=
  (∀ v : Verdict,
    (v.isLight = true ↔ v = .pending ∨ v = .clear ∨ v = .sympathetic ∨ v = .foreignLight) ∧
    (v.isResolvedLoss = true ↔ v = .spanFault ∨ v = .upstreamTx ∨ v = .upstreamPower ∨ v = .unresolved) ∧
    (v.isLoss = true ↔ v = .watch ∨ v.isResolvedLoss = true)) ∧
  ∀ (pmnFirst : Bool) (t : Stamp) (p : Fin 4) (s₀ s : State), s = s₀.moment t → s.running = true →
    s.smp.scanning = true → s.smp.block = .endDue →
    s.kind p = .span → s.tcr[normalLane p].state = .running → s.tcr[fillLane p].state = .running →
    ∃ (u : State) (count : Nat), exec (.blockEnd pmnFirst t) s₀ = .next u ∧
      count = (if u.tcr[normalLane p].present || u.tcr[fillLane p].present then 0 else min 255 (s.vde[p].toneAbsent + 1)) ∧
      (s.pmn[p].input ≠ .loss → (s.pmn[p].input = .unknown → s.settings.paths[p].loss ≤ s.pmn[p].inSum / 1024) →
        u.vde[p].toneAbsent = count ∧
        (s.vde[p].verdict.isLight = true ∨ s.vde[p].verdict = .restoring ∧ s.vde[p].holdOff = .stopped →
          u.vde[p].verdict =
            (if u.tcr[fillLane p].present then .sympathetic
            else if u.tcr[normalLane p].present then .clear
            else if count ≥ s.settings.foreignConfirm then .foreignLight
            else s.vde[p].verdict) ∧
          (u.vde[p].verdict ≠ s.vde[p].verdict →
            u.vde[p].evidence = .none ∧ u.vde[p].late = false ∧ u.vde[p].cause = none ∧ u.vde[p].holdOff = .stopped)) ∧
        (¬ (s.vde[p].verdict.isLight = true ∨ s.vde[p].verdict = .restoring ∧ s.vde[p].holdOff = .stopped) →
          u.vde[p] = { s.vde[p] with toneAbsent := count })) ∧
      (s.pmn[p].input = .unknown → s.pmn[p].inSum / 1024 < s.settings.paths[p].loss → s.vde[p].verdict.isLight = true →
        u.vde[p].toneAbsent = 0 ∧ u.vde[p].lossStamp = some t ∧ u.vde[p].late = false ∧ u.vde[p].cause = none ∧
        ((s.nb (upstreamSide p)).dying = true → u.vde[p].verdict = .upstreamPower ∧ u.vde[p].evidence = .dying) ∧
        ((s.nb (upstreamSide p)).dying = false → (s.port (upstreamSide p)).recentlyDown s.settings.window t →
          u.vde[p].verdict = .spanFault ∧ u.vde[p].evidence = .lineCut) ∧
        ((s.nb (upstreamSide p)).dying = false → ¬ (s.port (upstreamSide p)).recentlyDown s.settings.window t →
          u.vde[p].verdict = .watch ∧ u.vde[p].evidence = .none ∧ u.vde[p].watchStart = some s.clk.hut ∧
          u.vde[p].window = .running s.settings.window)) ∧
      (s.pmn[p].input = .loss → s.vde[p].verdict.isLoss = true →
        u.vde[p].toneAbsent = (if u.pmn[p].input = .loss ∨ pmnFirst = false then s.vde[p].toneAbsent else count) ∧
        (u.pmn[p].input = .loss → u.vde[p] = s.vde[p]))

/-- R103, R135: a SPAN path restored at a block end in a loss verdict goes to RESTORING, in either order of TCR and PMN: the cause takes
the verdict held before, evidence and late stay, the window stops, the hold-off starts, and the loss input becomes false. -/
def Obligations.RestoreMovesToRestoring : Prop :=
  ∀ (pmnFirst : Bool) (t : Stamp) (p : Fin 4) (s₀ s : State), s = s₀.moment t → s.running = true →
    s.smp.scanning = true → s.smp.block = .endDue →
    s.kind p = .span → s.vde[p].verdict.isLoss = true → s.pmn[p].input = .loss → s.pmn[p].lossAtStart = true →
    s.pmn[p].lossRun < s.settings.paths[p].lossRunLength →
    s.settings.paths[p].loss + s.settings.paths[p].restoreMargin ≤ s.pmn[p].inSum / 1024 →
    ∃ u, exec (.blockEnd pmnFirst t) s₀ = .next u ∧ u.pmn[p].input ≠ .loss ∧ u.plg.osc[p].lossIn = false ∧
      u.vde[p].verdict = .restoring ∧ u.vde[p].cause = some s.vde[p].verdict ∧ u.vde[p].evidence = s.vde[p].evidence ∧
      u.vde[p].late = s.vde[p].late ∧ u.vde[p].window = .stopped ∧ u.vde[p].holdOff = .running (1000 * s.settings.holdOff) ∧
      u.vde[p].flaps = s.vde[p].flaps ∧ u.vde[p].lossStamp = s.vde[p].lossStamp ∧ u.vde[p].watchStart = s.vde[p].watchStart

/-- R52 to R54: with no probe waiting the shared slot, slot 8, adds its code to the channel under the slow pointer, which advances; the 32nd
conversion forms the channel's reading, the sum over 32 rounded down, and no other channel changes. R52, R53, R58: else the shared slot
serves the oldest probe: its answer completes with channel, code and stamp, it leaves the queue, and neither the slow pointer nor any slow
sum, lane or path sum changes; with no port UP its answer is discarded and its slot freed (R24, R163), whose record then stands as after
reset, which is the model's choice (log entry 9). Either way the scan cycle is complete: the next follows at slot 0, or, after cycle 1023,
the block's end is due (R49, R51). -/
def Obligations.SharedSlotConverts : Prop :=
  ∀ (code : Code) (t : Stamp) (next : Smp) (s₀ s : State), s = s₀.moment t → s.running = true → s.smp.scanning = true →
    s.smp.block = .inProgress → s.smp.slot = 8 →
    next = { s.smp with
      slot := 0
      cycle := (s.smp.cycle + 1) % 1024
      block := if s.smp.cycle = 1023 then .endDue else .inProgress } →
    (s.smp.probes = [] →
      ∃ u, exec (.sharedSlot code t) s₀ = .next u ∧
        u.smp = { next with
          slowPtr := u.smp.slowPtr, slowSum := u.smp.slowSum, slowCnt := u.smp.slowCnt, readings := u.smp.readings } ∧
        u.smp.slowPtr.val = (s.smp.slowPtr.val + 1) % 10 ∧
        (∀ i : Fin 10, i ≠ s.smp.slowPtr →
          u.smp.slowSum[i] = s.smp.slowSum[i] ∧ u.smp.slowCnt[i] = s.smp.slowCnt[i] ∧ u.smp.readings[i] = s.smp.readings[i]) ∧
        (s.smp.slowCnt[s.smp.slowPtr] < 31 →
          u.smp.slowSum[s.smp.slowPtr] = s.smp.slowSum[s.smp.slowPtr] + code.toNat ∧
          u.smp.slowCnt[s.smp.slowPtr] = s.smp.slowCnt[s.smp.slowPtr] + 1 ∧
          u.smp.readings[s.smp.slowPtr] = s.smp.readings[s.smp.slowPtr]) ∧
        (s.smp.slowCnt[s.smp.slowPtr] = 31 →
          u.smp.slowSum[s.smp.slowPtr] = 0 ∧ u.smp.slowCnt[s.smp.slowPtr] = 0 ∧
          u.smp.readings[s.smp.slowPtr] = some ((s.smp.slowSum[s.smp.slowPtr] + code.toNat) / 32)) ∧
        u.clk = s.clk ∧ u.tcr = s.tcr ∧ u.west = s.west ∧ u.east = s.east ∧ u.rly = s.rly ∧ u.rqh = s.rqh ∧ u.ttg = s.ttg ∧
        u.nbv = s.nbv ∧ u.vde = s.vde ∧ u.plg = s.plg ∧ u.cfl = s.cfl) ∧
    ∀ (ch : Fin 18) (k : Fin 6) (rest : List Probe), s.smp.probes = { channel := ch, slot := k } :: rest →
      (s.rqh.slots[k].request = some 19 → s.isUp .west = true ∨ s.isUp .east = true →
        ∃ u f, exec (.sharedSlot code t) s₀ = .next u ∧
          u.snq = s.snq ++ [{ item := .answer k f, west := s.isUp .west, east := s.isUp .east, prompted := false }] ∧
          f.kind = .answer ∧ f.target = s.rqh.slots[k].requester ∧ f.tag = s.rqh.slots[k].tag ∧ f.stamp = s.clk.hut ∧
          f.body = [0, 19, BitVec.ofNat 8 ch.val, BitVec.ofNat 8 (code.toNat / 256), BitVec.ofNat 8 code.toNat] ++ be32 t.toNat ∧
          u.rqh.slots[k] = { s.rqh.slots[k] with state := .ready } ∧ (∀ j : Fin 6, j ≠ k → u.rqh.slots[j] = s.rqh.slots[j]) ∧
          u.smp = { next with probes := rest } ∧
          { u with snq := s.snq, smp := s.smp, rqh := { u.rqh with slots := s.rqh.slots } } = s) ∧
      (s.isUp .west = false → s.isUp .east = false → s.rqh.restartPending ≠ some k →
        exec (.sharedSlot code t) s₀ = .next { s with
          smp := { next with probes := rest }
          rqh := { s.rqh with slots := s.rqh.slots.set k.val Slot.reset k.isLt } })

/-- R105, R106: a bias reading of a monitored path judges its bias-high flag with the site margin, and a change notifies PATHp; a reading
of an UNUSED path judges nothing. -/
def Obligations.BiasReadingJudgesFlag : Prop :=
  ∀ (p : Fin 4) (code : Code) (t : Stamp) (s₀ s : State), s = s₀.moment t → s.running = true → s.smp.scanning = true → s.smp.block = .inProgress →
    s.smp.slot = 8 → s.smp.probes = [] →
    s.smp.slowPtr.val = p.val → s.smp.slowCnt[s.smp.slowPtr] = 31 →
    ∃ (u : State) (v : Nat), exec (.sharedSlot code t) s₀ = .next u ∧ v = (s.smp.slowSum[s.smp.slowPtr] + code.toNat) / 32 ∧
      u.pmn[p].biasHigh =
        (if s.kind p = .unused then s.pmn[p].biasHigh
        else if s.pmn[p].biasHigh then
          decide (¬ (v : Int) ≤ (s.settings.paths[p].biasLimit : Int) - s.settings.siteMargin)
        else decide (v > s.settings.paths[p].biasLimit)) ∧
      u.pmn[p] = { s.pmn[p] with biasHigh := u.pmn[p].biasHigh } ∧ (∀ q : Fin 4, q ≠ p → u.pmn[q] = s.pmn[q]) ∧
      (u.pmn[p].biasHigh = s.pmn[p].biasHigh → u.snq = s.snq) ∧
      (u.pmn[p].biasHigh ≠ s.pmn[p].biasHigh → u.snq = (s.withNotice (.path p)).snq)

/-- R148, R150, R151, R152, R153: what a new reading of the cabinet temperature, the filter pressure or the battery does to STU: HOT, the
FAN lines and FILTER, with a CLIMATE notice when either changes; the power state, entering DYING by the battery with the effects of R27,
or returning to NORMAL with a POWER and a STATE asked for, whichever of the two SNQ takes first; no other reading moves any of them. -/
def Obligations.SiteReadingsJudged : Prop :=
  ∀ (code : Code) (t : Stamp) (s₀ s : State), s = s₀.moment t → s.running = true → s.smp.scanning = true →
    s.smp.block = .inProgress → s.smp.slot = 8 → s.smp.probes = [] → s.smp.slowCnt[s.smp.slowPtr] = 31 →
    ∃ (u : State) (v : Nat), exec (.sharedSlot code t) s₀ = .next u ∧ v = (s.smp.slowSum[s.smp.slowPtr] + code.toNat) / 32 ∧
      (s.smp.slowPtr.val = 5 →
        u.stu.hot =
          (if s.stu.hot then decide (¬ (v : Int) ≤ (s.settings.hotLimit : Int) - s.settings.hotHysteresis)
          else decide (v ≥ s.settings.hotLimit)) ∧
        (u.stu.hot ≠ s.stu.hot → ∀ n : Fin 12, s.stu.lines[n].fn = .fan →
          u.stu.lines[n].level = (u.stu.hot || s.stu.lines[n].requested)) ∧
        u.snq = (if u.stu.hot = s.stu.hot then s.snq else (s.withNotice .climate).snq) ∧
        u.stu.filter = s.stu.filter ∧ u.stu.dying = s.stu.dying ∧ u.stateTimer = s.stateTimer) ∧
      (s.smp.slowPtr.val = 9 →
        u.stu.filter =
          (if s.stu.filter then decide (¬ (v : Int) < (s.settings.filterLimit : Int) - s.settings.siteMargin)
          else decide (v ≥ s.settings.filterLimit)) ∧
        u.snq = (if u.stu.filter = s.stu.filter then s.snq else (s.withNotice .climate).snq) ∧
        u.stu.hot = s.stu.hot ∧ u.stu.dying = s.stu.dying ∧ u.stateTimer = s.stateTimer) ∧
      (s.smp.slowPtr.val = 6 →
        u.stu.dying =
          (if s.stu.dying then
            decide (¬ ((∀ n : Fin 12, s.stu.lines[n].fn = .powerGood → s.stu.lines[n].level = true) ∧
              (s.settings.dyingLevel = 0 ∨ s.settings.reviveLevel ≤ v)))
          else decide (s.settings.dyingLevel ≠ 0 ∧ v < s.settings.dyingLevel)) ∧
        (u.stu.dying = s.stu.dying → u.snq = s.snq ∧ u.stateTimer = s.stateTimer) ∧
        (s.stu.dying = false → u.stu.dying = true →
          u.stateTimer = .stopped ∧ 1 ≤ u.stu.total ∧ (∀ e ∈ u.snq, e.item ≠ .state) ∧
          (s.isUp .west = true ∨ s.isUp .east = true →
            ∃ e rest, u.snq = e :: rest ∧ e.item = .notice .power ∧ (s.isUp .west = true → e.west = true) ∧
              (s.isUp .east = true → e.east = true)) ∧
          u.snq.filter (fun e => e.item ≠ .notice .power) = s.snq.filter (fun e => e.item ≠ .notice .power ∧ e.item ≠ .state)) ∧
        (s.stu.dying = true → u.stu.dying = false →
          u.stateTimer = .running (1000 * s.settings.statePeriod) ∧
          (s.isUp .west = true ∨ s.isUp .east = true →
            (∃ e ∈ u.snq, e.item = .notice .power) ∧ ∃ e ∈ u.snq, e.item = .state)) ∧
        u.stu.hot = s.stu.hot ∧ u.stu.filter = s.stu.filter) ∧
      (s.smp.slowPtr.val ≠ 5 → s.smp.slowPtr.val ≠ 6 → s.smp.slowPtr.val ≠ 9 →
        u.stu.hot = s.stu.hot ∧ u.stu.filter = s.stu.filter ∧ u.stu.dying = s.stu.dying ∧ u.stateTimer = s.stateTimer)

/-! ### Pilots and the test generator (Chapter 6) -/

/-- R83, R84, R87, R90: at a step boundary each oscillator that is on and took part in the step advances by the step size of its mode as it
stands, and the next step's count is the mid level plus the rounded terms of the pilot and the test tone; nothing else changes. That a
tone takes part in a step when it was active as the step began is read from R85 and R92 (log entry 6). A part with no station number has
no pilot on, and its outputs carry the mid level. -/
def Obligations.PilotStepAdvances : Prop :=
  (∀ (n : Nat) (s : State), s.awake = true → s.station = some n →
    ∃ u, exec .pilotStep s = .next u ∧
      (∀ p : Fin 4,
        u.plg.osc[p] = { s.plg.osc[p] with
          inStep := s.plg.osc[p].on
          phase :=
            if s.plg.osc[p].on = true ∧ s.plg.osc[p].inStep = true then
              (s.plg.osc[p].phase + (64 + 6 * (n - 1)) + (if s.plg.osc[p].mode = .fill then 3 else 0)) % 1024
            else s.plg.osc[p].phase } ∧
        ∃ pilot test : Int,
          (u.plg.count[p] : Int) = 32 + pilot + test ∧ u.plg.count[p] ≤ 64 ∧
          (s.plg.osc[p].on = false → pilot = 0) ∧
          (s.plg.osc[p].on = true → 2 * (16 * sinTable u.plg.osc[p].phase - 2047 * pilot).natAbs ≤ 2047) ∧
          (¬ (s.ttg.held = true ∧ s.ttg.path = some p) → test = 0) ∧
          (s.ttg.held = true ∧ s.ttg.path = some p → 2 * (16 * sinTable u.ttg.phase - 2047 * test).natAbs ≤ 2047)) ∧
      u.ttg = { s.ttg with
        inStep := s.ttg.held
        phase :=
          if s.ttg.held = true ∧ s.ttg.inStep = true then (s.ttg.phase + s.ttg.bin.getD 0) % 1024 else s.ttg.phase } ∧
      { u with plg := s.plg, ttg := s.ttg } = s) ∧
  ∀ s : State, s.awake = true → s.station = none → (∀ p : Fin 4, s.plg.osc[p].on = false) → s.ttg.held = false →
    exec .pilotStep s = .next { s with
      plg := { osc := each (fun o => { o with inStep := false }) s.plg.osc, count := .replicate 4 32 }
      ttg := { s.ttg with inStep := false } }

/-- R1: MILLISECOND_TICK comes 1000 µs after the tick before (that it brings the clock there is the model's choice, log entry 1) and brings
every running timer down by one; a timer that it brings to zero is due, and its own command is its expiry, which is read from R1 (log
entry 2). Nothing changes but the clock, the timers, and the recovery pulses that the time brings (R37; log entry 11). R70, R94: a watch
or a claim given n seconds stands at n less a second for each 1000 ticks, and is due at tick n × 1000, in whatever parts the ticks come.
R1: whatever command moves the clock, no tick is passed without being taken: at a stamp t ahead of the hut clock the ticks of the
microseconds before t have paced every timer. R129: an event whose stamp was captured before it is taken is taken at the hut clock as it
stands. That the nearer way round the 2^32 values tells the two apart is the model's choice (log entry 1). -/
def Obligations.MillisecondTickPacesTimers : Prop :=
  (∀ s : State, s.awake = true → s.clk.sinceTick ≤ 1000 →
      ∃ u, exec .millisecondTick s = .next u ∧
        u.clk = { hut := s.clk.hut + BitVec.ofNat 32 (1000 - s.clk.sinceTick), sinceTick := 0 } ∧
        (∀ ms, s.stateTimer = .running ms → u.stateTimer = if ms ≤ 1 then .due else .running (ms - 1)) ∧
        (∀ ms, s.cfl.loadTimer = .running ms → u.cfl.loadTimer = if ms ≤ 1 then .due else .running (ms - 1)) ∧
        (∀ side ms, (s.nb side).staleTimer = .running ms →
          (u.nb side).staleTimer = if ms ≤ 1 then .due else .running (ms - 1)) ∧
        (∀ (p : Fin 4) (ms : Nat),
          (s.vde[p].window = .running ms → u.vde[p].window = if ms ≤ 1 then .due else .running (ms - 1)) ∧
          (s.vde[p].holdOff = .running ms → u.vde[p].holdOff = if ms ≤ 1 then .due else .running (ms - 1))) ∧
        (∀ (n : Fin 12) (ms : Nat),
          (s.stu.lines[n].edgeTimer = .running ms → u.stu.lines[n].edgeTimer = if ms ≤ 1 then .due else .running (ms - 1)) ∧
          (s.stu.lines[n].stallTimer = .running ms → u.stu.lines[n].stallTimer = if ms ≤ 1 then .due else .running (ms - 1))) ∧
        (∀ (i : Fin 16), u.tcr[i] = { s.tcr[i] with remaining := s.tcr[i].remaining.map (WatchTime.ticks 1) }) ∧
        u.ttg = { s.ttg with time := s.ttg.time.ticks 1 } ∧
        (∀ side, u.nb side = { s.nb side with staleTimer := (u.nb side).staleTimer }) ∧ u.nbv.deliveries = s.nbv.deliveries ∧
        (∀ p : Fin 4, u.vde[p] = { s.vde[p] with window := u.vde[p].window, holdOff := u.vde[p].holdOff }) ∧
        (∀ n : Fin 12, u.stu.lines[n] = { s.stu.lines[n] with
          edgeTimer := u.stu.lines[n].edgeTimer, stallTimer := u.stu.lines[n].stallTimer }) ∧
        u.stu = { s.stu with lines := u.stu.lines } ∧
        (s.cfl.i2c.phase ≠ .recovering → u.cfl.i2c = s.cfl.i2c) ∧
        (s.cfl.i2c.phase = .recovering →
          10 * u.cfl.i2c.pulses + u.cfl.i2c.sincePulse =
            10 * s.cfl.i2c.pulses + s.cfl.i2c.sincePulse + (1000 - s.clk.sinceTick) ∧ u.cfl.i2c.sincePulse < 10 ∧
          u.cfl.i2c = { s.cfl.i2c with pulses := u.cfl.i2c.pulses, sincePulse := u.cfl.i2c.sincePulse }) ∧
        u.cfl = { s.cfl with loadTimer := u.cfl.loadTimer, i2c := u.cfl.i2c } ∧
        { u with clk := s.clk, tcr := s.tcr, ttg := s.ttg, vde := s.vde, nbv := s.nbv, stu := s.stu, stateTimer := s.stateTimer,
                 cfl := s.cfl } = s) ∧
  (∀ n : Nat, 1 ≤ n →
    (∀ k, k < 1000 * n → WatchTime.ticks k (.ofSecs n) = { secs := n - k / 1000, tick := k % 1000, due := false }) ∧
    (∀ k, 1000 * n ≤ k → (WatchTime.ticks k (.ofSecs n)).due = true) ∧
    ∀ j k, (WatchTime.ticks j (WatchTime.ticks k (.ofSecs n))) = WatchTime.ticks (k + j) (.ofSecs n)) ∧
  (∀ (t : Stamp) (s : State), 2 ^ 31 ≤ (t - s.clk.hut).toNat → s.moment t = s) ∧
  ∀ (t : Stamp) (s : State), s.awake = true → s.clk.sinceTick ≤ 1000 → (t - s.clk.hut).toNat < 2 ^ 31 →
    ∃ n : Nat, (s.moment t).clk.hut = t ∧ (s.moment t).clk.sinceTick ≤ 1000 ∧
      s.clk.sinceTick + (t - s.clk.hut).toNat = 1000 * n + (s.moment t).clk.sinceTick ∧ (1 ≤ n → 1 ≤ (s.moment t).clk.sinceTick) ∧
      (∀ ms, s.stateTimer = .running ms → 1 ≤ ms → (s.moment t).stateTimer = if ms ≤ n then .due else .running (ms - n)) ∧
      (s.moment t).ttg = { s.ttg with time := s.ttg.time.ticks n } ∧
      (s.moment t).snq = s.snq ∧ (s.moment t).smp = s.smp ∧ (s.moment t).pmn = s.pmn ∧ (s.moment t).rqh = s.rqh

/-! ### Neighbour view (Chapter 8) -/

/-- R112, R113: an adjacent frame whose origin is not the configured station sets its record's mismatch and is not used. A relayed frame of
another station, a frame on an inactive record, a body that Chapter 12 does not allow (R112: of a length not its kind's or its subject's,
of no subject, or with a code that names no value in a field NBV uses), and a notice of another subject than a path or the power change no
record. Nothing else changes, but that the frame was taken (log entry 4) and, after a frame of the configured station, the settling of the
owned alarms (R154). -/
def Obligations.UnusedFrameSetsAtMostMismatch : Prop :=
  ∀ (d : Delivery) (t : Stamp) (s₀ s : State), s = s₀.moment t → s.running = true →
    (d.hopsDone = 0 → d.origin.toNat ≠ (s.nb d.side).station →
      exec (.neighbourFrame d t) s₀ = .next
        (({ s with nbv := { s.nbv with deliveries := s.nbv.deliveries.erase d } }).setNb d.side
          { s.nb d.side with mismatch := true })) ∧
    ((d.kind = .state ∨ d.kind = .notice) →
      (d.hopsDone ≠ 0 ∧ d.origin.toNat ≠ (s.nb d.side).station ∨
        d.origin.toNat = (s.nb d.side).station ∧
          ((s.nb d.side).station = 0 ∨ d.kind = .state ∧ readStateBody d.body = none ∨
            d.kind = .notice ∧ (readNoticeBody d.body = none ∨ readNoticeBody d.body = some .other))) →
      ∃ u, exec (.neighbourFrame d t) s₀ = .next u ∧ sameButAlarms u.stu s.stu ∧
        { u with stu := s.stu } = { s with nbv := { s.nbv with deliveries := s.nbv.deliveries.erase d } }) ∧
    (readStateBody d.body = none ↔
      d.body.length ≠ 23 ∨ ∃ p : Fin 4, 3 ≤ (d.body.getD (2 + 2 * p.val) 0).toNat / 64 ∨
        5 ≤ (d.body.getD (2 + 2 * p.val) 0).toNat / 8 % 8 ∨ 11 ≤ (d.body.getD (3 + 2 * p.val) 0).toNat / 16) ∧
    (readNoticeBody d.body = none ↔
      d.body = [] ∨ 9 ≤ (d.body.getD 0 0).toNat ∨
      (d.body.getD 0 0).toNat ≤ 3 ∧
        (d.body.length ≠ 15 ∨ 11 ≤ (d.body.getD 1 0).toNat ∨ 5 ≤ (d.body.getD 4 0).toNat) ∨
      (d.body.getD 0 0).toNat = 4 ∧ (d.body.length ≠ 4 ∨ 2 ≤ (d.body.getD 1 0).toNat) ∨
      (d.body.getD 0 0).toNat = 5 ∧ d.body.length ≠ 6 ∨
      6 ≤ (d.body.getD 0 0).toNat ∧ (d.body.getD 0 0).toNat ≤ 8 ∧ d.body.length ≠ 5) ∧
    (readNoticeBody d.body = some .other → 5 ≤ (d.body.getD 0 0).toNat)

/-- R114, R120: a STATE of the configured station with a usable body replaces the four summaries with the fields of its bytes (12.2), sets
heard and last heard, clears stale and dying, restarts the stale timer, and hands VDE a report for each path it feeds. R131, R134: where it
reports the output of the feeding path low, a WATCH or an UNRESOLVED becomes UPSTREAM_TX, TX_LOW, late if it was UNRESOLVED, and R140
notifies its PATH subject. R127, R131, R134, R135: every other verdict stands. Nothing else changes, but that the frame was taken (log
entry 4) and the settling of the owned alarms (R154). -/
def Obligations.StateFrameUpdatesRecord : Prop :=
  ∀ (d : Delivery) (t : Stamp) (m : Vector Summary 4) (decided : Fin 4 → Prop) (s₀ s : State), s = s₀.moment t →
    s.running = true → d.kind = .state →
    (s.nb d.side).station ≠ 0 → d.origin.toNat = (s.nb d.side).station → readStateBody d.body = some m →
    (∀ p, decided p ↔ s.kind p = .span ∧ upstreamSide p = d.side ∧
      (s.vde[p].verdict = .watch ∨ s.vde[p].verdict = .unresolved) ∧ m[s.settings.paths[p].upstream].outputLow = some true) →
    (∀ i : Fin 4, ∃ (kind : PathKind) (input : InputState) (verdict : Verdict),
      m[i] =
        { kind := some kind, input := some input, outputLow := some ((d.body.getD (2 + 2 * i.val) 0).getLsbD 1)
          pilot := some (if (d.body.getD (2 + 2 * i.val) 0).getLsbD 2 then .fill else .normal), verdict := some verdict } ∧
      kind.code = (d.body.getD (2 + 2 * i.val) 0).toNat / 64 ∧ input.code = (d.body.getD (2 + 2 * i.val) 0).toNat / 8 % 8 ∧
      verdict.code = (d.body.getD (3 + 2 * i.val) 0).toNat / 16) ∧
    ∃ u, exec (.neighbourFrame d t) s₀ = .next u ∧
      u.nb d.side = { s.nb d.side with
        heard := true
        lastHeard := some s.clk.hut
        stale := false
        staleTimer := .running (1000 * s.settings.staleTime)
        dying := false
        summaries := m } ∧
      u.nb (otherSide d.side) = s.nb (otherSide d.side) ∧
      (∀ p : Fin 4,
        (decided p →
          u.vde[p] = { s.vde[p] with
            verdict := .upstreamTx
            evidence := .txLow
            late := decide (s.vde[p].verdict = .unresolved)
            window := if s.vde[p].verdict = .watch then .stopped else s.vde[p].window }) ∧
        (¬ decided p → u.vde[p] = s.vde[p])) ∧
      ((∀ p, ¬ decided p) → u.snq = s.snq) ∧
      (∀ keep : Entry → Bool, (∀ e, keep e = false ↔ ∃ p, decided p ∧ e.item = .notice (.path p)) →
        u.snq.filter keep = s.snq.filter keep) ∧
      (∀ p, decided p → s.isUp .west = true ∨ s.isUp .east = true →
        ∃ e ∈ u.snq, e.item = .notice (.path p) ∧ (s.isUp .west = true → e.west = true) ∧ (s.isUp .east = true → e.east = true)) ∧
      u.nbv.deliveries = s.nbv.deliveries.erase d ∧ sameButAlarms u.stu s.stu ∧
      { u with nbv := s.nbv, vde := s.vde, snq := s.snq, stu := s.stu } = s

/-- R124, R158, R160, R170, 12.2, 12.3: every byte of the STATE body and of the nine NOTICE bodies that the part composes, from the fields
of the records it reports; the STATE body reads back at a neighbour as each path's kind, input state, output-low, pilot mode and verdict, a
PATH notice as its report, a POWER notice as its form, and any other as no report. The codes of the fields are those of R170's table, words
go most significant byte first, and the owner follows from the verdict. -/
def Obligations.StateAndNoticeBodiesCarryTheRecords : Prop :=
  (∀ s : State, ∃ (b : List Byte) (m : Vector Summary 4), b = s.stateBody ∧ b.length = 23 ∧ readStateBody b = some m ∧
    (∀ o, s.cfl.outcome = some o → b.getD 0 0 = (if o = .loaded then 0 else 1)) ∧
    (∀ r, s.cfl.reason = some r →
      b.getD 1 0 = (match r with | .none => 0 | .noMemory => 1 | .badCheck => 2 | .badField => 3)) ∧
    (∀ p : Fin 4,
      m[p] =
        { kind := some (s.kind p), input := some s.pmn[p].input, outputLow := some s.pmn[p].outputLow,
          pilot := some s.plg.osc[p].mode, verdict := some s.vde[p].verdict } ∧
      (b.getD (2 + 2 * p.val) 0).toNat / 64 = (s.kind p).code ∧ (b.getD (2 + 2 * p.val) 0).toNat / 8 % 8 = s.pmn[p].input.code ∧
      (List.range 3).map (b.getD (2 + 2 * p.val) 0).getLsbD =
        [s.pmn[p].biasHigh, s.pmn[p].outputLow, decide (s.plg.osc[p].mode = .fill)] ∧
      (b.getD (3 + 2 * p.val) 0).toNat = 16 * s.vde[p].verdict.code + s.vde[p].verdict.owner.code) ∧
    (List.range 8).map (b.getD 10 0).getLsbD = [s.stu.dying, s.stu.hot, s.stu.filter, false, false, false, false, false] ∧
    (∀ n : Fin 12,
      (b.getD 11 0 ++ b.getD 12 0).getLsbD n.val = s.stu.lines[n].fanStall ∧
      (b.getD 13 0 ++ b.getD 14 0).getLsbD n.val = s.stu.lines[n].level) ∧
    (b.getD 11 0).toNat < 16 ∧ (b.getD 13 0).toNat < 16 ∧
    (List.range 8).map (b.getD 15 0).getLsbD =
      [s.nbv.west.heard, s.nbv.west.stale, s.nbv.west.cutOff, s.nbv.west.mismatch,
       s.nbv.east.heard, s.nbv.east.stale, s.nbv.east.cutOff, s.nbv.east.mismatch] ∧
    (b.getD 16 0).toNat = s.west.link.code + 4 * s.east.link.code ∧
    b.drop 17 = [s.stu.total, (List.finRange 16).countP (fun i => decide (8 ≤ i.val ∧ s.tcr[i].state ≠ .free)),
      s.rly.relayDrops, s.rly.malformed, s.rly.ownOrigin, s.rqh.dropped].map (BitVec.ofNat 8)) ∧
  (∀ (s : State) (p : Fin 4) (prompted : Bool), ∃ b, b = s.noticeBody (.path p) prompted ∧ b.length = 15 ∧
    readNoticeBody b = some (.path
      { path := p, verdict := s.vde[p].verdict, input := s.pmn[p].input, outputLow := s.pmn[p].outputLow,
        pilot := s.plg.osc[p].mode, prompted := prompted, fedBy := s.settings.paths[p].upstream.val }) ∧
    b.take 3 = [p.val, s.vde[p].verdict.code, s.vde[p].evidence.code].map (BitVec.ofNat 8) ∧
    (List.range 8).map (b.getD 3 0).getLsbD = [s.vde[p].late, prompted, s.pmn[p].outputLow, s.pmn[p].biasHigh,
      decide (s.plg.osc[p].mode = .fill), s.pmn[p].lossStamp.isSome, false, false] ∧
    b.drop 4 = [s.pmn[p].input.code, s.settings.paths[p].upstream.val].map (BitVec.ofNat 8) ++
      be16 (s.pmn[p].inMean.getD 65535) ++ be16 (s.pmn[p].outMean.getD 65535) ++ be32 (s.pmn[p].lossStamp.getD 0).toNat ++
      [BitVec.ofNat 8 s.vde[p].flaps]) ∧
  (∀ (s : State) (prompted : Bool),
    s.noticeBody .power prompted = [4, if s.stu.dying then 1 else 0] ++ be16 (s.smp.readings[(6 : Fin 10)].getD 65535) ∧
    readNoticeBody (s.noticeBody .power prompted) = some (.power s.stu.dying) ∧
    (∃ b1 b2 b3, s.noticeBody .climate prompted = [5, b1, b2, b3] ++ be16 (s.smp.readings[(5 : Fin 10)].getD 65535) ∧
      (List.range 8).map b1.getLsbD = [s.stu.hot, s.stu.filter, false, false, false, false, false, false] ∧
      (∀ n : Fin 12, (b2 ++ b3).getLsbD n.val = s.stu.lines[n].fanStall) ∧ b2.toNat < 16) ∧
    (∃ b1 b2 b3 b4, s.noticeBody .lines prompted = [6, b1, b2, b3, b4] ∧
      (∀ n : Fin 12, (b1 ++ b2).getLsbD n.val = s.stu.lines[n].level ∧ (b3 ++ b4).getLsbD n.val = s.stu.lines[n].flag) ∧
      b1.toNat < 16 ∧ b3.toNat < 16) ∧
    (∃ b1 b2 b3 b4, s.noticeBody .tone prompted = [7, b1, b2, b3, b4] ∧
      (∀ i : Fin 16, 8 ≤ i.val →
        b1.getLsbD (i.val - 8) = decide (s.tcr[i].state ≠ .free) ∧ b2.getLsbD (i.val - 8) = s.tcr[i].present ∧
        b3.getLsbD (i.val - 8) = s.tcr[i].limit) ∧
      ∀ (k : Fin 4) (i : Fin 16), i.val = 8 + 2 * k.val →
        b4.getLsbD k.val = (decide (s.tcr[i].state ≠ .free) && s.tcr[i].partner.isSome) ∧
        b4.getLsbD (4 + k.val) = (decide (s.tcr[i].state ≠ .free) && s.tcr[i].partner.isSome && s.tcr[i].combined)) ∧
    s.noticeBody .test prompted = [8, if s.ttg.held then 1 else 0, s.ttg.holder.getD 0xFF] ++ be16 s.ttg.time.secs ∧
    ∀ x : Subject, x = .climate ∨ x = .lines ∨ x = .tone ∨ x = .test → readNoticeBody (s.noticeBody x prompted) = some .other) ∧
  (∀ n : Nat, n < 2 ^ 16 → ∃ hi lo : Byte, be16 n = [hi, lo] ∧ 256 * hi.toNat + lo.toNat = n) ∧
  (∀ x : BitVec 32, ∃ b3 b2 b1 b0 : Byte, be32 x.toNat = [b3, b2, b1, b0] ∧ b3 ++ b2 ++ b1 ++ b0 = x) ∧
  (∀ v : Verdict, v.owner =
    (if v = .spanFault ∨ v = .foreignLight ∨ v = .unresolved then .own
    else if v = .upstreamTx ∨ v = .upstreamPower ∨ v = .sympathetic then .upstream
    else .nobody)) ∧
  [PathKind.span, .localPath, .unused].map (·.code) = [0, 1, 2] ∧
  [InputState.unknown, .ok, .low, .high, .loss].map (·.code) = [0, 1, 2, 3, 4] ∧
  [Verdict.pending, .clear, .sympathetic, .foreignLight, .watch, .spanFault, .upstreamTx, .upstreamPower, .unresolved, .restoring,
    .notApplicable].map (·.code) = [0, 1, 2, 3, 4, 5, 6, 7, 8, 9, 10] ∧
  [Owner.nobody, .own, .upstream].map (·.code) = [0, 1, 2] ∧
  [Evidence.none, .lineCut, .promptedClear, .txLow, .dying, .timeout].map (·.code) = [0, 1, 2, 3, 4, 5] ∧
  [LinkState.down, .settling, .up].map (·.code) = [0, 1, 2]

/-- R115, R119, R120, R131, R134: a PATHi notice of the configured station, whose fields stand at the places of 12.3, replaces summary i but
for its kind, and refreshes the record; it decides a WATCH or an UNRESOLVED that it feeds by its output-low, or, prompted, by its clear output; and a WATCH notice prompts the fed
path's notice. -/
def Obligations.PathNoticeUpdatesSummary : Prop :=
  ∀ (d : Delivery) (t : Stamp) (r : PathReport) (s₀ s : State), s = s₀.moment t →
    s.running = true → d.kind = .notice →
    (s.nb d.side).station ≠ 0 → d.origin.toNat = (s.nb d.side).station → readNoticeBody d.body = some (.path r) →
    (r.path.val = (d.body.getD 0 0).toNat ∧ r.verdict.code = (d.body.getD 1 0).toNat ∧ r.prompted = (d.body.getD 3 0).getLsbD 1 ∧
      r.outputLow = (d.body.getD 3 0).getLsbD 2 ∧ r.pilot = (if (d.body.getD 3 0).getLsbD 4 then .fill else .normal) ∧
      r.input.code = (d.body.getD 4 0).toNat ∧ r.fedBy = (d.body.getD 5 0).toNat) ∧
    ∃ u, exec (.neighbourFrame d t) s₀ = .next u ∧
      (∃ sums : Vector Summary 4,
        u.nb d.side = { s.nb d.side with
          lastHeard := some s.clk.hut
          stale := false
          staleTimer := .running (1000 * s.settings.staleTime)
          summaries := sums } ∧
        sums[r.path] =
          { kind := (s.nb d.side).summaries[r.path].kind, input := some r.input, outputLow := some r.outputLow,
            pilot := some r.pilot, verdict := some r.verdict } ∧
        ∀ i : Fin 4, i ≠ r.path → sums[i] = (s.nb d.side).summaries[i]) ∧
      u.nb (otherSide d.side) = s.nb (otherSide d.side) ∧
      (∀ p : Fin 4,
        (s.kind p = .span ∧ upstreamSide p = d.side ∧ s.settings.paths[p].upstream = r.path →
          (s.vde[p].verdict = .watch ∨ s.vde[p].verdict = .unresolved) → (r.outputLow = true ∨ r.prompted = true) →
          u.vde[p].verdict = (if r.outputLow then .upstreamTx else .spanFault) ∧
          u.vde[p].evidence = (if r.outputLow then .txLow else .promptedClear) ∧
          u.vde[p].late = decide (s.vde[p].verdict = .unresolved) ∧
          u.vde[p].watchStart = s.vde[p].watchStart ∧ u.vde[p].lossStamp = s.vde[p].lossStamp) ∧
        (¬ (s.kind p = .span ∧ upstreamSide p = d.side ∧ s.settings.paths[p].upstream = r.path) ∨
          (s.vde[p].verdict ≠ .watch ∧ s.vde[p].verdict ≠ .unresolved) ∨ (r.outputLow = false ∧ r.prompted = false) →
          u.vde[p] = s.vde[p])) ∧
      (∀ q : Fin 4, r.fedBy = q.val → r.verdict = .watch → downstreamSide q = d.side → s.kind q ≠ .unused →
        (s.isUp .west = true ∨ s.isUp .east = true) →
        ∃ e ∈ u.snq, e.item = .notice (.path q) ∧ e.prompted = true ∧
          (s.isUp .west = true → e.west = true) ∧ (s.isUp .east = true → e.east = true)) ∧
      ((r.verdict ≠ .watch ∨ 4 ≤ r.fedBy ∨ (∀ q : Fin 4, r.fedBy = q.val → downstreamSide q ≠ d.side ∨ s.kind q = .unused)) →
        (∀ p : Fin 4, s.vde[p].verdict ≠ .watch ∧ s.vde[p].verdict ≠ .unresolved) → u.snq = s.snq)

/-- R116, R121, R131: a POWER notice of the configured station sets or clears the record's dying by its form; when dying becomes set,
every SPAN path on that side in WATCH or UNRESOLVED becomes UPSTREAM_POWER, DYING. -/
def Obligations.PowerNoticeSetsDying : Prop :=
  ∀ (d : Delivery) (t : Stamp) (form : Bool) (s₀ s : State), s = s₀.moment t →
    s.running = true → d.kind = .notice →
    (s.nb d.side).station ≠ 0 → d.origin.toNat = (s.nb d.side).station → d.body.length = 4 → d.body.getD 0 0 = 4 →
    d.body.getD 1 0 = (if form then 1 else 0) →
    ∃ u, exec (.neighbourFrame d t) s₀ = .next u ∧
      u.nb d.side = { s.nb d.side with lastHeard := some s.clk.hut, dying := form } ∧
      u.nb (otherSide d.side) = s.nb (otherSide d.side) ∧
      (∀ p : Fin 4,
        u.vde[p] =
          (if form = true ∧ (s.nb d.side).dying = false ∧ s.kind p = .span ∧ upstreamSide p = d.side ∧
              (s.vde[p].verdict = .watch ∨ s.vde[p].verdict = .unresolved) then
            { s.vde[p] with
              verdict := .upstreamPower
              evidence := .dying
              late := decide (s.vde[p].verdict = .unresolved)
              window := if s.vde[p].verdict = .watch then .stopped else s.vde[p].window }
          else s.vde[p])) ∧
      u.west = s.west ∧ u.east = s.east ∧ u.tcr = s.tcr ∧ u.pmn = s.pmn ∧ u.plg = s.plg ∧ u.rqh = s.rqh

/-! ### Span verdicts (Chapter 9) -/

/-- R132: when the window of a path in WATCH runs out the verdict becomes UNRESOLVED with evidence TIMEOUT and late false, PATHp is
notified, the window stops, and watch-start and the loss stamp keep their values. R136: when the hold-off of a path in RESTORING runs out
it stops and a light evaluation is made; if it decides, cause, evidence and late return to absent, NONE and false and PATHp is notified;
if not, the path stays in RESTORING with its cause. -/
def Obligations.VerdictTimersRunOut : Prop :=
  (∀ (p : Fin 4) (s : State), s.running = true → s.vde[p].verdict = .watch → s.vde[p].window = .due →
      ∃ u, exec (.windowExpiry p) s = .next u ∧
        u.vde[p] = { s.vde[p] with verdict := .unresolved, evidence := .timeout, late := false, window := .stopped } ∧
        (∀ q : Fin 4, q ≠ p → u.vde[q] = s.vde[q]) ∧ u.snq = (s.withNotice (.path p)).snq ∧
        u.vde[p].watchStart = s.vde[p].watchStart ∧ u.vde[p].lossStamp = s.vde[p].lossStamp ∧
        sameButAlarms u.stu s.stu ∧ { u with vde := s.vde, snq := s.snq, stu := s.stu } = s) ∧
  ∀ (p : Fin 4) (s : State), s.running = true → s.vde[p].verdict = .restoring → s.vde[p].holdOff = .due →
    ∃ (u : State) (v : Verdict), exec (.holdOffExpiry p) s = .next u ∧
      v = (if s.tcr[fillLane p].present then .sympathetic else if s.tcr[normalLane p].present then .clear
        else if s.vde[p].toneAbsent ≥ s.settings.foreignConfirm then .foreignLight else .restoring) ∧
      u.vde[p] =
        (if v = .restoring then { s.vde[p] with holdOff := .stopped }
        else { s.vde[p] with verdict := v, evidence := .none, late := false, cause := none, holdOff := .stopped }) ∧
      (∀ q : Fin 4, q ≠ p → u.vde[q] = s.vde[q]) ∧
      u.snq = (if v = .restoring then s.snq else (s.withNotice (.path p)).snq) ∧
      sameButAlarms u.stu s.stu ∧ { u with vde := s.vde, snq := s.snq, stu := s.stu } = s

/-! ### Pool watches and the test claim (Chapters 5 and 6) -/

/-- R63, R70, R81, R94, R96: a watch that is due frees its lane, or both lanes of its pair, and a TONE notice is asked for; a claim that
is due frees the test record, and a TEST notice is asked for; nothing else changes. -/
def Obligations.WatchAndClaimExpire : Prop :=
  (∀ (i : Fin 16) (w : WatchTime) (s : State), s.running = true → 8 ≤ i.val → s.tcr[i].remaining = some w → w.due = true →
    ∃ lanes : Vector Lane 16, exec (.watchExpiry i) s = .next { s.withNotice .tone with tcr := lanes } ∧
      ∀ j : Fin 16,
        (j = i ∨ s.tcr[i].partner = some j →
          lanes[j].state = .free ∧ lanes[j].owner = .absent ∧ lanes[j].bin = none ∧ lanes[j].partner = none ∧
          lanes[j].combine = none ∧ lanes[j].remaining = none ∧ lanes[j].present = false ∧ lanes[j].lastPower = none ∧
          lanes[j].limit = false ∧ lanes[j].x = 0 ∧ lanes[j].y = 0 ∧ lanes[j].phase = 0) ∧
        (¬ (j = i ∨ s.tcr[i].partner = some j) → lanes[j] = s.tcr[j])) ∧
  ∀ s : State, s.running = true → s.ttg.held = true → s.ttg.time.due = true →
    exec .testExpiry s = .next { s.withNotice .test with
      ttg :=
        { held := false, holder := none, path := none, bin := none, time := { secs := 0, tick := 0, due := false }, phase := 0,
          inStep := false } }

/-! ### Hut lines (Chapter 10) -/

/-- R143, R144: a change of level on an IN line's pin is its level, meets its trigger or not, and asks for a LINES notice when its flag
becomes set and its report is on; nothing else changes but the pin. On the pin of a line that the part drives, and outside RUNNING, a
change is no event: the pin moves, and nothing else. The pin's level stands in the state as the world's (log entry 17), and a change on a
line that is no input has no effect beyond it (log entry 3): both are the model's readings. The owned alarms stand settled before
(`State.siteSound`, R154) and need no settling after. -/
def Obligations.InputLineTakesLevel : Prop :=
  ∀ (n : Fin 12) (t : Stamp) (s₀ s : State), s = s₀.moment t → s.siteSound →
    (s.running = true → s.stu.lines[n].fn = .inp →
      ∃ met : Bool,
        (met = true ↔ s.stu.lines[n].trigger = .both ∨
          s.stu.lines[n].level = false ∧ (s.stu.lines[n].trigger = .high ∨ s.stu.lines[n].trigger = .rise) ∨
          s.stu.lines[n].level = true ∧ (s.stu.lines[n].trigger = .low ∨ s.stu.lines[n].trigger = .fall)) ∧
        exec (.hutLineChange n (!s.stu.lines[n].level) t) s₀ = .next
          { (if met = true ∧ s.stu.lines[n].flag = false ∧ s.stu.lines[n].report = true then s.withNotice .lines else s) with
            pins := { s.pins with lines := s.pins.lines.set n.val (!s.stu.lines[n].level) n.isLt }
            stu := { s.stu with
              lines := s.stu.lines.set n.val
                { s.stu.lines[n] with level := !s.stu.lines[n].level, flag := s.stu.lines[n].flag || met } n.isLt } }) ∧
    ∀ level : Bool, s.awake = true →
      (s.running = false ∨ s.stu.lines[n].fn = .out ∨ s.stu.lines[n].fn = .fan ∨ s.stu.lines[n].fn = .alarm) →
      exec (.hutLineChange n level t) s₀ = .next { s with pins := { s.pins with lines := s.pins.lines.set n.val level n.isLt } }

/-- R147: a rising edge of a TACHO line measures the period from the last edge, clamped to 65,535 µs, or nothing when there is none, and
restarts the edge timer at 1000 ms; no other line changes but in what follows from the period (R149) and the owned alarms (R154), and
outside STU nothing changes but the pin and, where a FAN_STALL changes, the CLIMATE notice (R151). A falling edge changes the level of the
line and of its pin, and nothing else. Two edges with one stamp are left out: their period of 1 µs is the model's reading (log entry 10).
Stall conditions and owned alarms stand settled before (`State.siteSound`). -/
def Obligations.TachoMeasuresRisingEdges : Prop :=
  ∀ (n : Fin 12) (t : Stamp) (s₀ s : State), s = s₀.moment t → s.siteSound → s.running = true → s.stu.lines[n].fn = .tacho →
    (s.stu.lines[n].level = false → (∀ a, s.stu.lines[n].lastEdge = some a → (t - a).toNat ≠ 0) →
      ∃ u, exec (.hutLineChange n true t) s₀ = .next u ∧
        u.stu.lines[n] = { s.stu.lines[n] with
          level := true
          lastEdge := some t
          edgeTimer := .running 1000
          period := (match s.stu.lines[n].lastEdge with
            | none => s.stu.lines[n].period
            | some a => min 65535 (t - a).toNat) } ∧
        (∀ m : Fin 12, m ≠ n →
          (s.stu.lines[m].fn = .alarm → u.stu.lines[m] = { s.stu.lines[m] with level := decide (0 < u.stu.total) }) ∧
          (s.stu.lines[m].fn = .fan → u.stu.lines[m] = { s.stu.lines[m] with
            stallTimer := u.stu.lines[m].stallTimer, fanStall := u.stu.lines[m].fanStall }) ∧
          (s.stu.lines[m].fn = .fan → s.stu.lines[m].paired = some n → u.stu.lines[n].period ≠ 0 →
            u.stu.lines[m].stallTimer = .stopped ∧ u.stu.lines[m].fanStall = false) ∧
          (s.stu.lines[m].fn ≠ .alarm → s.stu.lines[m].fn ≠ .fan ∨ s.stu.lines[m].paired ≠ some n →
            u.stu.lines[m] = s.stu.lines[m])) ∧
        u.snq = (if ∀ m : Fin 12, u.stu.lines[m].fanStall = s.stu.lines[m].fanStall then s.snq else (s.withNotice .climate).snq) ∧
        u.stu.hot = s.stu.hot ∧ u.stu.filter = s.stu.filter ∧ u.stu.dying = s.stu.dying ∧
        { u with stu := s.stu, snq := s.snq } =
          { s with pins := { s.pins with lines := s.pins.lines.set n.val true n.isLt } }) ∧
    (s.stu.lines[n].level = true →
      exec (.hutLineChange n false t) s₀ = .next { s with
        pins := { s.pins with lines := s.pins.lines.set n.val false n.isLt }
        stu := { s.stu with lines := s.stu.lines.set n.val { s.stu.lines[n] with level := false } n.isLt } })

/-- R27, R152, R153: a POWER_GOOD line that goes LOW while the power state is NORMAL enters DYING: the POWER entry stands at the head, no
STATE waits, the STATE timer stops and the power contribution stands; going HIGH, it returns the power state to NORMAL exactly when every
POWER_GOOD line is then HIGH and the battery allows it. -/
def Obligations.PowerGoodLineMovesPowerState : Prop :=
  ∀ (n : Fin 12) (t : Stamp) (s₀ s : State), s = s₀.moment t → s.running = true → s.stu.lines[n].fn = .powerGood →
    ∃ u, exec (.hutLineChange n (!s.stu.lines[n].level) t) s₀ = .next u ∧ u.stu.lines[n].level = !s.stu.lines[n].level ∧
      (s.stu.lines[n].level = true → s.stu.dying = false →
        u.stu.dying = true ∧ u.stateTimer = .stopped ∧ 1 ≤ u.stu.total ∧ (∀ e ∈ u.snq, e.item ≠ .state) ∧
        (s.isUp .west = true ∨ s.isUp .east = true →
          ∃ e rest, u.snq = e :: rest ∧ e.item = .notice .power ∧ (s.isUp .west = true → e.west = true) ∧
            (s.isUp .east = true → e.east = true))) ∧
      (s.stu.lines[n].level = true → s.stu.dying = true →
        u.stu.dying = true ∧ u.snq = s.snq ∧ u.stateTimer = s.stateTimer) ∧
      (s.stu.lines[n].level = false → s.stu.dying = true →
        (u.stu.dying = false ↔
          (∀ m : Fin 12, m ≠ n → s.stu.lines[m].fn = .powerGood → s.stu.lines[m].level = true) ∧
          (s.settings.dyingLevel = 0 ∨ ∃ v, s.smp.readings[(6 : Fin 10)] = some v ∧ s.settings.reviveLevel ≤ v)) ∧
        (u.stu.dying = false →
          u.stateTimer = .running (1000 * s.settings.statePeriod) ∧
          (s.isUp .west = true ∨ s.isUp .east = true →
            (∃ e ∈ u.snq, e.item = .notice .power) ∧ ∃ e ∈ u.snq, e.item = .state))) ∧
      (s.stu.lines[n].level = false → s.stu.dying = false → u.stu.dying = false ∧ u.snq = s.snq ∧ u.stateTimer = s.stateTimer)

/-- R117: a stale timer that runs out sets stale and stops, keeping everything else of the record. R157: the STATE period timer that runs
out restarts, and a STATE is asked for unless the power state is DYING. R147, R149, R151: an edge timer that runs out judges the tacho
stopped, and starts the stall timer of a FAN that is driven HIGH with it; a stall timer that runs out sets FAN_STALL, stops, and asks for
a CLIMATE notice. -/
def Obligations.TimersRunOut : Prop :=
  (∀ (side : Side) (s : State), s.running = true → (s.nb side).staleTimer = .due →
    exec (.staleExpiry side) s = .next (s.setNb side { s.nb side with stale := true, staleTimer := .stopped })) ∧
  (∀ s : State, s.running = true → s.stateTimer = .due → s.stu.dying = false →
    exec .statePeriodExpiry s = .next { s with
      stateTimer := .running (1000 * s.settings.statePeriod)
      snq := snqAsk .state false (s.isUp .west) (s.isUp .east) s.snq }) ∧
  (∀ (n : Fin 12) (s : State), s.running = true → s.stu.lines[n].fn = .tacho → s.stu.lines[n].edgeTimer = .due →
    ∃ u, exec (.edgeTimerExpiry n) s = .next u ∧
      u.stu.lines[n].period = 0 ∧ u.stu.lines[n].lastEdge = none ∧ u.stu.lines[n].edgeTimer = .stopped ∧
      (∀ m : Fin 12, m ≠ n → u.stu.lines[m] = { s.stu.lines[m] with
        level := if s.stu.lines[m].fn = .alarm then u.stu.lines[m].level else s.stu.lines[m].level
        stallTimer := u.stu.lines[m].stallTimer
        fanStall := u.stu.lines[m].fanStall }) ∧
      u.stu.lines[n].level = s.stu.lines[n].level ∧
      (∀ m : Fin 12, s.stu.lines[m].fn = .fan → s.stu.lines[m].paired = some n → s.stu.lines[m].level = true →
        s.stu.lines[m].fanStall = false → s.stu.lines[m].stallTimer = .stopped → u.stu.lines[m].stallTimer = .running 5000) ∧
      u.stu.hot = s.stu.hot ∧ u.stu.filter = s.stu.filter ∧ u.stu.dying = s.stu.dying ∧ { u with stu := s.stu, snq := s.snq } = s) ∧
  ∀ (n : Fin 12) (s : State), s.running = true → s.stu.lines[n].fn = .fan → s.stu.lines[n].stallTimer = .due →
    ∃ u, exec (.stallTimerExpiry n) s = .next u ∧
      u.stu.lines[n] = { s.stu.lines[n] with stallTimer := .stopped, fanStall := true } ∧ 1 ≤ u.stu.climate ∧ 1 ≤ u.stu.total ∧
      u.snq = (s.withNotice .climate).snq ∧
      (∀ m : Fin 12, m ≠ n → s.stu.lines[m].fn ≠ .alarm → u.stu.lines[m] = s.stu.lines[m]) ∧
      (∀ m : Fin 12, s.stu.lines[m].fn = .alarm → u.stu.lines[m].level = true) ∧
      u.stu.hot = s.stu.hot ∧ u.stu.filter = s.stu.filter ∧ u.stu.dying = s.stu.dying ∧ { u with stu := s.stu, snq := s.snq } = s

/-! ### Reports and requests (Chapters 4, 5, 6, 8, 9, 10 and 11) -/

/-- R161, R162: a request delivered to a part with no station number leaves no trace; with no slot FREE it is counted as dropped; in
LOADING it is answered NOT_READY; in RUNNING a body that names no request is answered UNKNOWN_REQUEST, a bad argument BAD_ARGUMENT, and a
broadcast RESTART NOT_APPLICABLE. Nothing changes but the delivery (log entry 4), the slot and its answer. R24, R163: where neither port
is UP the answer is discarded, and the slot stands FREE again with the record it has after reset, which is the model's choice (log
entry 9). -/
def Obligations.RequestsTurnedAway : Prop :=
  ∀ (c : Instr) (rq : RequestHead) (body : List Byte) (t : Stamp) (s₀ s : State), requestOf c = some (rq, body, t) →
    s = s₀.moment t → s.awake = true → s.cfl.phase ≠ .repeaterOnly →
    (s.station = none → exec c s₀ = .next (s.requestTaken rq body)) ∧
    (s.station.isSome = true → (∀ k : Fin 6, s.rqh.slots[k].state ≠ .free) →
      exec c s₀ = .next { s.requestTaken rq body with
        rqh := { (s.requestTaken rq body).rqh with dropped := min 255 (s.rqh.dropped + 1) } }) ∧
    (∀ k : Fin 6, s.slotFor k →
      (s.cfl.phase = .loading → exec c s₀ = .next (s.answered k rq body (8 :: body.take 1))) ∧
      (s.cfl.phase = .running →
        (c = .unknownRequest rq body t → exec c s₀ = .next (s.answered k rq body (9 :: body.take 1))) ∧
        (s.badArguments c → exec c s₀ = .next (s.answered k rq body (2 :: body.take 1))) ∧
        (c = .restartRequest rq [] t → rq.broadcast = true → exec c s₀ = .next (s.answered k rq body [7, 28])))) ∧
    ∀ k : Fin 6, s.station.isSome = true → s.rqh.slots[k].state = .free → (∀ j : Fin 6, j < k → s.rqh.slots[j].state ≠ .free) →
      s.isUp .west = false → s.isUp .east = false → s.rqh.restartPending ≠ some k →
      (s.cfl.phase = .loading ∨ c = .unknownRequest rq body t ∨ s.badArguments c ∨ c = .restartRequest rq [] t ∧ rq.broadcast = true) →
      exec c s₀ = .next { s.requestTaken rq body with
        rqh := { (s.requestTaken rq body).rqh with slots := s.rqh.slots.set k.val Slot.reset k.isLt } }

/-- R82, R122, R164, 12.4: the four queries answer OK, with the fields of the record they name at their places in the body, and change
nothing but the slot and its answer. That an absent last power, output-low or pilot mode is sent as 0 beside its presence bit is the
model's choice (log entry 21). -/
def Obligations.QueriesAnswerTheRecords : Prop :=
  ∀ (rq : RequestHead) (t : Stamp) (k : Fin 6) (s₀ s : State), s = s₀.moment t → s.canAnswer k →
    (∀ p : Fin 4, ∃ b, exec (.queryPath rq [BitVec.ofNat 8 p.val] t) s₀ = .next (s.answered k rq [16, BitVec.ofNat 8 p.val] b) ∧
      b.length = 39 ∧
      b.take 9 = [0, 16] ++ ([p.val, (s.kind p).code, s.settings.paths[p].upstream.val, s.vde[p].verdict.code,
        s.vde[p].verdict.owner.code, s.vde[p].evidence.code, (s.vde[p].cause.map (·.code)).getD 255].map (BitVec.ofNat 8)) ∧
      (List.range 8).map (b.getD 9 0).getLsbD = [s.vde[p].late, s.pmn[p].outputLow, s.pmn[p].biasHigh, s.plg.osc[p].mode.isFill,
        s.tcr[normalLane p].present, s.tcr[fillLane p].present, false, false] ∧
      (List.range 8).map (b.getD 10 0).getLsbD = [s.vde[p].lossStamp.isSome, s.vde[p].watchStart.isSome, s.pmn[p].lossStamp.isSome,
        false, false, false, false, false] ∧
      b.drop 11 = be32 (s.vde[p].lossStamp.getD 0).toNat ++ be32 (s.vde[p].watchStart.getD 0).toNat ++
        be16 (s.vde[p].window.left.getD 65535) ++ be32 (s.vde[p].holdOff.left.getD 4294967295) ++
        ([s.vde[p].toneAbsent, s.vde[p].flaps, s.pmn[p].input.code, s.pmn[p].lossRun].map (BitVec.ofNat 8)) ++
        be32 (s.pmn[p].lossStamp.getD 0).toNat ++ be16 (s.pmn[p].inMean.getD 65535) ++ be16 (s.pmn[p].outMean.getD 65535) ++
        be16 (s.smp.readings[(⟨p.val, by omega⟩ : Fin 10)].getD 65535)) ∧
    (∀ i : Fin 16, ∃ b, exec (.queryLane rq [BitVec.ofNat 8 i.val] t) s₀ = .next (s.answered k rq [18, BitVec.ofNat 8 i.val] b) ∧
      b.length = 21 ∧
      b.take 12 = [0, 18, BitVec.ofNat 8 i.val, BitVec.ofNat 8 s.tcr[i].state.code, s.tcr[i].owner.code,
        BitVec.ofNat 8 s.tcr[i].channel.val] ++ be16 (s.tcr[i].bin.getD 0) ++ be16 s.tcr[i].on ++ be16 s.tcr[i].off ∧
      (b.getD 12 0).getLsbD 0 = s.tcr[i].present ∧ (b.getD 12 0).getLsbD 1 = s.tcr[i].limit ∧
      (b.getD 12 0).getLsbD 2 = s.tcr[i].lastPower.isSome ∧
      (b.getD 12 0).getLsbD 3 = (decide (i.val % 2 = 0) && s.tcr[i].partner.isSome && s.tcr[i].combined) ∧
      b.drop 13 = be32 (s.tcr[i].lastPower.getD 0) ++
        [BitVec.ofNat 8 ((s.tcr[i].partner.map (·.val)).getD 255), BitVec.ofNat 8 ((s.tcr[i].combine.map (·.code)).getD 255)] ++
        be16 ((s.tcr[i].remaining.map (·.secs)).getD 0)) ∧
    (∃ b, exec (.querySite rq [] t) s₀ = .next (s.answered k rq [17] b) ∧ b.length = 40 ∧ b.take 2 = [0, 17] ∧
      (∀ n : Fin 12,
        (b.getD 2 0 ++ b.getD 3 0).getLsbD n.val = s.stu.lines[n].level ∧
        (b.getD 4 0 ++ b.getD 5 0).getLsbD n.val = s.stu.lines[n].flag ∧
        (b.getD 6 0 ++ b.getD 7 0).getLsbD n.val = s.stu.lines[n].fanStall ∧
        b.getD (8 + n.val) 0 = BitVec.ofNat 8 ((s.stu.lines[n].period + 256) / 257)) ∧
      (b.getD 6 0 ++ b.getD 7 0).getLsbD 12 = s.stu.dying ∧ (b.getD 6 0 ++ b.getD 7 0).getLsbD 13 = s.stu.hot ∧
      (b.getD 6 0 ++ b.getD 7 0).getLsbD 14 = s.stu.filter ∧
      ∀ i : Fin 10, [b.getD (20 + 2 * i.val) 0, b.getD (21 + 2 * i.val) 0] = be16 (s.smp.readings[i].getD 65535)) ∧
    (∀ side : Side, ∃ b, exec (.queryNeighbour rq [if side = .west then 0 else 1] t) s₀ =
        .next (s.answered k rq [29, if side = .west then 0 else 1] b) ∧
      b.length = 32 ∧
      b.take 4 = [0, 29, if side = .west then 0 else 1, BitVec.ofNat 8 (s.nb side).station] ∧
      (List.range 8).map (b.getD 4 0).getLsbD = [(s.nb side).heard, (s.nb side).stale, (s.nb side).cutOff, (s.nb side).mismatch,
        (s.nb side).dying, (s.nb side).lastHeard.isSome, (s.port side).lastUp.isSome, (s.port side).lastDown.isSome] ∧
      (b.drop 5).take 13 = BitVec.ofNat 8 (s.port side).link.code :: (be32 ((s.nb side).lastHeard.getD 0).toNat ++
        be32 ((s.port side).lastUp.getD 0).toNat ++ be32 ((s.port side).lastDown.getD 0).toNat) ∧
      ∀ p : Fin 4,
        b.getD (18 + 3 * p.val) 0 = BitVec.ofNat 8 (((s.nb side).summaries[p].kind.map (·.code)).getD 255) ∧
        b.getD (19 + 3 * p.val) 0 = BitVec.ofNat 8 (((s.nb side).summaries[p].input.map (·.code)).getD 255) ∧
        b.getD (20 + 3 * p.val) 0 = BitVec.ofNat 8 (((s.nb side).summaries[p].verdict.map (·.code)).getD 255) ∧
        (b.getD 30 0).getLsbD p.val = (s.nb side).summaries[p].outputLow.isSome ∧
        (b.getD 30 0).getLsbD (4 + p.val) = (s.nb side).summaries[p].outputLow.getD false ∧
        (b.getD 31 0).getLsbD p.val = (s.nb side).summaries[p].pilot.isSome ∧
        (b.getD 31 0).getLsbD (4 + p.val) = decide ((s.nb side).summaries[p].pilot = some .fill))

/-- R56: a PROBE joins the tail of a probe queue of 0 to 3 probes and its slot stays WAITING; a queue of 4 refuses it, the probes are not
disturbed, and it is answered BUSY. -/
def Obligations.ProbeJoinsQueue : Prop :=
  ∀ (rq : RequestHead) (ch : Fin 18) (t : Stamp) (k : Fin 6) (s₀ s : State), s = s₀.moment t → s.canAnswer k →
    (s.smp.probes.length < 4 →
      exec (.probe rq [BitVec.ofNat 8 ch.val] t) s₀ = .next { s.requestTaken rq [19, BitVec.ofNat 8 ch.val] with
        smp := { s.smp with probes := s.smp.probes ++ [{ channel := ch, slot := k }] }
        rqh := { (s.requestTaken rq [19, BitVec.ofNat 8 ch.val]).rqh with
          slots := s.rqh.slots.set k.val
            { state := .waiting, requester := rq.requester, tag := rq.tag, request := some 19, broadcast := rq.broadcast } k.isLt } }) ∧
    (4 ≤ s.smp.probes.length →
      exec (.probe rq [BitVec.ofNat 8 ch.val] t) s₀ = .next (s.answered k rq [19, BitVec.ofNat 8 ch.val] [3, 19]))

/-- R67 to R69, R81: a TONE_WATCH that passes R66 renews the one watch of its requester that it matches, and asks for no notice; else it
takes the lowest-numbered FREE pool lane, or for a pair the lowest pair position whose two lanes are FREE, tunes it, and asks for a TONE
notice; else it is answered NO_LANE and changes nothing. No other lane changes. That the notice joins SNQ before the answer is the model's
choice (log entry 8). -/
def Obligations.ToneWatchTakesLane : Prop :=
  ∀ (rq : RequestHead) (ch : Fin 8) (bin secs : Nat) (t : Stamp) (k : Fin 6) (s₀ s : State), s = s₀.moment t → s.canAnswer k →
    1 ≤ bin → bin ≤ 511 → 10 ≤ secs → secs ≤ 3600 →
    (∀ (args : List Byte) (single : Fin 16 → Prop), args = BitVec.ofNat 8 ch.val :: (be16 bin ++ be16 secs) →
      (∀ i, single i ↔ 8 ≤ i.val ∧ s.tcr[i].state ≠ .free ∧ s.tcr[i].owner = .station rq.requester ∧ s.tcr[i].channel = ch ∧
        s.tcr[i].bin = some bin ∧ s.tcr[i].partner = none) →
      (∀ i, single i → (∀ j, single j → j = i) →
        exec (.toneWatch rq args t) s₀ = .next
          (State.answered { s with tcr := s.tcr.set i.val { s.tcr[i] with remaining := some { secs := secs, tick := 0, due := false } } i.isLt }
            k rq (20 :: args) [0, 20, BitVec.ofNat 8 i.val])) ∧
      ((∀ i, ¬ single i) →
        (∀ i : Fin 16, 8 ≤ i.val → s.tcr[i].state = .free → (∀ j : Fin 16, 8 ≤ j.val → j < i → s.tcr[j].state ≠ .free) →
          ∃ lanes : Vector Lane 16,
            exec (.toneWatch rq args t) s₀ = .next
              (State.answered (State.withNotice { s with tcr := lanes } .tone) k rq (20 :: args) [0, 20, BitVec.ofNat 8 i.val]) ∧
            lanes[i] =
              { state := .starting, owner := .station rq.requester, channel := ch, bin := some bin, phase := 0, x := 0, y := 0,
                on := s.settings.poolOn, off := s.settings.poolOff, present := false, lastPower := none, limit := false, partner := none,
                combine := none, remaining := some { secs := secs, tick := 0, due := false }, combined := false } ∧
            ∀ j : Fin 16, j ≠ i → lanes[j] = s.tcr[j]) ∧
        ((∀ i : Fin 16, 8 ≤ i.val → s.tcr[i].state ≠ .free) →
          exec (.toneWatch rq args t) s₀ = .next (s.answered k rq (20 :: args) [4, 20])))) ∧
    ∀ (bin2 : Nat) (mode : Combine) (args : List Byte) (pair : Fin 16 → Fin 16 → Prop), 1 ≤ bin2 → bin2 ≤ 511 → bin2 ≠ bin →
      args = BitVec.ofNat 8 ch.val :: (be16 bin ++ be16 bin2 ++ [BitVec.ofNat 8 mode.code] ++ be16 secs) →
      (∀ i j, pair i j ↔ 8 ≤ i.val ∧ i.val % 2 = 0 ∧ j.val = i.val + 1 ∧ s.tcr[i].state ≠ .free ∧
        s.tcr[i].owner = .station rq.requester ∧ s.tcr[i].channel = ch ∧ s.tcr[i].bin = some bin ∧ s.tcr[i].partner = some j ∧
        s.tcr[i].combine = some mode ∧ s.tcr[j].bin = some bin2) →
      (∀ i j, pair i j → (∀ i' j', pair i' j' → i' = i) →
        ∃ lanes : Vector Lane 16,
          exec (.toneWatch rq args t) s₀ = .next
            (State.answered { s with tcr := lanes } k rq (20 :: args) [0, 20, BitVec.ofNat 8 i.val]) ∧
          (∀ l : Fin 16, lanes[l] =
            (if l = i ∨ l = j then { s.tcr[l] with remaining := some { secs := secs, tick := 0, due := false } } else s.tcr[l]))) ∧
      ((∀ i j, ¬ pair i j) →
        (∀ i j : Fin 16, 8 ≤ i.val → i.val % 2 = 0 → j.val = i.val + 1 → s.tcr[i].state = .free → s.tcr[j].state = .free →
          (∀ i' j' : Fin 16, 8 ≤ i'.val → i'.val % 2 = 0 → j'.val = i'.val + 1 → i' < i →
            s.tcr[i'].state ≠ .free ∨ s.tcr[j'].state ≠ .free) →
          ∃ lanes : Vector Lane 16,
            exec (.toneWatch rq args t) s₀ = .next
              (State.answered (State.withNotice { s with tcr := lanes } .tone) k rq (20 :: args) [0, 20, BitVec.ofNat 8 i.val]) ∧
            lanes[i] =
              { state := .starting, owner := .station rq.requester, channel := ch, bin := some bin, phase := 0, x := 0, y := 0,
                on := s.settings.poolOn, off := s.settings.poolOff, present := false, lastPower := none, limit := false,
                partner := some j, combine := some mode, remaining := some { secs := secs, tick := 0, due := false },
                combined := false } ∧
            lanes[j] = { lanes[i] with bin := some bin2, partner := some i } ∧
            ∀ l : Fin 16, l ≠ i → l ≠ j → lanes[l] = s.tcr[l]) ∧
        ((∀ i j : Fin 16, 8 ≤ i.val → i.val % 2 = 0 → j.val = i.val + 1 → s.tcr[i].state ≠ .free ∨ s.tcr[j].state ≠ .free) →
          exec (.toneWatch rq args t) s₀ = .next (s.answered k rq (20 :: args) [4, 20])))

/-- R71, R63: the table of TONE_DROP: BAD_ARGUMENT outside 0 to 15, NOT_OWNER for a lane 0 to 7 and for a pool lane allocated to another,
NOT_HELD for a FREE one; a drop by its requester frees the lane, or both lanes of its pair, and notifies the TONE subject.
That its answer carries the lane named, also a pair's odd lane (log entry 22), and that the notice joins SNQ before the answer (log
entry 8) are the model's choices. -/
def Obligations.ToneDropFreesOwnWatch : Prop :=
  ∀ (rq : RequestHead) (n : Byte) (t : Stamp) (k : Fin 6) (s₀ s : State), s = s₀.moment t → s.canAnswer k →
    (16 ≤ n.toNat → exec (.toneDrop rq [n] t) s₀ = .next (s.answered k rq [21, n] [2, 21])) ∧
    ∀ i : Fin 16, n.toNat = i.val →
      (i.val < 8 → exec (.toneDrop rq [n] t) s₀ = .next (s.answered k rq [21, n] [5, 21])) ∧
      (8 ≤ i.val → s.tcr[i].state = .free → exec (.toneDrop rq [n] t) s₀ = .next (s.answered k rq [21, n] [6, 21])) ∧
      (8 ≤ i.val → s.tcr[i].state ≠ .free → s.tcr[i].owner ≠ .station rq.requester →
        exec (.toneDrop rq [n] t) s₀ = .next (s.answered k rq [21, n] [5, 21])) ∧
      (8 ≤ i.val → s.tcr[i].state ≠ .free → s.tcr[i].owner = .station rq.requester →
        ∃ lanes : Vector Lane 16,
          exec (.toneDrop rq [n] t) s₀ = .next
            (State.answered (State.withNotice { s with tcr := lanes } .tone) k rq [21, n] [0, 21, n]) ∧
          ∀ j : Fin 16,
            (j = i ∨ s.tcr[i].partner = some j →
              lanes[j].state = .free ∧ lanes[j].owner = .absent ∧ lanes[j].bin = none ∧ lanes[j].partner = none ∧
              lanes[j].combine = none ∧ lanes[j].remaining = none ∧ lanes[j].present = false ∧ lanes[j].lastPower = none ∧
              lanes[j].limit = false ∧ lanes[j].x = 0 ∧ lanes[j].y = 0 ∧ lanes[j].phase = 0) ∧
            (¬ (j = i ∨ s.tcr[i].partner = some j) → lanes[j] = s.tcr[j]))

/-- R92, R96: a GEN_CLAIM that passes R91 takes a FREE record and asks for a TEST notice; the holder's claim renews the time, or moves the
tone to another path or bin at phase 0; another station is answered HELD with the holder and its remaining seconds. R93: GEN_RELEASE of a
FREE record is answered NOT_HELD, of another's NOT_OWNER, and the holder's frees every field and asks for a TEST notice. That a notice joins
SNQ before the answer is the model's choice (log entry 8). -/
def Obligations.TestGeneratorIsClaimedAndReleased : Prop :=
  ∀ (rq : RequestHead) (t : Stamp) (k : Fin 6) (s₀ s : State), s = s₀.moment t → s.canAnswer k →
    (∀ (p : Fin 4) (bin secs : Nat) (args : List Byte) (held : Ttg), s.kind p ≠ .unused → 1 ≤ bin → bin ≤ 511 →
      ¬ (64 ≤ bin ∧ bin ≤ 421 ∧ bin % 3 = 1) → 10 ≤ secs → secs ≤ 3600 →
      args = BitVec.ofNat 8 p.val :: (be16 bin ++ be16 secs) →
      held = { held := true, holder := some rq.requester, path := some p, bin := some bin,
               time := { secs := secs, tick := 0, due := false }, phase := 0, inStep := false } →
      (s.ttg.held = false →
        exec (.genClaim rq args t) s₀ = .next
          (State.answered (State.withNotice { s with ttg := held } .test) k rq (22 :: args) (0 :: 22 :: args))) ∧
      (s.ttg.held = true → s.ttg.holder = some rq.requester → s.ttg.path = some p → s.ttg.bin = some bin →
        exec (.genClaim rq args t) s₀ = .next
          (State.answered { s with ttg := { s.ttg with time := held.time } } k rq (22 :: args) (0 :: 22 :: args))) ∧
      (s.ttg.held = true → s.ttg.holder = some rq.requester → (s.ttg.path ≠ some p ∨ s.ttg.bin ≠ some bin) →
        exec (.genClaim rq args t) s₀ = .next (State.answered { s with ttg := held } k rq (22 :: args) (0 :: 22 :: args))) ∧
      (∀ h, s.ttg.held = true → s.ttg.holder = some h → h ≠ rq.requester →
        exec (.genClaim rq args t) s₀ = .next (s.answered k rq (22 :: args) ([1, 22, h] ++ be16 s.ttg.time.secs)))) ∧
    (s.ttg.held = false → exec (.genRelease rq [] t) s₀ = .next (s.answered k rq [23] [6, 23])) ∧
    (s.ttg.held = true → s.ttg.holder ≠ some rq.requester → exec (.genRelease rq [] t) s₀ = .next (s.answered k rq [23] [5, 23])) ∧
    (s.ttg.held = true → s.ttg.holder = some rq.requester →
      exec (.genRelease rq [] t) s₀ = .next
        (State.answered
          (State.withNotice
            { s with ttg :=
                { held := false, holder := none, path := none, bin := none, time := { secs := 0, tick := 0, due := false }, phase := 0,
                  inStep := false } }
            .test)
          k rq [23] [0, 23]))

/-- R146: LINES_SET and LINES_CLEAR set the requested level of each OUT and FAN line named, and drive it, a FAN line staying HIGH while HOT
is set; the answer carries the levels before and names the lines whose driven level the request changed. R145: LINES_ACK clears the flag of
each IN line named, but for a HIGH or LOW trigger that its level still meets, and answers the flags before. R149: a FAN line
turned on whose tacho stands still starts its stall timer, and one turned off stops it and clears its FAN_STALL. Nothing else changes but
the slot, its answer and, where a FAN_STALL changes, the CLIMATE notice of R151; that the notice joins SNQ before the answer is the model's
choice (log entry 8). -/
def Obligations.LineRequestsAnswerWhatTheyFound : Prop :=
  ∀ (rq : RequestHead) (mask : Nat) (t : Stamp) (k : Fin 6) (s₀ s : State), s = s₀.moment t → s.canAnswer k → mask < 4096 →
    (∀ (level : Bool) (c : Instr) (code : Byte),
      (level = true ∧ c = .linesSet rq (be16 mask) t ∧ code = 24 ∨ level = false ∧ c = .linesClear rq (be16 mask) t ∧ code = 25) →
      ∃ (u : State) (l1 l0 c1 c0 : Byte), exec c s₀ = .next u ∧
        { u with stu := s.stu } =
          State.answered
            (if ∀ m : Fin 12, u.stu.lines[m].fanStall = s.stu.lines[m].fanStall then s else s.withNotice .climate)
            k rq (code :: be16 mask) [0, code, l1, l0, c1, c0] ∧
        (∀ n : Fin 12,
          (u.stu.lines[n].requested =
            (if mask.testBit n.val = true ∧ (s.stu.lines[n].fn = .out ∨ s.stu.lines[n].fn = .fan) then level
            else s.stu.lines[n].requested)) ∧
          (s.stu.lines[n].fn ≠ .alarm →
            u.stu.lines[n].level =
              (if mask.testBit n.val = true ∧ (s.stu.lines[n].fn = .out ∨ s.stu.lines[n].fn = .fan) then
                (if s.stu.lines[n].fn = .fan ∧ s.stu.hot = true then true else level)
              else s.stu.lines[n].level)) ∧
          u.stu.lines[n] = { s.stu.lines[n] with
            requested := u.stu.lines[n].requested
            level := u.stu.lines[n].level
            stallTimer := u.stu.lines[n].stallTimer
            fanStall := u.stu.lines[n].fanStall } ∧
          (s.stu.lines[n].fn = .fan → u.stu.lines[n].level = false →
            u.stu.lines[n].stallTimer = .stopped ∧ u.stu.lines[n].fanStall = false) ∧
          (∀ m, s.stu.lines[n].fn = .fan → u.stu.lines[n].level = true → s.stu.lines[n].paired = some m →
            s.stu.lines[m].period = 0 → s.stu.lines[n].stallTimer = .stopped → s.stu.lines[n].fanStall = false →
            u.stu.lines[n].stallTimer = .running 5000 ∧ u.stu.lines[n].fanStall = false) ∧
          (l1 ++ l0).getLsbD n.val = s.stu.lines[n].level ∧
          (c1 ++ c0).getLsbD n.val =
            (decide (s.stu.lines[n].fn ≠ .alarm) && (u.stu.lines[n].level != s.stu.lines[n].level))) ∧
        u.stu.hot = s.stu.hot ∧ u.stu.filter = s.stu.filter ∧ u.stu.dying = s.stu.dying) ∧
    ∃ (lines : Vector LineRec 12) (f1 f0 : Byte),
      exec (.linesAck rq (be16 mask) t) s₀ = .next
        (State.answered { s with stu := { s.stu with lines := lines } } k rq (26 :: be16 mask) [0, 26, f1, f0]) ∧
      ∀ n : Fin 12,
        lines[n] =
          { s.stu.lines[n] with
            flag :=
              if mask.testBit n.val = true ∧ s.stu.lines[n].fn = .inp then
                decide (s.stu.lines[n].trigger = .high ∧ s.stu.lines[n].level = true ∨
                  s.stu.lines[n].trigger = .low ∧ s.stu.lines[n].level = false)
              else s.stu.lines[n].flag } ∧
        (f1 ++ f0).getLsbD n.val = s.stu.lines[n].flag

/-- R139: the table of RECHECK: a resolved loss verdict with its input in LOSS becomes a WATCH with a fresh window, keeping its loss stamp
and flap count, and notifies PATHp; a light verdict takes a light evaluation at once; WATCH and RESTORING stand; the answer carries the
verdict after the request. That the notice joins SNQ before the answer is the model's choice (log entry 8). -/
def Obligations.RecheckAnswersVerdictAfter : Prop :=
  ∀ (rq : RequestHead) (p : Fin 4) (t : Stamp) (k : Fin 6) (s₀ s : State), s = s₀.moment t → s.canAnswer k →
    (s.vde[p].verdict = .notApplicable →
      exec (.recheck rq [BitVec.ofNat 8 p.val] t) s₀ = .next (s.answered k rq [27, BitVec.ofNat 8 p.val] [7, 27])) ∧
    (s.vde[p].verdict ≠ .notApplicable →
      ∃ (u : State) (r : VerdictRec), exec (.recheck rq [BitVec.ofNat 8 p.val] t) s₀ = .next u ∧
        (s.vde[p].verdict.isResolvedLoss = true → s.pmn[p].input = .loss →
          r = { s.vde[p] with
            verdict := .watch
            evidence := .none
            late := false
            cause := none
            watchStart := some s.clk.hut
            window := .running s.settings.window
            holdOff := .stopped }) ∧
        (s.vde[p].verdict.isLight = true →
          r = (match (if s.tcr[fillLane p].present then some Verdict.sympathetic
              else if s.tcr[normalLane p].present then some Verdict.clear
              else if s.vde[p].toneAbsent ≥ s.settings.foreignConfirm then some Verdict.foreignLight else none) with
            | some v => { s.vde[p] with verdict := v, evidence := .none, late := false, cause := none, holdOff := .stopped }
            | none => s.vde[p])) ∧
        (s.vde[p].verdict = .watch ∨ s.vde[p].verdict = .restoring → r = s.vde[p]) ∧
        sameButAlarms u.stu s.stu ∧
        { u with stu := s.stu } =
          State.answered
            { (if r.verdict = s.vde[p].verdict then s else s.withNotice (.path p)) with vde := s.vde.set p.val r p.isLt }
            k rq [27, BitVec.ofNat 8 p.val] [0, 27, BitVec.ofNat 8 p.val, BitVec.ofNat 8 r.verdict.code])

/-- R167: an individual RESTART is answered OK and sets the restart pending flag, and BUSY while the flag is set. R46, R163, R168: the
restart is taken when the ANSWER entry of the slot that set the flag leaves SNQ: at the grant of its last mark, at the entry to DOWN of
its last marked port, by signal detect or by silence, or at its creation with neither port UP; the ports but for the grant or the entry to
DOWN, RLY's malformed and own-origin counters, the hut clock with its tick, the strap value and the settings continue, every other block
returns to its start values, and a load begins, after bus recovery where the memory holds SDA low (R37; log entry 11). -/
def Obligations.RestartIsTakenWhenAnswerLeaves : Prop :=
  (∀ (rq : RequestHead) (t : Stamp) (k : Fin 6) (s₀ s : State), s = s₀.moment t → s.canAnswer k → rq.broadcast = false →
    (s.rqh.restartPending = none →
      exec (.restartRequest rq [] t) s₀ = .next
        (State.answered { s with rqh := { s.rqh with restartPending := some k } } k rq [28] [0, 28])) ∧
    (s.rqh.restartPending.isSome = true →
      exec (.restartRequest rq [] t) s₀ = .next (s.answered k rq [28] [3, 28]))) ∧
  (∀ (c : Instr) (side : Side) (t : Stamp) (k : Fin 6) (e : Entry) (f : Frame) (s₀ s : State), s = s₀.moment t → s.awake = true →
    s.rqh.restartPending = some k → e.item = .answer k f → e.mark side = true → e.mark (otherSide side) = false →
    ((c = .grantAtSymbolBoundary side t ∧ (s.port side).tx = none ∨ c = .transmitDone side t ∧ (s.port side).tx ≠ none) →
      (s.port side).link = .up → (∃ post, s.snq = e :: post) → (s.port side).fwd = [] ∨ (s.port side).marker = .forward →
      s.stu.dying = false →
      ∃ u, exec c s₀ = .next u ∧ restarted s u ∧ u.port (otherSide side) = s.port (otherSide side) ∧
        u.port side = { s.port side with marker := .locally, tx := some f }) ∧
    (c = .signalDetectChange side false t ∨
        c = .silenceExpiry side t ∧ (∃ g, (s.port side).lastGood = some g ∧ 1000 ≤ (s.clk.hut - g).toNat) →
      (s.port side).link ≠ .down → e ∈ s.snq →
      ∃ u, exec c s₀ = .next u ∧ restarted s u ∧ u.port (otherSide side) = s.port (otherSide side) ∧
        u.port side = { s.port side with
          link := .down, lastDown := some s.clk.hut, aged := false
          assembly := { bytes := [], count := 0, esc := false, spoiled := none }, fwd := [] })) ∧
  ∀ (rq : RequestHead) (t : Stamp) (k : Fin 6) (s₀ s : State), s = s₀.moment t → s.running = true → s.station.isSome = true →
    rq.broadcast = false → s.rqh.slots[k].state = .free → (∀ j : Fin 6, j < k → s.rqh.slots[j].state ≠ .free) →
    s.rqh.restartPending = none → s.isUp .west = false → s.isUp .east = false →
    ∃ u, exec (.restartRequest rq [] t) s₀ = .next u ∧ restarted s u ∧ u.west = s.west ∧ u.east = s.east

/-! ### Invariants that every step keeps -/

/-- The invariants hold after power-on reset. -/
def Obligations.ResetMeetsInvariants : Prop :=
  State.reset.queueSound ∧ State.reset.slotsSound ∧ State.reset.portsSound ∧ State.reset.countsSound ∧ State.reset.configSound ∧
    State.reset.testSound ∧ State.reset.lanesSound ∧ State.reset.sumsSound ∧ State.reset.verdictsSound ∧ State.reset.pilotsSound ∧
    State.reset.siteSound

/-- R23, R56, R59, R161, R163: every step keeps the send queue, the answer slots and the probe queue matched: at most one entry for each
of the sixteen items, a READY slot exactly one ANSWER entry, a WAITING slot exactly one probe. -/
def Obligations.EveryStepKeepsQueueAndSlots : Prop :=
  ∀ s u : State, s.queueSound → s.slotsSound → step s = .next u → u.queueSound ∧ u.slotsSound ∧ u.snq.length ≤ 16

/-- R1, R4, R14, R20, R37, R41, R42, R90, R118, R123, R161: every step keeps the ports' bounds, the CUT_OFF marks, the saturating counts,
the tick that is never passed untaken, the consistency of the settings, and the test record. -/
def Obligations.EveryStepKeepsPortsCountsAndRecords : Prop :=
  ∀ s u : State, step s = .next u →
    (s.portsSound → u.portsSound) ∧ (s.countsSound → u.countsSound) ∧ (s.configSound → u.configSound) ∧ (s.testSound → u.testSound)

/-- R49, R51, R62 to R74, R98: every step keeps the lane table's shape, SMP's place in its blocks, and the bounds of the accumulators and
sums by the samples that the block has brought. -/
def Obligations.EveryStepKeepsLanesAndSums : Prop :=
  ∀ s u : State, s.lanesSound → s.sumsSound → step s = .next u → u.lanesSound ∧ u.sumsSound

/-- R65, R86, R123, R130: every step keeps verdicts, input states, automatic lanes and pilot modes agreed. -/
def Obligations.EveryStepKeepsVerdictsAndPilots : Prop :=
  ∀ s u : State, s.lanesSound → s.verdictsSound → s.pilotsSound → step s = .next u → u.verdictsSound ∧ u.pilotsSound

/-- R27, R148, R149, R154: every step keeps the fans HIGH while HOT is set, the stall conditions settled, STATE out of the send queue while
the power state is DYING, and the owned-alarm total and ALARM lines true to their sum. -/
def Obligations.EveryStepKeepsSite : Prop := ∀ s u : State, s.siteSound → step s = .next u → u.siteSound
end

