-- ==== Sys2Proof/Laws/State.lean ====
section
/-! SUPPORT. What each named update of the state leaves in each field: one lemma per field per update, for `simp`. -/

namespace Sys2Proof.Machine
open Sys2Proof

/-! ### setPort -/

@[simp] theorem State.setPort_clk (s : State) (side : Side) (p : Port) : (s.setPort side p).clk = s.clk := by cases side <;> rfl
@[simp] theorem State.setPort_pins (s : State) (side : Side) (p : Port) : (s.setPort side p).pins = s.pins := by cases side <;> rfl
@[simp] theorem State.setPort_rly (s : State) (side : Side) (p : Port) : (s.setPort side p).rly = s.rly := by cases side <;> rfl
@[simp] theorem State.setPort_snq (s : State) (side : Side) (p : Port) : (s.setPort side p).snq = s.snq := by cases side <;> rfl
@[simp] theorem State.setPort_smp (s : State) (side : Side) (p : Port) : (s.setPort side p).smp = s.smp := by cases side <;> rfl
@[simp] theorem State.setPort_tcr (s : State) (side : Side) (p : Port) : (s.setPort side p).tcr = s.tcr := by cases side <;> rfl
@[simp] theorem State.setPort_plg (s : State) (side : Side) (p : Port) : (s.setPort side p).plg = s.plg := by cases side <;> rfl
@[simp] theorem State.setPort_ttg (s : State) (side : Side) (p : Port) : (s.setPort side p).ttg = s.ttg := by cases side <;> rfl
@[simp] theorem State.setPort_pmn (s : State) (side : Side) (p : Port) : (s.setPort side p).pmn = s.pmn := by cases side <;> rfl
@[simp] theorem State.setPort_nbv (s : State) (side : Side) (p : Port) : (s.setPort side p).nbv = s.nbv := by cases side <;> rfl
@[simp] theorem State.setPort_vde (s : State) (side : Side) (p : Port) : (s.setPort side p).vde = s.vde := by cases side <;> rfl
@[simp] theorem State.setPort_stu (s : State) (side : Side) (p : Port) : (s.setPort side p).stu = s.stu := by cases side <;> rfl
@[simp] theorem State.setPort_stateTimer (s : State) (side : Side) (p : Port) : (s.setPort side p).stateTimer = s.stateTimer := by cases side <;> rfl
@[simp] theorem State.setPort_rqh (s : State) (side : Side) (p : Port) : (s.setPort side p).rqh = s.rqh := by cases side <;> rfl
@[simp] theorem State.setPort_cfl (s : State) (side : Side) (p : Port) : (s.setPort side p).cfl = s.cfl := by cases side <;> rfl
@[simp] theorem State.setPort_choices (s : State) (side : Side) (p : Port) : (s.setPort side p).choices = s.choices := by cases side <;> rfl
@[simp] theorem State.setPort_pending (s : State) (side : Side) (p : Port) : (s.setPort side p).pending = s.pending := by cases side <;> rfl

@[simp] theorem State.port_setPort (s : State) (side : Side) (p : Port) : (s.setPort side p).port side = p := by
  cases side <;> rfl

@[simp] theorem State.port_setPort_other (s : State) (side : Side) (p : Port) :
    (s.setPort side p).port (otherSide side) = s.port (otherSide side) := by cases side <;> rfl

@[simp] theorem State.nb_setPort (s : State) (side other : Side) (p : Port) : (s.setPort side p).nb other = s.nb other := by
  cases side <;> cases other <;> rfl

@[simp] theorem State.signal_setPort (s : State) (side other : Side) (p : Port) :
    (s.setPort side p).signal other = s.signal other := by cases side <;> cases other <;> rfl

/-! ### setNb -/

@[simp] theorem State.setNb_clk (s : State) (side : Side) (r : NbRec) : (s.setNb side r).clk = s.clk := by cases side <;> rfl
@[simp] theorem State.setNb_pins (s : State) (side : Side) (r : NbRec) : (s.setNb side r).pins = s.pins := by cases side <;> rfl
@[simp] theorem State.setNb_west (s : State) (side : Side) (r : NbRec) : (s.setNb side r).west = s.west := by cases side <;> rfl
@[simp] theorem State.setNb_east (s : State) (side : Side) (r : NbRec) : (s.setNb side r).east = s.east := by cases side <;> rfl
@[simp] theorem State.setNb_rly (s : State) (side : Side) (r : NbRec) : (s.setNb side r).rly = s.rly := by cases side <;> rfl
@[simp] theorem State.setNb_snq (s : State) (side : Side) (r : NbRec) : (s.setNb side r).snq = s.snq := by cases side <;> rfl
@[simp] theorem State.setNb_smp (s : State) (side : Side) (r : NbRec) : (s.setNb side r).smp = s.smp := by cases side <;> rfl
@[simp] theorem State.setNb_tcr (s : State) (side : Side) (r : NbRec) : (s.setNb side r).tcr = s.tcr := by cases side <;> rfl
@[simp] theorem State.setNb_plg (s : State) (side : Side) (r : NbRec) : (s.setNb side r).plg = s.plg := by cases side <;> rfl
@[simp] theorem State.setNb_ttg (s : State) (side : Side) (r : NbRec) : (s.setNb side r).ttg = s.ttg := by cases side <;> rfl
@[simp] theorem State.setNb_pmn (s : State) (side : Side) (r : NbRec) : (s.setNb side r).pmn = s.pmn := by cases side <;> rfl
@[simp] theorem State.setNb_vde (s : State) (side : Side) (r : NbRec) : (s.setNb side r).vde = s.vde := by cases side <;> rfl
@[simp] theorem State.setNb_stu (s : State) (side : Side) (r : NbRec) : (s.setNb side r).stu = s.stu := by cases side <;> rfl
@[simp] theorem State.setNb_stateTimer (s : State) (side : Side) (r : NbRec) : (s.setNb side r).stateTimer = s.stateTimer := by cases side <;> rfl
@[simp] theorem State.setNb_rqh (s : State) (side : Side) (r : NbRec) : (s.setNb side r).rqh = s.rqh := by cases side <;> rfl
@[simp] theorem State.setNb_cfl (s : State) (side : Side) (r : NbRec) : (s.setNb side r).cfl = s.cfl := by cases side <;> rfl
@[simp] theorem State.setNb_choices (s : State) (side : Side) (r : NbRec) : (s.setNb side r).choices = s.choices := by cases side <;> rfl
@[simp] theorem State.setNb_pending (s : State) (side : Side) (r : NbRec) : (s.setNb side r).pending = s.pending := by cases side <;> rfl

@[simp] theorem State.nb_setNb (s : State) (side : Side) (r : NbRec) : (s.setNb side r).nb side = r := by cases side <;> rfl

@[simp] theorem State.nb_setNb_other (s : State) (side : Side) (r : NbRec) :
    (s.setNb side r).nb (otherSide side) = s.nb (otherSide side) := by cases side <;> rfl

@[simp] theorem State.setNb_deliveries (s : State) (side : Side) (r : NbRec) :
    (s.setNb side r).nbv.deliveries = s.nbv.deliveries := by cases side <;> rfl

@[simp] theorem State.port_setNb (s : State) (side other : Side) (r : NbRec) : (s.setNb side r).port other = s.port other := by
  cases side <;> cases other <;> rfl

/-! ### setSignal -/

@[simp] theorem State.setSignal_clk (s : State) (side : Side) (level : Bool) : (State.setSignal side level s).clk = s.clk := by cases side <;> rfl
@[simp] theorem State.setSignal_west (s : State) (side : Side) (level : Bool) : (State.setSignal side level s).west = s.west := by cases side <;> rfl
@[simp] theorem State.setSignal_east (s : State) (side : Side) (level : Bool) : (State.setSignal side level s).east = s.east := by cases side <;> rfl
@[simp] theorem State.setSignal_rly (s : State) (side : Side) (level : Bool) : (State.setSignal side level s).rly = s.rly := by cases side <;> rfl
@[simp] theorem State.setSignal_snq (s : State) (side : Side) (level : Bool) : (State.setSignal side level s).snq = s.snq := by cases side <;> rfl
@[simp] theorem State.setSignal_smp (s : State) (side : Side) (level : Bool) : (State.setSignal side level s).smp = s.smp := by cases side <;> rfl
@[simp] theorem State.setSignal_tcr (s : State) (side : Side) (level : Bool) : (State.setSignal side level s).tcr = s.tcr := by cases side <;> rfl
@[simp] theorem State.setSignal_plg (s : State) (side : Side) (level : Bool) : (State.setSignal side level s).plg = s.plg := by cases side <;> rfl
@[simp] theorem State.setSignal_ttg (s : State) (side : Side) (level : Bool) : (State.setSignal side level s).ttg = s.ttg := by cases side <;> rfl
@[simp] theorem State.setSignal_pmn (s : State) (side : Side) (level : Bool) : (State.setSignal side level s).pmn = s.pmn := by cases side <;> rfl
@[simp] theorem State.setSignal_nbv (s : State) (side : Side) (level : Bool) : (State.setSignal side level s).nbv = s.nbv := by cases side <;> rfl
@[simp] theorem State.setSignal_vde (s : State) (side : Side) (level : Bool) : (State.setSignal side level s).vde = s.vde := by cases side <;> rfl
@[simp] theorem State.setSignal_stu (s : State) (side : Side) (level : Bool) : (State.setSignal side level s).stu = s.stu := by cases side <;> rfl
@[simp] theorem State.setSignal_stateTimer (s : State) (side : Side) (level : Bool) : (State.setSignal side level s).stateTimer = s.stateTimer := by cases side <;> rfl
@[simp] theorem State.setSignal_rqh (s : State) (side : Side) (level : Bool) : (State.setSignal side level s).rqh = s.rqh := by cases side <;> rfl
@[simp] theorem State.setSignal_cfl (s : State) (side : Side) (level : Bool) : (State.setSignal side level s).cfl = s.cfl := by cases side <;> rfl
@[simp] theorem State.setSignal_choices (s : State) (side : Side) (level : Bool) : (State.setSignal side level s).choices = s.choices := by cases side <;> rfl
@[simp] theorem State.setSignal_pending (s : State) (side : Side) (level : Bool) : (State.setSignal side level s).pending = s.pending := by cases side <;> rfl

@[simp] theorem State.setSignal_rstn (s : State) (side : Side) (level : Bool) :
    (State.setSignal side level s).pins.rstn = s.pins.rstn := by cases side <;> rfl

@[simp] theorem State.signal_setSignal (s : State) (side : Side) (level : Bool) :
    (State.setSignal side level s).signal side = level := by cases side <;> rfl

@[simp] theorem State.port_setSignal (s : State) (side other : Side) (level : Bool) :
    (State.setSignal side level s).port other = s.port other := by cases side <;> cases other <;> rfl

/-! ### ticks and elapse -/

@[simp] theorem Countdown.ticks_zero (c : Countdown) : c.ticks 0 = c := by cases c <;> rfl
@[simp] theorem WatchTime.ticks_zero (w : WatchTime) : w.ticks 0 = w := by simp [WatchTime.ticks]
@[simp] theorem Lane.ticks_zero (l : Lane) : l.ticks 0 = l := by simp [Lane.ticks, show WatchTime.ticks 0 = id from funext fun w => w.ticks_zero]
@[simp] theorem VerdictRec.ticks_zero (r : VerdictRec) : r.ticks 0 = r := by simp [VerdictRec.ticks]
@[simp] theorem LineRec.ticks_zero (r : LineRec) : r.ticks 0 = r := by simp [LineRec.ticks]
@[simp] theorem NbRec.ticks_zero (r : NbRec) : r.ticks 0 = r := by simp [NbRec.ticks]
/-- What leaves every element as it is leaves the vector. -/
theorem each_id {α : Type} {n : Nat} (f : α → α) (h : ∀ a, f a = a) (v : Vector α n) : each f v = v := by
  ext i hi
  simp [each, h]

@[simp] theorem State.ticks_zero (s : State) : s.ticks 0 = s := rfl

/-- What n ticks do, whatever n is: they pace the timers and nothing else. -/
theorem State.ticks_eq (s : State) (n : Nat) :
    s.ticks n =
      { s with
        tcr := each (Lane.ticks n) s.tcr
        ttg := { s.ttg with time := s.ttg.time.ticks n }
        vde := each (VerdictRec.ticks n) s.vde
        nbv := { s.nbv with west := s.nbv.west.ticks n, east := s.nbv.east.ticks n }
        stu := { s.stu with lines := each (LineRec.ticks n) s.stu.lines }
        stateTimer := s.stateTimer.ticks n
        cfl := { s.cfl with loadTimer := s.cfl.loadTimer.ticks n } } := by
  by_cases h : n = 0
  · subst h
    simp [State.ticks, each_id _ Lane.ticks_zero, each_id _ VerdictRec.ticks_zero, each_id _ LineRec.ticks_zero]
  · simp [State.ticks, h]

@[simp] theorem State.ticks_pins (s : State) (n : Nat) : (s.ticks n).pins = s.pins := by unfold State.ticks; split <;> rfl
@[simp] theorem State.ticks_west (s : State) (n : Nat) : (s.ticks n).west = s.west := by unfold State.ticks; split <;> rfl
@[simp] theorem State.ticks_east (s : State) (n : Nat) : (s.ticks n).east = s.east := by unfold State.ticks; split <;> rfl
@[simp] theorem State.ticks_rly (s : State) (n : Nat) : (s.ticks n).rly = s.rly := by unfold State.ticks; split <;> rfl
@[simp] theorem State.ticks_snq (s : State) (n : Nat) : (s.ticks n).snq = s.snq := by unfold State.ticks; split <;> rfl
@[simp] theorem State.ticks_smp (s : State) (n : Nat) : (s.ticks n).smp = s.smp := by unfold State.ticks; split <;> rfl
@[simp] theorem State.ticks_plg (s : State) (n : Nat) : (s.ticks n).plg = s.plg := by unfold State.ticks; split <;> rfl
@[simp] theorem State.ticks_pmn (s : State) (n : Nat) : (s.ticks n).pmn = s.pmn := by unfold State.ticks; split <;> rfl
@[simp] theorem State.ticks_rqh (s : State) (n : Nat) : (s.ticks n).rqh = s.rqh := by unfold State.ticks; split <;> rfl
@[simp] theorem State.ticks_choices (s : State) (n : Nat) : (s.ticks n).choices = s.choices := by unfold State.ticks; split <;> rfl
@[simp] theorem State.ticks_pending (s : State) (n : Nat) : (s.ticks n).pending = s.pending := by unfold State.ticks; split <;> rfl
@[simp] theorem State.ticks_clk (s : State) (n : Nat) : (s.ticks n).clk = s.clk := by unfold State.ticks; split <;> rfl

@[simp] theorem State.elapse_pins (s : State) (d n : Nat) : (s.elapse d n).pins = s.pins := by simp [State.elapse]
@[simp] theorem State.elapse_west (s : State) (d n : Nat) : (s.elapse d n).west = s.west := by simp [State.elapse]
@[simp] theorem State.elapse_east (s : State) (d n : Nat) : (s.elapse d n).east = s.east := by simp [State.elapse]
@[simp] theorem State.elapse_rly (s : State) (d n : Nat) : (s.elapse d n).rly = s.rly := by simp [State.elapse]
@[simp] theorem State.elapse_snq (s : State) (d n : Nat) : (s.elapse d n).snq = s.snq := by simp [State.elapse]
@[simp] theorem State.elapse_smp (s : State) (d n : Nat) : (s.elapse d n).smp = s.smp := by simp [State.elapse]
@[simp] theorem State.elapse_plg (s : State) (d n : Nat) : (s.elapse d n).plg = s.plg := by simp [State.elapse]
@[simp] theorem State.elapse_pmn (s : State) (d n : Nat) : (s.elapse d n).pmn = s.pmn := by simp [State.elapse]
@[simp] theorem State.elapse_rqh (s : State) (d n : Nat) : (s.elapse d n).rqh = s.rqh := by simp [State.elapse]
@[simp] theorem State.elapse_choices (s : State) (d n : Nat) : (s.elapse d n).choices = s.choices := by simp [State.elapse]
@[simp] theorem State.elapse_pending (s : State) (d n : Nat) : (s.elapse d n).pending = s.pending := by simp [State.elapse]

@[simp] theorem State.elapse_clk (s : State) (d n : Nat) :
    (s.elapse d n).clk = { hut := s.clk.hut + BitVec.ofNat 32 d, sinceTick := s.clk.sinceTick + d - 1000 * n } := rfl

@[simp] theorem State.elapse_tcr (s : State) (d n : Nat) : (s.elapse d n).tcr = each (Lane.ticks n) s.tcr := by
  rw [State.elapse, State.ticks_eq]

@[simp] theorem State.elapse_ttg (s : State) (d n : Nat) : (s.elapse d n).ttg = { s.ttg with time := s.ttg.time.ticks n } := by
  rw [State.elapse, State.ticks_eq]

@[simp] theorem State.elapse_vde (s : State) (d n : Nat) : (s.elapse d n).vde = each (VerdictRec.ticks n) s.vde := by
  rw [State.elapse, State.ticks_eq]

@[simp] theorem State.elapse_nbv (s : State) (d n : Nat) :
    (s.elapse d n).nbv = { s.nbv with west := s.nbv.west.ticks n, east := s.nbv.east.ticks n } := by
  rw [State.elapse, State.ticks_eq]

@[simp] theorem State.elapse_nb (s : State) (d n : Nat) (side : Side) : (s.elapse d n).nb side = (s.nb side).ticks n := by
  cases side <;> simp [State.nb]

@[simp] theorem State.elapse_stu (s : State) (d n : Nat) :
    (s.elapse d n).stu = { s.stu with lines := each (LineRec.ticks n) s.stu.lines } := by
  rw [State.elapse, State.ticks_eq]

@[simp] theorem State.elapse_stateTimer (s : State) (d n : Nat) : (s.elapse d n).stateTimer = s.stateTimer.ticks n := by
  rw [State.elapse, State.ticks_eq]

@[simp] theorem State.elapse_cfl (s : State) (d n : Nat) :
    (s.elapse d n).cfl = { s.cfl with loadTimer := s.cfl.loadTimer.ticks n, i2c := s.cfl.i2c.elapse d } := by
  rw [State.elapse, State.ticks_eq]

/-! ### moment -/

/-- R1, R129: at an event a part held in reset, or one whose hut clock is past the event's stamp, stands as it is, and another has passed
the microseconds to the stamp, with their ticks. -/
theorem State.moment_cases (s : State) (t : Stamp) :
    (s.awake = false ∨ isAhead s.clk.hut t = false) ∧ s.moment t = s ∨
      s.awake = true ∧ isAhead s.clk.hut t = true ∧ s.moment t =
        s.elapse (interval s.clk.hut t) ((s.clk.sinceTick + interval s.clk.hut t - 1) / 1000) := by
  unfold State.moment
  cases h : s.awake <;> cases h' : isAhead s.clk.hut t <;> simp

/-- R129: an event whose stamp is behind the hut clock is taken with the clock as it stands. -/
theorem State.moment_behind (s : State) (t : Stamp) (h : isAhead s.clk.hut t = false) : s.moment t = s := by
  simp [State.moment, h]

@[simp] theorem State.moment_pins (s : State) (t : Stamp) : (s.moment t).pins = s.pins := by unfold State.moment; split <;> simp
@[simp] theorem State.moment_west (s : State) (t : Stamp) : (s.moment t).west = s.west := by unfold State.moment; split <;> simp
@[simp] theorem State.moment_east (s : State) (t : Stamp) : (s.moment t).east = s.east := by unfold State.moment; split <;> simp
@[simp] theorem State.moment_rly (s : State) (t : Stamp) : (s.moment t).rly = s.rly := by unfold State.moment; split <;> simp
@[simp] theorem State.moment_snq (s : State) (t : Stamp) : (s.moment t).snq = s.snq := by unfold State.moment; split <;> simp
@[simp] theorem State.moment_smp (s : State) (t : Stamp) : (s.moment t).smp = s.smp := by unfold State.moment; split <;> simp
@[simp] theorem State.moment_plg (s : State) (t : Stamp) : (s.moment t).plg = s.plg := by unfold State.moment; split <;> simp
@[simp] theorem State.moment_pmn (s : State) (t : Stamp) : (s.moment t).pmn = s.pmn := by unfold State.moment; split <;> simp
@[simp] theorem State.moment_rqh (s : State) (t : Stamp) : (s.moment t).rqh = s.rqh := by unfold State.moment; split <;> simp
@[simp] theorem State.moment_choices (s : State) (t : Stamp) : (s.moment t).choices = s.choices := by unfold State.moment; split <;> simp
@[simp] theorem State.moment_pending (s : State) (t : Stamp) : (s.moment t).pending = s.pending := by unfold State.moment; split <;> simp

@[simp] theorem State.moment_settings (s : State) (t : Stamp) : (s.moment t).settings = s.settings := by
  unfold State.moment; split <;> simp [State.settings, State.station]

@[simp] theorem State.moment_phase (s : State) (t : Stamp) : (s.moment t).cfl.phase = s.cfl.phase := by
  unfold State.moment; split <;> simp

@[simp] theorem State.moment_strap (s : State) (t : Stamp) : (s.moment t).cfl.strap = s.cfl.strap := by
  unfold State.moment; split <;> simp

@[simp] theorem State.moment_awake (s : State) (t : Stamp) : (s.moment t).awake = s.awake := by simp [State.awake]

@[simp] theorem State.moment_running (s : State) (t : Stamp) : (s.moment t).running = s.running := by simp [State.running]

@[simp] theorem State.moment_station (s : State) (t : Stamp) : (s.moment t).station = s.station := by simp [State.station]

@[simp] theorem State.moment_port (s : State) (t : Stamp) (side : Side) : (s.moment t).port side = s.port side := by
  cases side <;> simp [State.port]

@[simp] theorem State.moment_isUp (s : State) (t : Stamp) (side : Side) : (s.moment t).isUp side = s.isUp side := by
  simp [State.isUp]

/-- R1: while RSTN is high a stamp ahead of the hut clock brings the clock there. -/
theorem State.moment_hut (s : State) (t : Stamp) (h : s.awake = true) (ht : isAhead s.clk.hut t = true) :
    (s.moment t).clk.hut = t := by
  simp only [State.moment, h, ht, Bool.and_self, if_true, State.elapse_clk, interval, BitVec.ofNat_toNat, BitVec.setWidth_eq]
  bv_omega

/-- R1: no tick is passed without being taken. -/
theorem State.moment_sinceTick (s : State) (t : Stamp) (h : s.clk.sinceTick ≤ 1000) : (s.moment t).clk.sinceTick ≤ 1000 := by
  unfold State.moment; split
  · simp only [State.elapse_clk]; omega
  · exact h

/-- At the hut clock's own value an event is taken at once. -/
theorem State.moment_now (s : State) (h : s.clk.sinceTick ≤ 1000) (hp : s.cfl.i2c.sincePulse < 10) : s.moment s.clk.hut = s := by
  have e : (s.clk.sinceTick - 1) / 1000 = 0 := by omega
  have i : s.cfl.i2c.elapse 0 = s.cfl.i2c := by
    unfold I2c.elapse; split
    · simp [Nat.div_eq_of_lt hp, Nat.mod_eq_of_lt hp]
    · rfl
  unfold State.moment; split
  · simp [interval, e, State.elapse, i]
  · rfl

/-! ### modLine -/

@[simp] theorem State.modLine_clk (s : State) (n : Fin 12) (f : LineRec → LineRec) : (State.modLine n f s).clk = s.clk := rfl
@[simp] theorem State.modLine_pins (s : State) (n : Fin 12) (f : LineRec → LineRec) : (State.modLine n f s).pins = s.pins := rfl
@[simp] theorem State.modLine_west (s : State) (n : Fin 12) (f : LineRec → LineRec) : (State.modLine n f s).west = s.west := rfl
@[simp] theorem State.modLine_east (s : State) (n : Fin 12) (f : LineRec → LineRec) : (State.modLine n f s).east = s.east := rfl
@[simp] theorem State.modLine_rly (s : State) (n : Fin 12) (f : LineRec → LineRec) : (State.modLine n f s).rly = s.rly := rfl
@[simp] theorem State.modLine_snq (s : State) (n : Fin 12) (f : LineRec → LineRec) : (State.modLine n f s).snq = s.snq := rfl
@[simp] theorem State.modLine_smp (s : State) (n : Fin 12) (f : LineRec → LineRec) : (State.modLine n f s).smp = s.smp := rfl
@[simp] theorem State.modLine_tcr (s : State) (n : Fin 12) (f : LineRec → LineRec) : (State.modLine n f s).tcr = s.tcr := rfl
@[simp] theorem State.modLine_plg (s : State) (n : Fin 12) (f : LineRec → LineRec) : (State.modLine n f s).plg = s.plg := rfl
@[simp] theorem State.modLine_ttg (s : State) (n : Fin 12) (f : LineRec → LineRec) : (State.modLine n f s).ttg = s.ttg := rfl
@[simp] theorem State.modLine_pmn (s : State) (n : Fin 12) (f : LineRec → LineRec) : (State.modLine n f s).pmn = s.pmn := rfl
@[simp] theorem State.modLine_nbv (s : State) (n : Fin 12) (f : LineRec → LineRec) : (State.modLine n f s).nbv = s.nbv := rfl
@[simp] theorem State.modLine_vde (s : State) (n : Fin 12) (f : LineRec → LineRec) : (State.modLine n f s).vde = s.vde := rfl
@[simp] theorem State.modLine_stateTimer (s : State) (n : Fin 12) (f : LineRec → LineRec) : (State.modLine n f s).stateTimer = s.stateTimer := rfl
@[simp] theorem State.modLine_rqh (s : State) (n : Fin 12) (f : LineRec → LineRec) : (State.modLine n f s).rqh = s.rqh := rfl
@[simp] theorem State.modLine_cfl (s : State) (n : Fin 12) (f : LineRec → LineRec) : (State.modLine n f s).cfl = s.cfl := rfl
@[simp] theorem State.modLine_choices (s : State) (n : Fin 12) (f : LineRec → LineRec) : (State.modLine n f s).choices = s.choices := rfl
@[simp] theorem State.modLine_pending (s : State) (n : Fin 12) (f : LineRec → LineRec) : (State.modLine n f s).pending = s.pending := rfl

/-! ### askNotice -/

@[simp] theorem State.askNotice_clk (s : State) (x : Subject) (b : Bool) : (State.askNotice x b s).clk = s.clk := by unfold State.askNotice; split <;> rfl
@[simp] theorem State.askNotice_pins (s : State) (x : Subject) (b : Bool) : (State.askNotice x b s).pins = s.pins := by unfold State.askNotice; split <;> rfl
@[simp] theorem State.askNotice_west (s : State) (x : Subject) (b : Bool) : (State.askNotice x b s).west = s.west := by unfold State.askNotice; split <;> rfl
@[simp] theorem State.askNotice_east (s : State) (x : Subject) (b : Bool) : (State.askNotice x b s).east = s.east := by unfold State.askNotice; split <;> rfl
@[simp] theorem State.askNotice_rly (s : State) (x : Subject) (b : Bool) : (State.askNotice x b s).rly = s.rly := by unfold State.askNotice; split <;> rfl
@[simp] theorem State.askNotice_smp (s : State) (x : Subject) (b : Bool) : (State.askNotice x b s).smp = s.smp := by unfold State.askNotice; split <;> rfl
@[simp] theorem State.askNotice_tcr (s : State) (x : Subject) (b : Bool) : (State.askNotice x b s).tcr = s.tcr := by unfold State.askNotice; split <;> rfl
@[simp] theorem State.askNotice_plg (s : State) (x : Subject) (b : Bool) : (State.askNotice x b s).plg = s.plg := by unfold State.askNotice; split <;> rfl
@[simp] theorem State.askNotice_ttg (s : State) (x : Subject) (b : Bool) : (State.askNotice x b s).ttg = s.ttg := by unfold State.askNotice; split <;> rfl
@[simp] theorem State.askNotice_pmn (s : State) (x : Subject) (b : Bool) : (State.askNotice x b s).pmn = s.pmn := by unfold State.askNotice; split <;> rfl
@[simp] theorem State.askNotice_nbv (s : State) (x : Subject) (b : Bool) : (State.askNotice x b s).nbv = s.nbv := by unfold State.askNotice; split <;> rfl
@[simp] theorem State.askNotice_vde (s : State) (x : Subject) (b : Bool) : (State.askNotice x b s).vde = s.vde := by unfold State.askNotice; split <;> rfl
@[simp] theorem State.askNotice_stu (s : State) (x : Subject) (b : Bool) : (State.askNotice x b s).stu = s.stu := by unfold State.askNotice; split <;> rfl
@[simp] theorem State.askNotice_stateTimer (s : State) (x : Subject) (b : Bool) : (State.askNotice x b s).stateTimer = s.stateTimer := by unfold State.askNotice; split <;> rfl
@[simp] theorem State.askNotice_rqh (s : State) (x : Subject) (b : Bool) : (State.askNotice x b s).rqh = s.rqh := by unfold State.askNotice; split <;> rfl
@[simp] theorem State.askNotice_cfl (s : State) (x : Subject) (b : Bool) : (State.askNotice x b s).cfl = s.cfl := by unfold State.askNotice; split <;> rfl
@[simp] theorem State.askNotice_choices (s : State) (x : Subject) (b : Bool) : (State.askNotice x b s).choices = s.choices := by unfold State.askNotice; split <;> rfl
@[simp] theorem State.askNotice_pending (s : State) (x : Subject) (b : Bool) : (State.askNotice x b s).pending = s.pending := by unfold State.askNotice; split <;> rfl

/-! ### askState -/

@[simp] theorem State.askState_clk (s : State) : (s.askState).clk = s.clk := by unfold State.askState; split <;> rfl
@[simp] theorem State.askState_pins (s : State) : (s.askState).pins = s.pins := by unfold State.askState; split <;> rfl
@[simp] theorem State.askState_west (s : State) : (s.askState).west = s.west := by unfold State.askState; split <;> rfl
@[simp] theorem State.askState_east (s : State) : (s.askState).east = s.east := by unfold State.askState; split <;> rfl
@[simp] theorem State.askState_rly (s : State) : (s.askState).rly = s.rly := by unfold State.askState; split <;> rfl
@[simp] theorem State.askState_smp (s : State) : (s.askState).smp = s.smp := by unfold State.askState; split <;> rfl
@[simp] theorem State.askState_tcr (s : State) : (s.askState).tcr = s.tcr := by unfold State.askState; split <;> rfl
@[simp] theorem State.askState_plg (s : State) : (s.askState).plg = s.plg := by unfold State.askState; split <;> rfl
@[simp] theorem State.askState_ttg (s : State) : (s.askState).ttg = s.ttg := by unfold State.askState; split <;> rfl
@[simp] theorem State.askState_pmn (s : State) : (s.askState).pmn = s.pmn := by unfold State.askState; split <;> rfl
@[simp] theorem State.askState_nbv (s : State) : (s.askState).nbv = s.nbv := by unfold State.askState; split <;> rfl
@[simp] theorem State.askState_vde (s : State) : (s.askState).vde = s.vde := by unfold State.askState; split <;> rfl
@[simp] theorem State.askState_stu (s : State) : (s.askState).stu = s.stu := by unfold State.askState; split <;> rfl
@[simp] theorem State.askState_stateTimer (s : State) : (s.askState).stateTimer = s.stateTimer := by unfold State.askState; split <;> rfl
@[simp] theorem State.askState_rqh (s : State) : (s.askState).rqh = s.rqh := by unfold State.askState; split <;> rfl
@[simp] theorem State.askState_cfl (s : State) : (s.askState).cfl = s.cfl := by unfold State.askState; split <;> rfl
@[simp] theorem State.askState_choices (s : State) : (s.askState).choices = s.choices := by unfold State.askState; split <;> rfl
@[simp] theorem State.askState_pending (s : State) : (s.askState).pending = s.pending := by unfold State.askState; split <;> rfl

end Sys2Proof.Machine
end

