-- ==== Sys2Proof/Laws/Ops.lean ====
section
/-! SUPPORT. One lemma per shared operation, saying what it can change, and the small lemmas of the send queue. -/

namespace Sys2Proof.Machine
open Sys2Proof

/-! ### Vectors and folds -/

@[simp] theorem upd_get {α : Type} {n : Nat} (v : Vector α n) (i j : Fin n) (f : α → α) :
    (upd v i f)[j] = if i = j then f v[i] else v[j] := by
  by_cases h : i = j
  · subst h; simp [upd]
  · have : i.val ≠ j.val := fun e => h (Fin.ext e)
    simp [upd, h, this]

@[simp] theorem each_get {α β : Type} {n : Nat} (f : α → β) (v : Vector α n) (i : Fin n) : (each f v)[i] = f v[i] := by
  simp [each]

/-- What every step of a fold keeps, the fold keeps. -/
theorem foldl_keeps {σ α : Type} (P : σ → Prop) (f : σ → α → σ) (hf : ∀ s a, P s → P (f s a)) (l : List α) (s : σ) (h : P s) :
    P (l.foldl f s) := by
  induction l generalizing s with
  | nil => exact h
  | cons a l ih => exact ih _ (hf _ _ h)

/-! ### Notice and STATE requests -/

theorem State.askNotice_eq (s : State) (x : Subject) (b : Bool) (h : s.running = true) :
    s.askNotice x b = { s with snq := snqAsk (.notice x) b (s.isUp .west) (s.isUp .east) s.snq } := by
  simp [State.askNotice, h]

theorem State.askNotice_changes (s : State) (x : Subject) (b : Bool) : ∃ q, s.askNotice x b = { s with snq := q } := by
  unfold State.askNotice; split
  · exact ⟨_, rfl⟩
  · exact ⟨s.snq, rfl⟩

theorem State.askState_changes (s : State) : ∃ q, s.askState = { s with snq := q } := by
  unfold State.askState; split
  · exact ⟨_, rfl⟩
  · exact ⟨s.snq, rfl⟩

/-! ### VDE -/

/-- VDE's operations change verdict records and the send queue, and nothing else. -/
def VdeChange (s s' : State) : Prop := ∃ v q, s' = { s with vde := v, snq := q }

theorem VdeChange.refl (s : State) : VdeChange s s := ⟨s.vde, s.snq, rfl⟩

theorem VdeChange.trans {s s' s'' : State} (h : VdeChange s s') (h' : VdeChange s' s'') : VdeChange s s'' := by
  obtain ⟨v, q, rfl⟩ := h
  obtain ⟨v', q', rfl⟩ := h'
  exact ⟨v', q', rfl⟩

theorem State.setVerdict_changes (s : State) (p : Fin 4) (r : VerdictRec) : VdeChange s (s.setVerdict p r) := by
  unfold State.setVerdict; dsimp only; split
  · exact ⟨_, s.snq, rfl⟩
  · obtain ⟨q, h⟩ := State.askNotice_changes { s with vde := s.vde.set p.val r p.isLt } (.path p) false
    exact ⟨_, q, h⟩

theorem State.lightEvaluation_changes (s : State) (p : Fin 4) : VdeChange s (s.lightEvaluation p) := by
  unfold State.lightEvaluation; dsimp only; split
  · exact s.setVerdict_changes p _
  · exact .refl s

theorem State.laneResult_changes (s : State) (p : Fin 4) (n f : Bool) : VdeChange s (s.laneResult p n f) := by
  have count : ∀ r, VdeChange s { s with vde := s.vde.set p.val r p.isLt } := fun r => ⟨_, s.snq, rfl⟩
  unfold State.laneResult; dsimp only; split
  · exact (count _).trans (State.lightEvaluation_changes _ p)
  · exact count _

theorem State.lossEvent_changes (s : State) (p : Fin 4) (loss : Stamp) : VdeChange s (s.lossEvent p loss) := by
  unfold State.lossEvent; split
  · exact s.setVerdict_changes p _
  · split
    · exact s.setVerdict_changes p _
    · exact .refl s

theorem State.restoreEvent_changes (s : State) (p : Fin 4) : VdeChange s (s.restoreEvent p) := by
  unfold State.restoreEvent; dsimp only; split
  · exact s.setVerdict_changes p _
  · exact .refl s

theorem State.decideLoss_changes (s : State) (p : Fin 4) (v : Verdict) (e : Evidence) : VdeChange s (s.decideLoss p v e) := by
  unfold State.decideLoss; dsimp only; split
  · exact s.setVerdict_changes p _
  · split
    · exact s.setVerdict_changes p _
    · exact .refl s

theorem State.upstreamReport_changes (s : State) (p : Fin 4) (low prompted : Bool) :
    VdeChange s (s.upstreamReport p low prompted) := by
  unfold State.upstreamReport; split
  · exact s.decideLoss_changes p _ _
  · split
    · exact s.decideLoss_changes p _ _
    · exact .refl s

theorem State.linkDownEvent_changes (s : State) (side : Side) : VdeChange s (s.linkDownEvent side) := by
  unfold State.linkDownEvent; split
  · refine foldl_keeps (VdeChange s) _ (fun s' p h => ?_) _ _ (.refl s)
    split
    · exact h.trans (s'.decideLoss_changes p _ _)
    · exact h
  · exact .refl s

theorem State.handReport_changes (s : State) (side : Side) (i : Fin 4) (low prompted : Bool) :
    VdeChange s (s.handReport side i low prompted) := by
  unfold State.handReport
  refine foldl_keeps (VdeChange s) _ (fun s' p h => ?_) _ _ (.refl s)
  split
  · exact h.trans (s'.upstreamReport_changes p _ _)
  · exact h

theorem State.dyingEvent_changes (s : State) (p : Fin 4) : VdeChange s (s.dyingEvent p) := s.decideLoss_changes p _ _

theorem State.handDying_changes (s : State) (side : Side) : VdeChange s (s.handDying side) := by
  unfold State.handDying
  refine foldl_keeps (VdeChange s) _ (fun s' p h => ?_) _ _ (.refl s)
  split
  · exact h.trans (s'.dyingEvent_changes p)
  · exact h

theorem State.recheckPath_changes (s : State) (p : Fin 4) : VdeChange s (s.recheckPath p) := by
  unfold State.recheckPath; dsimp only; split
  · exact s.setVerdict_changes p _
  · split
    · exact s.lightEvaluation_changes p
    · exact .refl s

/-! ### PLG -/

/-- A mode input changes pilot oscillators and the send queue, and nothing else. -/
theorem State.setOsc_changes (s : State) (p : Fin 4) (o : Osc) :
    ∃ q, s.setOsc p o = { s with plg := { s.plg with osc := s.plg.osc.set p.val o p.isLt }, snq := q } := by
  unfold State.setOsc; dsimp only; split
  · exact ⟨s.snq, rfl⟩
  · exact (State.askNotice_changes _ (.path p) false).imp fun q h => h

/-! ### STU -/

/-- Settling the alarms changes STU's contributions, its total and the levels of its ALARM lines, and nothing else. -/
theorem State.settleAlarms_changes (s : State) :
    ∃ v p c total, ∃ lines : Vector LineRec 12,
      s.settleAlarms =
        { s with stu := { s.stu with vdeAlarms := v, pmnAlarms := p, climate := c, total := total, lines := lines } } ∧
      ∀ n : Fin 12, ∃ level, lines[n] = { s.stu.lines[n] with level := level } ∧
        (s.stu.lines[n].fn ≠ .alarm → level = s.stu.lines[n].level) := by
  unfold State.settleAlarms; split
  · refine ⟨_, _, _, _, _, rfl, fun n => ?_⟩
    rw [each_get]; split
    · exact ⟨_, rfl, fun h => absurd ‹_› h⟩
    · exact ⟨_, rfl, fun _ => rfl⟩
  · exact ⟨_, _, _, _, s.stu.lines, rfl, fun n => ⟨_, rfl, fun _ => rfl⟩⟩

/-- Settling the stall conditions changes stall timers and FAN_STALL flags, and asks for a CLIMATE notice or not. -/
theorem State.settleStall_changes (s : State) : ∃ q, s.settleStall = { s with stu := s.stu.settleStall, snq := q } := by
  unfold State.settleStall; dsimp only; split
  · exact (State.askNotice_changes _ .climate false).imp fun q h => h
  · exact ⟨s.snq, rfl⟩

/-! ### Answer slots and the restart -/

/-- When no restart is pending, ANSWER entries that leave the send queue free their slots and change nothing else. -/
theorem State.answersLeft_eq (s : State) (slots : List (Fin 6)) (h : s.rqh.restartPending = none) :
    s.answersLeft slots =
      { s with rqh := { s.rqh with slots := .ofFn fun k => if k ∈ slots then Slot.reset else s.rqh.slots[k] } } := by
  simp [State.answersLeft, h]

/-- Nothing leaves when no ANSWER entry leaves. -/
theorem State.answersLeft_nil (s : State) : s.answersLeft [] = s := by
  unfold State.answersLeft
  cases s.rqh.restartPending <;> simp

/-- ANSWER entries that leave free their slots or bring the restart; the clock, the ports, RLY, the free values read and the commands
that wait stay as they are (R46). -/
theorem State.answersLeft_keeps (s : State) (slots : List (Fin 6)) :
    let u := s.answersLeft slots
    u.clk = s.clk ∧ u.west = s.west ∧ u.east = s.east ∧ u.rly = s.rly ∧ u.choices = s.choices ∧ u.pending = s.pending ∧
      u.cfl.strap = s.cfl.strap ∧ u.cfl.settings = s.cfl.settings := by
  unfold State.answersLeft; dsimp only; split
  · split <;> exact ⟨rfl, rfl, rfl, rfl, rfl, rfl, rfl, rfl⟩
  · exact ⟨rfl, rfl, rfl, rfl, rfl, rfl, rfl, rfl⟩

/-- R163: with a port UP, a request that completes makes its slot READY and puts one ANSWER entry at the tail; nothing else changes. -/
theorem State.complete_eq (s : State) (k : Fin 6) (status : Status) (results : List Byte)
    (h : s.isUp .west = true ∨ s.isUp .east = true) :
    s.complete k status results =
      { s with
        snq := s.snq ++
          [{ item := .answer k
               (s.originate .answer s.rqh.slots[k].requester s.rqh.slots[k].tag
                 (answerBody status s.rqh.slots[k].request results))
             west := s.isUp .west, east := s.isUp .east, prompted := false }]
        rqh := { s.rqh with slots := upd s.rqh.slots k fun r => { r with state := .ready } } } := by
  have h' : (s.isUp .west || s.isUp .east) = true := by simpa using h
  unfold State.complete State.askAnswer
  exact if_pos h'

/-! ### The send queue -/

theorem Entry.remark_marked (e : Entry) (w x : Bool) (h : e.marked = true) : (e.remark w x).marked = true := by
  simp [Entry.marked, Entry.remark] at *
  cases hw : e.west <;> simp_all

/-- R23: a request leaves no entry without a mark. -/
theorem snqAsk_marked (item : Item) (prompt w x : Bool) (q : List Entry) (h : ∀ e ∈ q, e.marked = true) :
    ∀ e ∈ snqAsk item prompt w x q, e.marked = true := by
  unfold snqAsk; split
  · intro e he
    obtain ⟨e', h', rfl⟩ := List.mem_map.mp he
    split
    · exact e'.remark_marked w x (h _ h')
    · exact h _ h'
  · split
    · intro e he
      rcases List.mem_append.mp he with he | he
      · exact h _ he
      · simp at he; subst he; simpa [Entry.marked] using ‹(w || x) = true›
    · exact h

/-- A request changes no item of the queue: it adds at most its own, at the tail. -/
theorem snqAsk_items (item : Item) (prompt w x : Bool) (q : List Entry) :
    (snqAsk item prompt w x q).map (·.item) = q.map (·.item) ∨
      (item ∉ q.map (·.item) ∧ (snqAsk item prompt w x q).map (·.item) = q.map (·.item) ++ [item]) := by
  unfold snqAsk; split
  · left
    rw [List.map_map]
    refine List.map_congr_left fun e _ => ?_
    dsimp only [Function.comp]; split <;> simp_all [Entry.remark]
  · split
    · right
      refine ⟨?_, by simp⟩
      intro hm
      obtain ⟨e, he, hi⟩ := List.mem_map.mp hm
      exact ‹¬_› (List.any_eq_true.mpr ⟨e, he, by simpa using hi⟩)
    · left; rfl

/-! ### Time (R1, R37) -/

/-- R1: k ticks and then j are k + j ticks. -/
theorem Countdown.ticks_add (j k : Nat) (c : Countdown) : (c.ticks k).ticks j = c.ticks (k + j) := by
  cases c with
  | stopped => rfl
  | due => rfl
  | running ms =>
    rcases Nat.eq_zero_or_pos k with rfl | hk
    · simp [Countdown.ticks]
    · by_cases hm : ms ≤ k
      · have : ms ≤ k + j := by omega
        simp [Countdown.ticks, hm, this, Nat.ne_of_gt hk]
      · rcases Nat.eq_zero_or_pos j with rfl | hj
        · simp [Countdown.ticks, hm, Nat.ne_of_gt hk]
        · have e : ms - k ≤ j ↔ ms ≤ k + j := by omega
          simp [Countdown.ticks, hm, Nat.ne_of_gt hk, Nat.ne_of_gt hj, e, Nat.sub_sub]

/-- R70, R94: a remaining time of 1 to 3600 seconds stays one under ticks. -/
theorem WatchTime.ticks_bounds (n : Nat) (w : WatchTime) (h : 1 ≤ w.secs ∧ w.secs ≤ 3600 ∧ w.tick < 1000) :
    1 ≤ (w.ticks n).secs ∧ (w.ticks n).secs ≤ 3600 ∧ (w.ticks n).tick < 1000 := by
  unfold WatchTime.ticks WatchTime.ofMillis WatchTime.millis
  split
  · exact h
  · split <;> simp only <;> omega

/-- R37: no recovery pulse is left unsent. -/
theorem I2c.elapse_sincePulse (d : Nat) (i : I2c) (h : i.sincePulse < 10) : (i.elapse d).sincePulse < 10 := by
  unfold I2c.elapse
  split
  · exact Nat.mod_lt _ (by decide)
  · exact h

/-- R37 step 1: how a load begins. -/
theorem I2c.begin_cases (hold : Option Nat) :
    (∃ n, hold = some n ∧ n < 5000 ∧ I2c.begin hold = { phase := .reading, pulses := n, sincePulse := 0, ended := none }) ∨
      (∀ n, hold = some n → 5000 ≤ n) ∧ I2c.begin hold = { phase := .recovering, pulses := 0, sincePulse := 0, ended := none } := by
  cases hold with
  | none => exact .inr ⟨nofun, rfl⟩
  | some n =>
    by_cases h : n < 5000
    · exact .inl ⟨n, rfl, h, by simp [I2c.begin, recoveryPulses, sdaHoldLimit, Option.filter, h]⟩
    · exact .inr ⟨by rintro _ ⟨⟩; omega, by simp [I2c.begin, recoveryPulses, sdaHoldLimit, Option.filter, h]⟩

end Sys2Proof.Machine
end

