-- ==== Sys2Proof/Laws/Tables.lean ====
section
/-! SUPPORT. R75's tables against the cosine and the sine: a point turned step by step in units of 10^-13, with its error, beside which every
entry is seen to be the nearest integer. -/

namespace Sys2Proof.Machine

/-- A step of the table's angle: 1024 of them make a turn. -/
noncomputable def tableAngle : ℝ := Real.pi / 512

/-- The cosine of one table step, within 10^-13. -/
theorem cos_tableAngle : |Real.cos tableAngle - 9999811752826 / 10 ^ 13| ≤ 1 / 10 ^ 13 := by
  have lo := Real.pi_gt_d20
  have hi := Real.pi_lt_d20
  have hx : tableAngle = 2 * (Real.pi / 1024) := by unfold tableAngle; ring
  set x := Real.pi / 1024 with hdef
  have xlo : 3.14159265358979323846 / 1024 ≤ x := by rw [hdef]; linarith
  have xhi : x ≤ 3.14159265358979323847 / 1024 := by rw [hdef]; linarith
  have x0 : 0 ≤ x := by linarith [xlo]
  have hs := Real.sin_bound (x := x) (by rw [abs_of_nonneg x0]; linarith)
  rw [abs_of_nonneg x0, abs_le] at hs
  have h5 : x ^ 5 ≤ (3.14159265358979323847 / 1024) ^ 5 := pow_le_pow_left₀ x0 xhi 5
  have h3 : x ^ 3 ≤ (3.14159265358979323847 / 1024) ^ 3 := pow_le_pow_left₀ x0 xhi 3
  have h3' : (3.14159265358979323846 / 1024) ^ 3 ≤ x ^ 3 := pow_le_pow_left₀ (by norm_num) xlo 3
  have slo : 306795676296 / 10 ^ 14 ≤ Real.sin x := by norm_num at *; linarith
  have shi : Real.sin x ≤ 306795676297 / 10 ^ 14 := by norm_num at *; linarith
  have sq1 : (306795676296 / 10 ^ 14 : ℝ) ^ 2 ≤ Real.sin x ^ 2 := pow_le_pow_left₀ (by norm_num) slo 2
  have sq2 : Real.sin x ^ 2 ≤ (306795676297 / 10 ^ 14) ^ 2 := pow_le_pow_left₀ (by linarith [slo]) shi 2
  rw [hx, Real.cos_two_mul, Real.cos_sq', abs_le]
  norm_num at *
  constructor <;> linarith

/-- The sine of one table step, within 1.5 · 10^-13. -/
theorem sin_tableAngle : |Real.sin tableAngle - 61358846491 / 10 ^ 13| ≤ 3 / 2 / 10 ^ 13 := by
  have lo := Real.pi_gt_d20
  have hi := Real.pi_lt_d20
  unfold tableAngle
  set x := Real.pi / 512 with hdef
  have xlo : 3.14159265358979323846 / 512 ≤ x := by rw [hdef]; linarith
  have xhi : x ≤ 3.14159265358979323847 / 512 := by rw [hdef]; linarith
  have x0 : 0 ≤ x := by linarith [xlo]
  have hs := Real.sin_bound (x := x) (by rw [abs_of_nonneg x0]; linarith)
  rw [abs_of_nonneg x0, abs_le] at hs
  have h5 : x ^ 5 ≤ (3.14159265358979323847 / 512) ^ 5 := pow_le_pow_left₀ x0 xhi 5
  have h3 : x ^ 3 ≤ (3.14159265358979323847 / 512) ^ 3 := pow_le_pow_left₀ x0 xhi 3
  have h3' : (3.14159265358979323846 / 512) ^ 3 ≤ x ^ 3 := pow_le_pow_left₀ (by norm_num) xlo 3
  rw [abs_le]
  norm_num at *
  constructor <;> linarith

/-- One table step from (a, b), in units of 10^-13 of the radius. -/
def turnStep (a b : Int) : Int × Int :=
  ((a * 9999811752826 - b * 61358846491) / 10 ^ 13, (a * 61358846491 + b * 9999811752826) / 10 ^ 13)

/-- (a, b) lies within 5m units of the point that m table steps reach. -/
def nearTurn (m : Nat) (a b : Int) : Prop :=
  ‖Complex.exp ((m : ℂ) * tableAngle * Complex.I) - ((a : ℂ) + (b : ℂ) * Complex.I) / 10 ^ 13‖ ≤ 5 * (m : ℝ) / 10 ^ 13

/-- Whether k table entries from index m are nearest to the points reached from (a, b), with room for the error. -/
def tableNearest : Nat → Nat → Int → Int → Bool
  | 0, _, _, _ => true
  | k + 1, m, a, b =>
    decide (2 * (2047 * a - 10 ^ 13 * cosTable m).natAbs + 20470 * m < 10 ^ 13 ∧
      2 * (2047 * b - 10 ^ 13 * sinTable m).natAbs + 20470 * m < 10 ^ 13) &&
      tableNearest k (m + 1) (turnStep a b).1 (turnStep a b).2

/-- All 1024 entries of both tables pass from index 0. -/
theorem tableNearest_all : tableNearest 1024 0 (10 ^ 13) 0 = true := by decide +kernel

/-- The real part of x + yi. -/
theorem re_add_mul_I (x y : ℝ) : ((x : ℂ) + (y : ℂ) * Complex.I).re = x := by simp

/-- The imaginary part of x + yi. -/
theorem im_add_mul_I (x y : ℝ) : ((x : ℂ) + (y : ℂ) * Complex.I).im = y := by simp

/-- A floored quotient is less than one unit off. -/
theorem floor_near (x : Int) : |((x / 10 ^ 13 : Int) : ℝ) - (x : ℝ) / 10 ^ 13| ≤ 1 := by
  have h1 : 10 ^ 13 * (x / 10 ^ 13) ≤ x := Int.mul_ediv_self_le (by norm_num)
  have h2 : x < 10 ^ 13 * (x / 10 ^ 13) + 10 ^ 13 := Int.lt_mul_ediv_self_add (by norm_num)
  have h1' : (10 : ℝ) ^ 13 * ((x / 10 ^ 13 : Int) : ℝ) ≤ (x : ℝ) := by exact_mod_cast h1
  have h2' : (x : ℝ) < 10 ^ 13 * ((x / 10 ^ 13 : Int) : ℝ) + 10 ^ 13 := by exact_mod_cast h2
  rw [abs_le]
  constructor
  · rw [neg_le_sub_iff_le_add, div_le_iff₀ (by norm_num)]; linarith
  · rw [sub_le_iff_le_add, ← sub_le_iff_le_add', le_div_iff₀ (by norm_num)]; linarith

/-- A value within 5m units of a / 10^13 has the nearest integer that the test on a names. -/
theorem nearest_of_near (m : Nat) (a t : Int) (r : ℝ) (h : 2 * (2047 * a - 10 ^ 13 * t).natAbs + 20470 * m < 10 ^ 13)
    (hr : |r - (a : ℝ) / 10 ^ 13| ≤ 5 * (m : ℝ) / 10 ^ 13) : |2047 * r - (t : ℝ)| < 1 / 2 := by
  have h' : 2 * |(2047 * (a : ℝ) - 10 ^ 13 * t)| + 20470 * (m : ℝ) < 10 ^ 13 := by
    have := (Nat.cast_lt (α := ℝ)).mpr h
    push_cast [Nat.cast_natAbs] at this
    norm_num at this ⊢
    exact this
  have e : 2047 * r - (t : ℝ) = 2047 * (r - (a : ℝ) / 10 ^ 13) + (2047 * (a : ℝ) - 10 ^ 13 * t) / 10 ^ 13 := by ring
  rw [e]
  refine (abs_add_le _ _).trans_lt ?_
  rw [abs_mul, abs_div, abs_of_pos (show (0 : ℝ) < 10 ^ 13 by norm_num), abs_of_pos (show (0 : ℝ) < 2047 by norm_num)]
  generalize |2047 * (a : ℝ) - 10 ^ 13 * t| = q at h' ⊢
  generalize |r - (a : ℝ) / 10 ^ 13| = d at hr ⊢
  rw [le_div_iff₀ (by norm_num)] at hr
  rw [← sub_pos]
  have : 1 / 2 - (2047 * d + q / 10 ^ 13) = ((10 ^ 13 - 2 * q) / 2 - 2047 * (d * 10 ^ 13)) / 10 ^ 13 := by ring
  rw [this]
  exact div_pos (by linarith) (by norm_num)

/-- A table step keeps the error within 5 units a step. -/
theorem nearTurn_step (m : Nat) (a b : Int) (hm : m ≤ 1024) (h : nearTurn m a b) :
    nearTurn (m + 1) (turnStep a b).1 (turnStep a b).2 := by
  have hc := cos_tableAngle
  have hs := sin_tableAngle
  have hm' : (m : ℝ) ≤ 1024 := by exact_mod_cast hm
  have hf := floor_near (a * 9999811752826 - b * 61358846491)
  have hg := floor_near (a * 61358846491 + b * 9999811752826)
  unfold nearTurn at *
  set z := Complex.exp ((m : ℂ) * tableAngle * Complex.I) with hz
  set w : ℂ := ((a : ℂ) + (b : ℂ) * Complex.I) / 10 ^ 13 with hw
  set c : ℂ := Complex.exp (tableAngle * Complex.I) with hcdef
  set o : ℂ := (9999811752826 + 61358846491 * Complex.I) / 10 ^ 13 with ho
  set v : ℂ := (((turnStep a b).1 : ℂ) + ((turnStep a b).2 : ℂ) * Complex.I) / 10 ^ 13 with hv
  have e : Complex.exp (((m + 1 : Nat) : ℂ) * tableAngle * Complex.I) = z * c := by
    rw [hz, hcdef, ← Complex.exp_add]; push_cast; ring_nf
  have nz : ‖z‖ = 1 := by
    rw [hz, show (m : ℂ) * tableAngle * Complex.I = ((m * tableAngle : ℝ) : ℂ) * Complex.I by push_cast; ring]
    exact Complex.norm_exp_ofReal_mul_I _
  have nc : ‖c‖ = 1 := Complex.norm_exp_ofReal_mul_I _
  have nw : ‖w‖ ≤ 1001 / 1000 := by
    have := norm_sub_norm_le w z
    rw [norm_sub_rev, nz] at this
    linarith
  have nco : ‖c - o‖ ≤ 5 / 2 / 10 ^ 13 := by
    refine (Complex.norm_le_abs_re_add_abs_im _).trans ?_
    have ec : c - o = ((Real.cos tableAngle - 9999811752826 / 10 ^ 13 : ℝ) : ℂ) +
        ((Real.sin tableAngle - 61358846491 / 10 ^ 13 : ℝ) : ℂ) * Complex.I := by
      rw [hcdef, Complex.exp_mul_I, ho]; push_cast; ring
    simp only [ec, re_add_mul_I, im_add_mul_I]; linarith
  have nr : ‖w * o - v‖ ≤ 2 / 10 ^ 13 := by
    refine (Complex.norm_le_abs_re_add_abs_im _).trans ?_
    have ev : w * o - v =
        ((-(((turnStep a b).1 : ℝ) - ((a * 9999811752826 - b * 61358846491 : Int) : ℝ) / 10 ^ 13) / 10 ^ 13 : ℝ) : ℂ) +
        ((-(((turnStep a b).2 : ℝ) - ((a * 61358846491 + b * 9999811752826 : Int) : ℝ) / 10 ^ 13) / 10 ^ 13 : ℝ) : ℂ) * Complex.I := by
      rw [hw, ho, hv]; push_cast; linear_combination (b * 61358846491 / 10 ^ 26 : ℂ) * Complex.I_sq
    simp only [ev, re_add_mul_I, im_add_mul_I, abs_div, abs_neg]
    rw [abs_of_pos (show (0 : ℝ) < 10 ^ 13 by norm_num), ← add_div]
    exact div_le_div_of_nonneg_right (by unfold turnStep; linarith) (by norm_num)
  have split : z * c - v = (z - w) * c + w * (c - o) + (w * o - v) := by ring
  rw [e, split]
  refine (norm_add_le _ _).trans ((add_le_add_left (norm_add_le _ _) _).trans ?_)
  rw [norm_mul, norm_mul, nc]
  have : ‖w‖ * ‖c - o‖ ≤ 1001 / 1000 * (5 / 2 / 10 ^ 13) := mul_le_mul nw nco (norm_nonneg _) (by norm_num)
  push_cast
  linarith

/-- R75: the entries that `tableNearest` passes are the nearest integers to 2047 times the cosine and the sine. -/
theorem tableNearest_sound (k : Nat) : ∀ (m : Nat) (a b : Int), m + k ≤ 1024 → nearTurn m a b → tableNearest k m a b = true →
    ∀ j, j < k → |2047 * Real.cos ((m + j : Nat) * tableAngle) - (cosTable (m + j) : ℝ)| < 1 / 2 ∧
      |2047 * Real.sin ((m + j : Nat) * tableAngle) - (sinTable (m + j) : ℝ)| < 1 / 2 := by
  induction k with
  | zero => intro m a b _ _ _ j hj; omega
  | succ k ih =>
    intro m a b hm h ht j hj
    rw [tableNearest, Bool.and_eq_true, decide_eq_true_eq] at ht
    cases j with
    | zero =>
      have re := (Complex.abs_re_le_norm _).trans h
      have im := (Complex.abs_im_le_norm _).trans h
      have ez : Complex.exp ((m : ℂ) * tableAngle * Complex.I) - ((a : ℂ) + (b : ℂ) * Complex.I) / 10 ^ 13 =
          ((Real.cos (m * tableAngle) - a / 10 ^ 13 : ℝ) : ℂ) + ((Real.sin (m * tableAngle) - b / 10 ^ 13 : ℝ) : ℂ) * Complex.I := by
        rw [Complex.exp_mul_I]; push_cast; ring
      rw [ez] at re im
      rw [re_add_mul_I] at re
      rw [im_add_mul_I] at im
      exact ⟨nearest_of_near m _ _ _ ht.1.1 re, nearest_of_near m _ _ _ ht.1.2 im⟩
    | succ j =>
      have := ih (m + 1) _ _ (by omega) (nearTurn_step m a b (by omega) h) ht.2 j (by omega)
      rwa [Nat.add_right_comm, Nat.add_assoc m j 1] at this

/-- R75: every entry of C and S is the nearest integer to 2047 times the cosine and the sine of its angle. -/
theorem table_nearest (m : Nat) (hm : m < 1024) :
    |2047 * Real.cos (2 * Real.pi * m / 1024) - (cosTable m : ℝ)| < 1 / 2 ∧
      |2047 * Real.sin (2 * Real.pi * m / 1024) - (sinTable m : ℝ)| < 1 / 2 := by
  have h0 : nearTurn 0 (10 ^ 13) 0 := by unfold nearTurn; norm_num
  have := tableNearest_sound 1024 0 _ _ (by omega) h0 tableNearest_all m hm
  rw [Nat.zero_add] at this
  have e : (m : ℝ) * tableAngle = 2 * Real.pi * m / 1024 := by unfold tableAngle; ring
  rwa [e] at this

end Sys2Proof.Machine
end

