-- ==== Sys2Proof/Machine/Outputs.lean ====
section
/-! DEFINITION. What the output pins carry in a state: the transmit lines (R2, R3), the hut lines (R143, R156) and the I2C port
(R37, R38, R45). The pilot outputs' pulses are `State.pilotPulses`. Nothing here changes state. -/

namespace Sys2Proof.Machine
open Sys2Proof

/-! ### LWTXD and LETXD -/

/-- R3: the bytes the transmitter of a port sends for what it holds: a frame with its closing delimiter, or a delimiter. -/
def Port.sending (p : Port) : List Byte :=
  match p.tx with
  | some f => f.sent
  | none => [delimiter]

/-- R2, R3: the levels of a side's transmit line over the symbols of what its transmitter holds, a level for each bit time. While
RSTN is low the line is held high and carries no symbol. -/
def State.transmitLevels (s : State) (side : Side) : List Bool :=
  if s.awake then (s.port side).sending.flatMap symbolBits else [true]

/-! ### L0 to L11 -/

/-- R143: whether the function of a line drives its pin. -/
def LineFn.drives : LineFn → Bool
  | .out | .fan | .alarm => true
  | .inp | .tacho | .powerGood => false

/-- R44, R45, R143, R156: the level a hut line is driven to, `none` for an input and outside RUNNING. -/
def State.lineDrive (s : State) (n : Fin 12) : Option Bool :=
  if s.running && s.stu.lines[n].fn.drives then some s.stu.lines[n].level else none

/-! ### SCL and SDA -/

/-- What CFL does on the I2C port: a recovery pulse, a START, a repeated START, a byte sent that must be acknowledged, a byte read and
acknowledged or not, a STOP. -/
inductive I2cAct where
  | pulse
  | start
  | restart
  | send (b : Byte)
  | read (ack : Bool)
  | stop
deriving DecidableEq, Repr

/-- R37: the address byte: the seven-bit device address 0x52, and the direction in bit 0, 1 for read. -/
def i2cAddress (read : Bool) : Byte := BitVec.ofNat 8 (2 * 0x52 + read.toNat)

/-- R37 step 2: the address with the write direction. -/
def i2cAddressWrite : List I2cAct := [.start, .send (i2cAddress false)]

/-- R37 steps 2 and 3: the offset 0 after it. -/
def i2cOffset : List I2cAct := i2cAddressWrite ++ [.send 0]

/-- R37 steps 2 to 4: the address with the read direction after a repeated START. -/
def i2cAddressRead : List I2cAct := i2cOffset ++ [.restart, .send (i2cAddress true)]

/-- R37 steps 2 to 6: a whole transaction. Every byte of the image but the last is acknowledged. -/
def i2cTransaction : List I2cAct := i2cAddressRead ++ List.replicate 138 (.read true) ++ [.read false, .stop]

/-- R37, R38: a transaction that ends at once with a STOP at a missing acknowledge. -/
def i2cEndedAt : I2cStage → List I2cAct
  | .addressWrite => i2cAddressWrite ++ [.stop]
  | .offset => i2cOffset ++ [.stop]
  | .addressRead => i2cAddressRead ++ [.stop]

/-- R37: what CFL does on the port in the load in progress or last ended: the recovery pulses it has sent, and the transaction once
begun. -/
def I2c.acts (i : I2c) (transaction : List I2cAct) : List I2cAct :=
  List.replicate i.pulses .pulse ++ if i.phase = .recovering then [] else transaction

/-- What CFL puts on the port: the level of SCL, which it drives alone, and that of SDA, `true` where it releases SDA. -/
structure I2cLevels where
  scl : Bool
  sda : Bool
deriving DecidableEq, Repr

/-- R37, R45: the port at rest, as it stands between loads, after a load and while RSTN is low: SCL high, SDA released. -/
def i2cRest : I2cLevels := { scl := true, sda := true }

/-- R37: one clock pulse on SCL with SDA at a level. -/
def i2cPulse (sda : Bool) : List I2cLevels := [⟨false, sda⟩, ⟨true, sda⟩, ⟨false, sda⟩]

/-- R37: a byte's eight clock pulses, MSB first. -/
def i2cByte (b : Byte) : List I2cLevels := (List.range 8).flatMap fun k => i2cPulse (b.getLsbD (7 - k))

/-- R37: the levels CFL gives in turn in an act. A START is SDA falling and a STOP SDA rising while SCL is high; the ninth pulse of a
byte is the receiver's, which holds SDA low to acknowledge. -/
def I2cAct.levels : I2cAct → List I2cLevels
  | .pulse => [⟨false, true⟩, i2cRest]
  | .start => [⟨true, true⟩, ⟨true, false⟩, ⟨false, false⟩]
  | .restart => [⟨false, true⟩, ⟨true, true⟩, ⟨true, false⟩, ⟨false, false⟩]
  | .send b => i2cByte b ++ i2cPulse true
  | .read ack => i2cByte 0xFF ++ i2cPulse (!ack)
  | .stop => [⟨false, false⟩, ⟨true, false⟩, ⟨true, true⟩]

/-- R37: the levels CFL gives in turn in a list of acts, from rest to rest. -/
def i2cLevels (acts : List I2cAct) : List I2cLevels := i2cRest :: acts.flatMap I2cAct.levels ++ [i2cRest]

/-- R37, R45: whether the port stands at rest: RSTN is low, or no load is in progress. -/
def State.i2cAtRest (s : State) : Bool := !s.awake || s.cfl.i2c.phase = .idle

end Sys2Proof.Machine
end

