-- ==== Sys2Proof/Tests/Slice0.lean ====
section
/-! SUPPORT. Tests: ill-formed commands refused, steps of the manual's worked sequences, and, for each statement with hypotheses, a
state that meets them. -/

namespace Sys2Proof.Tests

-- Elaborated one after another: each `decide +kernel` otherwise holds a thread of its own.
set_option Elab.async false
open Sys2Proof Sys2Proof.Machine

/-! ### Small states -/

/-- The state after a command. No command faults or is refused. -/
def after (c : Instr) (s : State) : State := match exec c s with | .next u => u | .refused _ => .reset

/-- A part in LOADING at a strap value. -/
def loading (strap : BitVec 6) : State := after (.rstnRelease strap (some 0)) .reset

/-- An UP port. -/
def upPort : Port := { Port.reset with link := .up, lastGood := some 0 }

/-- A part in RUNNING on its defaults, both ports UP, at slot 0 of a block's cycle 0. -/
def hut (strap : BitVec 6) : State :=
  let s := after (.i2cNack .addressWrite) (loading strap)
  { s with
    west := upPort
    east := upPort
    nbv := { s.nbv with west := { s.nbv.west with cutOff := false }, east := { s.nbv.east with cutOff := false } }
    smp := { s.smp with block := .inProgress } }

/-- Station 15, where every path is SPAN between stations 14 and 16. -/
def h15 : State := hut 15

/-- A part at a slot of a scan cycle, and one whose block's end is due. -/
def atSlot (cycle : Nat) (k : Fin 9) (s : State) : State := { s with smp := { s.smp with cycle := cycle, slot := k } }
def blockDone (s : State) : State := { s with smp := { s.smp with block := .endDue } }

/-- A settings change in a state. -/
def withSettings (s : State) (f : Settings → Settings) : State := { s with cfl := { s.cfl with settings := some (f s.settings) } }

/-- The record of a path, a verdict, a lane or a line replaced. -/
def withPath (s : State) (p : Fin 4) (f : PathRec → PathRec) : State := { s with pmn := upd s.pmn p f }
def withVerdict (s : State) (p : Fin 4) (f : VerdictRec → VerdictRec) : State := { s with vde := upd s.vde p f }
def withLane (s : State) (i : Fin 16) (f : Lane → Lane) : State := { s with tcr := upd s.tcr i f }
def withLine (s : State) (n : Fin 12) (f : LineRec → LineRec) : State := s.modLine n f

/-- Station 0's request with tag 1, to this station alone and to all. -/
def rq0 : RequestHead := { requester := 0, tag := 1, broadcast := false }
def rqAll : RequestHead := { requester := 0, tag := 1, broadcast := true }

/-- The ANSWER body at the tail of the send queue. -/
def answer (s : State) : List Byte :=
  match s.snq.getLast? with
  | some { item := .answer _ f, .. } => f.body
  | _ => []

/-- A good REQUEST frame of station 0 for all stations, with one stuffed tag. -/
def sample : Frame :=
  { kind := .request, origin := 0, target := 63, hopsLeft := 20, hopsDone := 63, stamp := 0x01020304, tag := 0xD3, body := [17] }

/-- A frame as a port hands it on. -/
def arrived (side : Side) (bytes : List Byte) : ReceivedFrame := { side := side, bytes := bytes, spoiled := none, stamp := 0 }

/-! ### Ill-formed commands -/

theorem test_wf_frame_of_54_bytes : (Instr.receivedFrame (arrived .west (List.replicate 54 0))).wellFormed = false := by decide +kernel
theorem test_wf_image_length : (Instr.imageReadDone (List.replicate 138 0)).wellFormed = false := by decide +kernel
theorem test_wf_delivery_kind :
    (Instr.neighbourFrame { side := .west, origin := 1, hopsDone := 0, kind := .answer, stamp := 0, body := [] } 0).wellFormed = false := by
  decide +kernel
theorem test_wf_delivery_origin :
    (Instr.neighbourFrame { side := .west, origin := 61, hopsDone := 0, kind := .state, stamp := 0, body := [] } 0).wellFormed = false := by
  decide +kernel
theorem test_wf_delivery_hops :
    (Instr.neighbourFrame { side := .west, origin := 1, hopsDone := 64, kind := .state, stamp := 0, body := [] } 0).wellFormed = false := by
  decide +kernel
theorem test_wf_delivery_body :
    (Instr.neighbourFrame
      { side := .west, origin := 1, hopsDone := 0, kind := .state, stamp := 0, body := List.replicate 41 0 } 0).wellFormed = false := by
  decide +kernel
theorem test_wf_watch_of_automatic_lane : (Instr.watchExpiry 7).wellFormed = false := by decide +kernel
theorem test_wf_unknown_request_that_names_one : (Instr.unknownRequest rq0 [16] 0).wellFormed = false := by decide +kernel
theorem test_wf_unknown_request_body : (Instr.unknownRequest rq0 (List.replicate 41 0) 0).wellFormed = false := by decide +kernel
theorem test_wf_requester : (Instr.querySite { rq0 with requester := 61 } [] 0).wellFormed = false := by decide +kernel
theorem test_wf_arguments : (Instr.querySite rq0 (List.replicate 40 0) 0).wellFormed = false := by decide +kernel
theorem test_wf_request : (Instr.querySite rq0 [] 0).wellFormed = true := by decide +kernel

theorem test_wf_release : (Instr.rstnRelease 0 (some 5000)).wellFormed = false := by decide +kernel

/-! ### R1: the clock -/

/-- 1000 µs on, the tick is still to be taken; at 1001 it has been, and 2,000,000 µs on 2000 have: none is passed. -/
theorem test_moment_takes_ticks :
    let s := loading 22
    ((s.moment 1000).clk.sinceTick, (s.moment 1000).cfl.loadTimer) = (1000, .running 50) ∧
      ((s.moment 1001).clk.sinceTick, (s.moment 1001).cfl.loadTimer) = (1, .running 49) ∧
      ((s.moment 2000000).clk.sinceTick, (s.moment 2000000).cfl.loadTimer) = (1000, .due) := by decide +kernel

/-- R1: the thousandth idle microsecond brings the tick, across the wrap of the hut clock too. -/
theorem test_idle_ticks :
    let s := { loading 22 with clk := { hut := 0xFFFFFFFF, sinceTick := 999 } }
    (s.idle.clk.hut, s.idle.clk.sinceTick, s.idle.cfl.loadTimer) = (0, 0, .running 49) := by decide +kernel

/-- R70: 288 s of a watch over 2500 ticks. -/
theorem test_watch_ticks : (WatchTime.ofSecs 288).ticks 2500 = { secs := 286, tick := 500, due := false } := by decide +kernel

/-- R37 step 1: a memory that holds SDA low for 3 pulses is sent 3; one that holds it for ever is sent 100 each millisecond. -/
theorem test_recovery :
    (after (.rstnRelease 22 (some 3)) .reset).cfl.i2c.pulses = 3 ∧
      (after .millisecondTick (after (.rstnRelease 22 none) .reset)).cfl.i2c.pulses = 100 ∧
      (after (.rstnRelease 22 none) .reset).cfl.i2c.phase = .recovering := by decide +kernel

/-- R46, R37: a restart's load recovers the bus that an abandoned transaction left held. -/
theorem test_restart_recovers :
    let u := State.restart { h15 with pins := { h15.pins with sdaHold := some 8 } }
    (u.cfl.i2c.phase, u.cfl.i2c.pulses, u.pins.sdaHold) = (.reading, 8, some 0) := by decide +kernel

/-! ### Chapter 1: the check and the link of station 15 -/

/-- R11: the check of "123456789". -/
theorem test_check : crc [0x31, 0x32, 0x33, 0x34, 0x35, 0x36, 0x37, 0x38, 0x39] = 0x29B1 := by decide +kernel

/-- 1.3, 3,000,040 µs: the first framed symbol takes the west port to SETTLING. -/
theorem test_link_settles :
    ((after (.symbolReceived .west (.framed 0xD3) 3000040) (State.setSignal .west true h15.restart)).west.link,
      (after (.symbolReceived .west (.framed 0xD3) 3000040)
        { State.setSignal .west true h15 with west := .reset }).west.settleStart) = (.up, some 3000040) := by decide +kernel

/-- 1.3, 3,140,000 µs: 100,000 µs after the settle start the port is UP; not one microsecond before. -/
theorem test_link_up :
    let s := { h15 with west := { Port.reset with link := .settling, settleStart := some 3040000 } }
    (after (.linkUp .west 3139999) s).west.link = .settling ∧ (after (.linkUp .west 3140000) s).west.lastUp = some 3140000 := by
  decide +kernel

/-- 1.3, 9,812,345 µs: the cut empties a forward queue of two frames into the relay drops. -/
theorem test_cut_drops_forwards :
    let u := after (.signalDetectChange .west false 9812345) { h15 with west := { upPort with fwd := [sample, sample] } }
    (u.west.link, u.west.lastDown, u.rly.relayDrops, u.nbv.west.cutOff) = (.down, some 9812345, 2, true) := by decide +kernel

/-- 1.3: without symbols the port enters DOWN 1000 µs after the last good one. -/
theorem test_silence :
    (after (.silenceExpiry .east 999) h15).east.link = .up ∧ (after (.silenceExpiry .east 1000) h15).east.link = .down := by
  decide +kernel

/-- R9: the mark comes more than 2,000,000 µs beyond the last down stamp. -/
theorem test_aged :
    let s := { h15 with west := { Port.reset with lastDown := some 5 } }
    (after (.agedMark .west 2000005) s).west.aged = false ∧ (after (.agedMark .west 2000006) s).west.aged = true := by decide +kernel

/-- R12, R15, R18, R19: a broadcast request with hops_done 63 is forwarded with it saturated, and delivered. -/
theorem test_relay :
    let u := after (.receivedFrame (arrived .west sample.bytes)) h15
    u.east.fwd = [{ sample with hopsLeft := 19 }] ∧ u.rqh.deliveries = [{ head := { rqAll with tag := 0xD3 }, body := [17] }] := by
  decide +kernel

/-- R12: one changed bit is malformed, once. -/
theorem test_malformed :
    let u := after (.receivedFrame (arrived .west (sample.bytes.set 9 0xD2))) h15
    (u.rly.malformed, u.east.fwd) = (1, []) := by decide +kernel

/-! ### Chapter 2: steps 5 and 14 of the worked sequence -/

/-- Step 5: the last mark of a STATE entry is granted, the marker FORWARD giving the local source its turn. -/
theorem test_grant_state :
    let e : Entry := { item := .state, west := true, east := false, prompted := false }
    let u := after (.transmitDone .west 7) { h15 with west := { upPort with tx := some sample, fwd := [sample], marker := .forward }, snq := [e] }
    (u.snq, u.west.marker, u.west.fwd.length, u.west.tx.map (·.kind)) = ([], .locally, 1, some .state) := by decide +kernel

/-- Step 8: with the marker LOCAL the forward source is granted. -/
theorem test_grant_forward :
    let e : Entry := { item := .state, west := true, east := false, prompted := false }
    let u := after (.grantAtSymbolBoundary .west 7) { h15 with west := { upPort with fwd := [sample] }, snq := [e] }
    (u.snq, u.west.marker, u.west.tx) = ([e], .forward, some sample) := by decide +kernel

/-! ### Chapter 3: start -/

/-- R42: station 1 defaults to no west neighbour and P0 LOCAL, and waits in RUNNING. -/
theorem test_defaults_at_station_1 :
    ((hut 1).cfl.phase, (hut 1).settings.west, (hut 1).settings.east, (hut 1).kind 0, (hut 1).kind 1) =
      (.running, 0, 2, .localPath, .span) := by decide +kernel

/-- R44: a strap value of 61 gives REPEATER_ONLY. -/
theorem test_no_station : (after .loadTimerExpiry { loading 61 with cfl := { (loading 61).cfl with loadTimer := .due } }).cfl.phase =
    .repeaterOnly := by decide +kernel

/-- R35, R36: reset and release. -/
theorem test_release : ((after (.powerOnReset 22) h15).cfl.strap, (loading 22).cfl.loadTimer, (loading 22).plg.count[(2 : Fin 4)]) =
    (22, .running 50, 32) := by decide +kernel

/-- R1: a millisecond tick counts the load timer down. -/
theorem test_tick : (after .millisecondTick (loading 22)).cfl.loadTimer = .running 49 := by decide +kernel

/-- R171: the default record of path p with a kind code, and the bytes before it, of the image of station 22's defaults. -/
def record (p kind : Nat) : List Byte :=
  [BitVec.ofNat 8 (16 * p + kind), 0x01, 0x90, 0, 100, 0x04, 0xB0, 0x0F, 0x3C, 16, 0x01, 0x90, 0x0D, 0xAC, 0, 100, 0, 50]
def front1 : List Byte :=
  [0x62, 139, 21, 23, 63, 5, 0, 30, 0, 250, 0, 15, 8, 0, 100, 0, 50, 0x0A, 0x28, 0, 120, 0, 0, 0, 0, 0x0B, 0xB8, 0, 60] ++ record 0 0
def front2 : List Byte := record 1 0 ++ record 2 0

/-- An image of station 22: the kind of path 3, the record of L0, and the check. -/
def image22 (kind : Nat) (line0 check : List Byte) : List Byte :=
  front1 ++ (front2 ++ (record 3 kind ++ line0 ++ (List.replicate 11 [0, 13, 0xFF]).flatten ++ check))

/-- The default image; one with P3 LOCAL and L0 a POWER_GOOD line; one with kind code 3; one whose FAN line L0 names the IN line L1. -/
def imageDefault : List Byte := image22 0 [0, 13, 0xFF] [0x6F, 0xB4]
def imageLocal : List Byte := image22 1 [4, 0, 0] [0xE2, 0x2C]
def imageKind3 : List Byte := image22 3 [0, 13, 0xFF] [0xDB, 0x3C]
def imageFan : List Byte := image22 0 [2, 0, 1] [0x15, 0xE8]

/-- The check register over the bytes that the images share. -/
theorem crc_image22 (kind : Nat) (line0 check : List Byte) :
    crc (image22 kind line0 check) =
      (record 3 kind ++ line0 ++ (List.replicate 11 [0, 13, 0xFF]).flatten ++ check).foldl crcByte 0xEBFB := by
  have h1 : front1.foldl crcByte 0xFFFF = 0x615C := by decide +kernel
  have h2 : front2.foldl crcByte 0x615C = 0xEBFB := by decide +kernel
  rw [crc, image22, List.foldl_append, List.foldl_append, h1, h2]

theorem crc_imageDefault : crc imageDefault = 0 := by rw [imageDefault, crc_image22]; decide +kernel
theorem crc_imageLocal : crc imageLocal = 0 := by rw [imageLocal, crc_image22]; decide +kernel
theorem crc_imageKind3 : crc imageKind3 = 0 := by rw [imageKind3, crc_image22]; decide +kernel
theorem crc_imageFan : crc imageFan = 0 := by rw [imageFan, crc_image22]; decide +kernel

/-- R40, R171: it holds station 22's defaults. -/
theorem test_image_layout : readFields imageDefault = some (defaultSettings (some 22)) ∧
    (defaultSettings (some 22)).fields = imageDefault.take 137 := by decide +kernel

/-- R39, R42: the default image is adopted; the fourth is not. -/
theorem test_image_judged :
    (judgeImage (some 22) imageDefault).1 = .loaded ∧ (judgeImage (some 22) imageFan).2.1 = .badField := by
  constructor
  · have h : crc imageDefault = 0 := crc_imageDefault
    have r : readFields imageDefault = some (defaultSettings (some 22)) := test_image_layout.1
    have c : consistent (defaultSettings (some 22)) = true := by decide +kernel
    simp [judgeImage, h, r, c]
  · have h : crc imageFan = 0 := crc_imageFan
    have r : (readFields imageFan).map consistent = some false := by decide +kernel
    obtain ⟨e, he, hc⟩ := Option.map_eq_some_iff.mp r
    simp [judgeImage, h, he, hc]

/-! ### Chapters 4, 5 and 7: blocks -/

/-- R73: a STARTING lane runs from the block start. -/
theorem test_block_start : (after .blockStart { h15 with smp := { h15.smp with block := .startDue } }).tcr[(0 : Fin 16)].state = .running := by
  decide +kernel

/-- 5, one block on bin 256, samples 0 and 2: 2040 × 2047 and 1960 × −2047. -/
theorem test_accumulate :
    let l : Lane := { Lane.reset 8 with state := .running, bin := some 256, channel := 5 }
    (l.accumulate 5 2040).x = 4175880 ∧ ({ l with phase := 512 }.accumulate 5 1960).x = -4012120 := by decide +kernel

/-- 5: X 41,922,560 gives Pt 408,321; the tone half a period later 409,600. -/
theorem test_tone_power : tonePower 41922560 0 = 408321 ∧ tonePower (-41922560) 0 = 409600 := by decide +kernel

/-- 5, fill arriving: 64,000 holds a present lane and does not make one present. -/
theorem test_hysteresis : presentAfter true 64000 100 50 = true ∧ presentAfter false 64000 100 50 = false := by decide +kernel

/-- R100: the sixteenth sample below 400 trips the path, at its own stamp. -/
theorem test_trip :
    let u := after (.tapSample 0 399 77) (withPath h15 0 fun r => { r with input := .ok, lossRun := 15 })
    (u.pmn[(0 : Fin 4)].input, u.pmn[(0 : Fin 4)].lossStamp, u.vde[(0 : Fin 4)].verdict) = (.loss, some 77, .watch) := by decide +kernel

/-- R129: an entry to DOWN taken first, at 87, and stamped after the tripping sample, at 77: the same SPAN_FAULT, LINE_CUT, and the hut
clock and the timers stand. -/
theorem test_stamp_behind_clock :
    let s := after (.signalDetectChange .west false 87) (withPath h15 0 fun r => { r with input := .ok, lossRun := 15 })
    let u := after (.tapSample 0 399 77) s
    (u.vde[(0 : Fin 4)].verdict, u.vde[(0 : Fin 4)].evidence, u.vde[(0 : Fin 4)].lossStamp) = (.spanFault, .lineCut, some 77) ∧
      u.clk = s.clk ∧ u.clk.hut = 87 ∧ u.nbv.west.staleTimer = s.nbv.west.staleTimer := by decide +kernel

/-- R49, R51: a tap out of its slot gives no sample, and slot 8 of cycle 1023 makes the block's end due. -/
theorem test_slots :
    (after (.tapSample 1 4095 7) h15).pmn[(1 : Fin 4)].inSum = 0 ∧
      (after (.tapSample 1 4095 7) (atSlot 0 1 h15)).pmn[(1 : Fin 4)].inSum = 4095 ∧
      (after (.sharedSlot 0 7) (atSlot 1023 8 h15)).smp.block = .endDue ∧
      (after (.sharedSlot 0 7) (atSlot 1022 8 h15)).smp.cycle = 1023 := by decide +kernel

/-- R98, R101: a sum of 1,400,832 is a mean of 1368, OK from UNKNOWN. -/
theorem test_block_end :
    let u := after (.blockEnd false 9) (withPath (blockDone h15) 1 fun r => { r with inSum := 1400832 })
    (u.pmn[(1 : Fin 4)].inMean, u.pmn[(1 : Fin 4)].input) = (some 1368, .ok) := by decide +kernel

/-- 4, forming a reading: 83,216 over 32 is 2600, which meets the hot limit of R148. -/
theorem test_reading :
    let s := { h15 with smp := { h15.smp with slot := 8, slowPtr := 5, slowSum := h15.smp.slowSum.set 5 80614, slowCnt := h15.smp.slowCnt.set 5 31 } }
    let u := after (.sharedSlot 2602 9) s
    (u.smp.readings[(5 : Fin 10)], u.smp.slowPtr, u.stu.hot) = (some 2600, 6, true) ∧
      (after (.sharedSlot 2569 9) s).smp.readings[(5 : Fin 10)] = some 2599 := by decide +kernel

/-- R52, R58: a probe of AIN14 is served before the slow channel. -/
theorem test_probe_served :
    let u := after (.sharedSlot 0x0ABC 9) (atSlot 0 8 (after (.probe rq0 [14] 3) h15))
    (answer u, u.smp.slowPtr) = ([0, 19, 14, 0x0A, 0xBC, 0, 0, 0, 9], 0) := by decide +kernel

/-! ### Chapter 6: pilots and the test tone -/

/-- 6, one output with pilot and test tone, steps 1 to 3. -/
theorem test_step_counts :
    let o : Osc := { Osc.reset with on := true, inStep := true }
    let g : Ttg := { Ttg.free with held := true, path := some 0, bin := some 256 }
    stepCount 0 { o with phase := 148 } { g with phase := 256 } = 61 ∧ stepCount 0 { o with phase := 296 } { g with phase := 512 } = 48 ∧
      stepCount 0 { o with phase := 444 } { g with phase := 768 } = 22 := by decide +kernel

/-- R84, R87: station 15's pilot advances by 148 in NORMAL and by 151 in FILL. -/
theorem test_pilot_step :
    let s := fun m => { h15 with plg := { h15.plg with osc := upd h15.plg.osc 0 fun o => { o with inStep := true, mode := m, phase := 148 } } }
    ((after .pilotStep (s .normal)).plg.osc[(0 : Fin 4)].phase, (after .pilotStep (s .fill)).plg.osc[(0 : Fin 4)].phase) = (296, 299) := by
  decide +kernel

/-- 6, a claim contested, steps 2, 3 and 4: bin 298 is in the pilot plan; bin 300 is held; station 40 is told of it. -/
theorem test_claims :
    answer (after (.genClaim rq0 [0, 1, 42, 0, 60] 0) h15) = [2, 22] ∧
      answer (after (.genClaim { rq0 with requester := 40 } [2, 1, 0xF4, 2, 88] 0) (after (.genClaim rq0 [0, 1, 44, 0, 60] 0) h15)) =
        [1, 22, 0, 0, 60] := by decide +kernel

/-- 6, a claim contested, steps 5 and 8. -/
theorem test_releases :
    answer (after (.genRelease rq0 [] 0) h15) = [6, 23] ∧
      answer (after (.genRelease { rq0 with requester := 40 } [] 0) (after (.genClaim rq0 [0, 1, 44, 0, 60] 0) h15)) = [5, 23] := by
  decide +kernel

/-! ### Chapter 5: lending the pool, steps 1, 2, 10 and 13 -/

/-- Steps 1 and 2: a single watch takes lane 8, and then a pair 10 and 11. -/
theorem test_pool :
    let u := after (.toneWatch { rq0 with requester := 40 } [0, 0, 148, 0, 151, 2, 1, 44] 0) (after (.toneWatch rq0 [1, 0, 190, 2, 88] 0) (hut 22))
    (answer u, u.poolInUse, u.tcr[(11 : Fin 16)].partner) = ([0, 20, 10], 3, some 10) := by decide +kernel

/-- Steps 10 and 13: the odd lane names its pair; a FREE lane is not held. -/
theorem test_drop :
    let s := after (.toneWatch rq0 [0, 0, 148, 0, 151, 2, 1, 44] 0) (hut 22)
    (after (.toneDrop rq0 [9] 0) s).poolInUse = 0 ∧ answer (after (.toneDrop rq0 [12] 0) s) = [6, 21] := by decide +kernel

/-! ### Chapters 8 and 9: neighbours and verdicts -/

/-- A PATH0 notice of station 14: verdict CLEAR, output-low, fed by 0. -/
def pathNotice : Delivery :=
  { side := .west, origin := 14, hopsDone := 0, kind := .notice, stamp := 0, body := [0, 1, 0, 4, 1, 0] ++ List.replicate 9 0 }

/-- R120, R131: it decides a WATCH of P0 as UPSTREAM_TX. -/
theorem test_evidence :
    let s := withVerdict h15 0 fun r => { r with verdict := .watch, window := .running 9 }
    (after (.neighbourFrame pathNotice 5) s).vde[(0 : Fin 4)].verdict = .upstreamTx := by decide +kernel

/-- R117, R132, R136: the timers of the records. -/
theorem test_record_timers :
    (after (.staleExpiry .west) { h15 with nbv := { h15.nbv with west := { h15.nbv.west with staleTimer := .due } } }).nbv.west.stale = true ∧
      (after (.windowExpiry 0) (withVerdict h15 0 fun r => { r with verdict := .watch, window := .due })).vde[(0 : Fin 4)].verdict =
        .unresolved ∧
      (after (.holdOffExpiry 0) (withLane (withVerdict h15 0 fun r => { r with verdict := .restoring, holdOff := .due }) 1
        fun l => { l with present := true })).vde[(0 : Fin 4)].verdict = .sympathetic := by decide +kernel

/-- R70, R94, R157: a watch, a claim and the STATE period run out. -/
theorem test_periods :
    let w : WatchTime := { secs := 1, tick := 999, due := false }
    let s := after (.toneWatch rq0 [1, 0, 190, 2, 88] 0) (after (.genClaim rq0 [0, 1, 44, 0, 60] 0) h15)
    let s := after .millisecondTick
      { withLane s 8 fun l => { l with remaining := some w } with ttg := { s.ttg with time := w }, stateTimer := .running 1 }
    (after (.watchExpiry 8) s).poolInUse = 0 ∧ (after .testExpiry s).ttg = .free ∧ (after .statePeriodExpiry s).stateTimer = .running 5000 := by
  decide +kernel

/-! ### Chapter 10: lines -/

/-- Station 15 with L0 a TACHO, L1 a FAN paired with it, L2 a POWER_GOOD line HIGH and L3 an ALARM line. -/
def lined : State :=
  let s := withLine h15 0 fun r => { r with fn := .tacho, trigger := .none, report := false }
  let s := withLine s 1 fun r => { r with fn := .fan, trigger := .none, report := false, paired := some 0 }
  let s := withLine s 2 fun r => { r with fn := .powerGood, trigger := .none, report := false, level := true }
  withLine s 3 fun r => { r with fn := .alarm, trigger := .none, report := false }

/-- R147: two rising edges 12,000 µs apart. -/
theorem test_tacho :
    let s := withLine lined 0 fun r => { r with lastEdge := some 1000 }
    (after (.hutLineChange 0 true 13000) s).stu.lines[(0 : Fin 12)].period = 12000 := by decide +kernel

/-- R152, R154: a POWER_GOOD line going LOW enters DYING, and the ALARM line goes HIGH. -/
theorem test_dying :
    let u := after (.hutLineChange 2 false 0) lined
    (u.stu.dying, u.stu.total, u.stu.lines[(3 : Fin 12)].level, u.snq.map (·.item)) = (true, 1, true, [.notice .power]) := by decide +kernel

/-- R147, R149: a stopped tacho starts the stall timer of its driven fan; 5000 ms later FAN_STALL is set. -/
theorem test_stall :
    let s := withLine (withLine lined 1 fun r => { r with level := true, requested := true }) 0 fun r => { r with period := 9, edgeTimer := .due }
    let u := after (.edgeTimerExpiry 0) s
    u.stu.lines[(1 : Fin 12)].stallTimer = .running 5000 ∧
      (after (.stallTimerExpiry 1) (withLine u 1 fun r => { r with stallTimer := .due })).stu.lines[(1 : Fin 12)].fanStall = true := by
  decide +kernel

/-- R146: LINES_SET of L1 and L3 drives the fan and passes the ALARM line over; LINES_CLEAR drives it LOW again. -/
theorem test_lines_set :
    let u := after (.linesSet rq0 [0, 10] 0) lined
    answer u = [0, 24, 0, 4, 0, 2] ∧ answer (after (.linesClear rq0 [0, 2] 0) u) = [0, 25, 0, 6, 0, 2] := by decide +kernel

/-- R145: LINES_ACK answers the flags it found and clears those of edge triggers. -/
theorem test_lines_ack :
    let u := after (.linesAck rq0 [0, 0x30] 0) (withLine (withLine lined 4 fun r => { r with flag := true }) 5
      fun r => { r with flag := true, trigger := .low })
    (answer u, u.stu.lines[(4 : Fin 12)].flag, u.stu.lines[(5 : Fin 12)].flag) = ([0, 26, 0, 0x30], false, true) := by decide +kernel

/-! ### Chapter 11: six slots, steps 1, 4, 5 and 6, and 12.4 -/

theorem test_unknown_request : answer (after (.unknownRequest rq0 [15, 2] 0) h15) = [9, 15] := by decide +kernel
theorem test_restart_broadcast : answer (after (.restartRequest rqAll [] 0) h15) = [7, 28] := by decide +kernel
theorem test_recheck_path_7 : answer (after (.recheck rq0 [7] 0) h15) = [2, 27] := by decide +kernel

/-- 12.4: the lengths of the query answers. -/
theorem test_query_lengths :
    ([.queryPath rq0 [3] 0, .querySite rq0 [] 0, .queryLane rq0 [15] 0, .queryNeighbour rq0 [1] 0].map fun c => (answer (after c h15)).length) =
      [39, 40, 21, 32] := by decide +kernel

/-- R46, R167: the restart is taken when the RESTART answer leaves. -/
theorem test_restart :
    let s := { h15 with snq := [], east := .reset, nbv := { h15.nbv with east := { h15.nbv.east with cutOff := true } } }
    let u := after (.grantAtSymbolBoundary .west 8) (after (.restartRequest rq0 [] 0) s)
    (u.cfl.phase, u.cfl.loadTimer, u.west.tx.map (·.body), u.vde[(0 : Fin 4)].verdict) = (.loading, .running 50, some [0, 28], .pending) := by
  decide +kernel

/-! ### States that meet the hypotheses of the statements, clause by clause -/

/-- The premise `s = s₀.moment t` of the statements on commands that carry a stamp: every state whose clock has passed no tick is its own
at its hut clock. Where a hypothesis speaks of another stamp t, the witness is a state at t. -/
theorem witness_moment (s : State) (h : s.clk.sinceTick ≤ 1000) (hp : s.cfl.i2c.sincePulse < 10) : s = s.moment s.clk.hut :=
  (State.moment_now s h hp).symm

/-- A part held in reset, one in LOADING with its load timer due, and one in LOADING with both ports UP. -/
def loadDue : State := { loading 22 with cfl := { (loading 22).cfl with loadTimer := .due } }
def loadUp : State := { loading 22 with west := upPort, east := upPort }

theorem witness_StepTakesFrontCommandOrMicrosecond :
    ({ h15 with pending := [.blockStart, .pilotStep] } : State).pending = .blockStart :: [.pilotStep] ∧ h15.pending = [] ∧
      h15.awake = true ∧ h15.clk.sinceTick < 999 ∧ h15.cfl.i2c.sincePulse < 10 ∧ (h15.moment 999).clk.sinceTick = 999 ∧
      (h15.moment 999).pending = [] ∧ (h15.moment 1000).clk.sinceTick = 1000 ∧ State.reset.awake = false ∧ State.reset.pending = [] := by decide +kernel
theorem witness_PowerOnResetHoldsThePart : ∀ b h, (Instr.pilotStep ≠ .powerOnReset b) ∧ (Instr.pilotStep ≠ .rstnRelease b h) := by
  intro b h; exact ⟨nofun, nofun⟩
theorem witness_ReleaseBeginsLoad : State.reset.awake = false := by decide +kernel
theorem witness_LoadFailureTakesDefaults :
    loadDue.awake = true ∧ loadDue.cfl.phase = .loading ∧ loadDue.cfl.loadTimer = .due ∧ loadDue.cfl.i2c.phase = .reading ∧
      (after (.rstnRelease 22 none) .reset).cfl.i2c.phase = .recovering := by decide +kernel

theorem witness_ImageJudgedAndAdopted :
    (loading 22).awake = true ∧ (loading 22).cfl.phase = .loading ∧ (loading 22).cfl.i2c.phase = .reading ∧ imageDefault.length = 139 ∧ crc imageDefault = 0 ∧
      readFields imageDefault = some (defaultSettings (some 22)) ∧ consistent (defaultSettings (some 22)) = true :=
  ⟨by decide +kernel, by decide +kernel, by decide +kernel, by decide +kernel, crc_imageDefault, test_image_layout.1, by decide +kernel⟩
theorem witness_ImageJudgedAndAdopted_badCheck :
    (image22 0 [0, 13, 0xFF] [0x6F, 0xB5]).length = 139 ∧ crc (image22 0 [0, 13, 0xFF] [0x6F, 0xB5]) ≠ 0 :=
  ⟨by decide +kernel, by rw [crc_image22]; decide +kernel⟩
theorem witness_ImageJudgedAndAdopted_badFormat :
    ([0xFF, 0xFF] ++ List.replicate 137 (0 : Byte)).length = 139 ∧ crc ([0xFF, 0xFF] ++ List.replicate 137 0) = 0 ∧
      ([0xFF, 0xFF] ++ List.replicate 137 (0 : Byte)).getD 0 0 ≠ 0x62 := by
  refine ⟨by decide +kernel, ?_, by decide +kernel⟩
  have hz : ∀ n, (List.replicate n (0 : Byte)).foldl crcByte 0 = 0 := by
    intro n
    induction n with
    | zero => rfl
    | succ n ih => rw [List.replicate_succ, List.foldl_cons, (by decide +kernel : crcByte 0 0 = 0), ih]
  rw [crc, List.foldl_append, (by decide +kernel : List.foldl crcByte 0xFFFF [0xFF, 0xFF] = 0), hz]
theorem witness_ImageJudgedAndAdopted_badField :
    imageKind3.length = 139 ∧ crc imageKind3 = 0 ∧ readFields imageKind3 = none :=
  ⟨by decide +kernel, crc_imageKind3, by decide +kernel⟩
theorem witness_ImageJudgedAndAdopted_inconsistent :
    imageFan.length = 139 ∧ crc imageFan = 0 ∧ (readFields imageFan).map consistent = some false :=
  ⟨by decide +kernel, crc_imageFan, by decide +kernel⟩
theorem witness_ImageLayoutRoundTrip :
    (defaultSettings (some 60)).inRange ∧ consistent (defaultSettings (some 60)) = true ∧ consistent (defaultSettings none) = true := by
  unfold Settings.inRange PathSettings.inRange LineSettings.inRange
  decide +kernel
theorem witness_EntryToRunningStartsBlocks :
    loadUp.awake = true ∧ loadUp.cfl.phase = .loading ∧ loadUp.cfl.i2c.phase = .reading ∧ loadUp.station.isSome = true ∧ loadUp.tcr = lanesReset ∧
      imageDefault.length = 139 ∧ crc imageDefault = 0 ∧ readFields imageDefault = some (defaultSettings (some 22)) ∧
      consistent (defaultSettings (some 22)) = true ∧ (∀ p : Fin 4, (defaultSettings (some 22)).paths[p].kind = .span) ∧
      (∀ n : Fin 12, (defaultSettings (some 22)).lines[n].fn ≠ .powerGood) ∧ loadUp.isUp .west = true :=
  ⟨by decide +kernel, by decide +kernel, by decide +kernel, by decide +kernel, by decide +kernel, by decide +kernel, crc_imageDefault,
    test_image_layout.1, by decide +kernel, by decide +kernel, by decide +kernel, by decide +kernel⟩
theorem witness_EntryToRunningStartsBlocks_dying :
    imageLocal.length = 139 ∧ crc imageLocal = 0 ∧ (readFields imageLocal).map (fun c =>
      (consistent c, c.paths[(3 : Fin 4)].kind, c.lines[(0 : Fin 12)].fn)) = some (true, .localPath, .powerGood) ∧
      loadUp.pins.lines[(0 : Fin 12)] = false := ⟨by decide +kernel, crc_imageLocal, by decide +kernel, by decide +kernel⟩

/-- The hypotheses of ReceiveAssemblyTable and LinkSymbolTable, and both kinds of symbol. -/
theorem witness_symbols : h15.awake = true ∧ Symbol.framed 0xD3 ≠ Symbol.error := by decide +kernel
theorem witness_EntryToDownEffects :
    let s := (withVerdict h15 0 fun r => { r with verdict := .watch }).moment 1000
    s.awake = true ∧ (s.port .west).link ≠ .down ∧ s.rqh.restartPending = none ∧ (s.port .west).lastGood = some 0 ∧
      1000 ≤ (s.clk.hut - 0).toNat ∧ s.running = true ∧ s.kind 0 = .span ∧ upstreamSide 0 = .west ∧
      s.vde[(0 : Fin 4)].verdict = .watch ∧ (s.port .east).link = .up := by decide +kernel
theorem witness_SignalRiseLinkUpAndAgedMark :
    let s := State.moment { h15 with west := { Port.reset with link := .settling, settleStart := some 5, lastDown := some 5 } } 2000006
    s.awake = true ∧ (s.port .west).link = .settling ∧ (s.port .west).settleStart = some 5 ∧
      100000 ≤ (s.clk.hut - 5).toNat ∧ 100000 ≤ ((100005 : Stamp) - 5).toNat ∧ (s.port .west).lastDown = some 5 ∧ 2000000 < (s.clk.hut - 5).toNat ∧
      ((loading 22).port .east).link = .down := by decide +kernel
theorem witness_FrameRoundTrip : sample.inRange ∧ { sample with origin := 60, target := 60, hopsLeft := 63, body := List.replicate 40 0xD9 }.inRange := by
  unfold Frame.inRange; decide +kernel
theorem witness_SentFrameIsReceived :
    let sent : List (Byte × Stamp) := sample.sent.map fun b => (b, 7)
    let s := { h15 with pending := sent.map (fun (x : Byte × Stamp) => Instr.symbolReceived .west (.framed x.1) x.2) ++ [Instr.pilotStep] }
    sample.inRange ∧ s.awake = true ∧ (s.port .west).link = .up ∧ (s.port .west).assembly = .empty ∧
      sent.map (·.1) = sample.sent ∧ sent.getLast? = some (0xD3, 7) := by
  unfold Frame.inRange; decide +kernel
theorem witness_MalformedFrameCountsOnce :
    isMalformed (arrived .west (List.replicate 12 0)) ∧ ¬ isMalformed (arrived .west sample.bytes) ∧ h15.awake = true := by
  unfold isMalformed; decide +kernel
theorem witness_GoodFrameIsDecided :
    goodFrame (arrived .west sample.bytes) = some sample ∧
      goodFrame (arrived .west { sample with origin := 60 }.bytes) = some { sample with origin := 60 } ∧ (hut 60).awake = true ∧
      (hut 60).cfl.strap.toNat = 60 ∧ (hut 60).station ≠ some sample.origin.toNat ∧ (hut 60).station = some 60 := by decide +kernel

/-- A send queue with one CLIMATE entry marked east, and one with an ANSWER of slot 0 behind a STATE. -/
def queued : State := { h15 with snq := [{ item := .notice .climate, west := false, east := true, prompted := false }] }
def answering : State :=
  { h15 with
    west := { upPort with tx := some sample }
    snq := [{ item := .state, west := false, east := true, prompted := false },
            { item := .answer 0 sample, west := true, east := false, prompted := false }]
    rqh := { h15.rqh with slots := h15.rqh.slots.set 0 { Slot.reset with state := .ready } } }

theorem witness_SendQueueTakesRequest :
    queued.running = true ∧ (∃ e ∈ queued.snq, e.item = .notice .climate) ∧ (∀ e ∈ queued.snq, e.item ≠ .notice .tone) ∧
      queued.isUp .west = true ∧ queued.stu.dying = false := by decide +kernel
theorem witness_SendQueueTakesRequest_noPort :
    let s := { queued with west := .reset, east := .reset }
    s.running = true ∧ (∀ e ∈ s.snq, e.item ≠ .notice .tone) ∧ s.isUp .west = false ∧ s.isUp .east = false := by decide +kernel
theorem witness_GrantOfForwardSource :
    let s := { queued with west := { upPort with fwd := [sample], tx := some sample }, east := { upPort with fwd := [sample] } }
    s.awake = true ∧ (s.port .west).tx ≠ none ∧ (s.port .west).link = .up ∧ (s.port .west).fwd = sample :: [] ∧
      (∀ e ∈ s.snq, e.mark .west = false) ∧ (s.port .east).tx = none ∧ (s.port .east).marker = .locally ∧ s.stu.dying = false := by
  decide +kernel
theorem witness_GrantOfForwardSource_rests :
    h15.awake = true ∧ (h15.port .west).tx = none ∧ (h15.port .west).fwd = [] ∧ (∀ e ∈ queued.snq, e.mark .west = false) := by
  decide +kernel
theorem witness_GrantOfLocalSource :
    answering.awake = true ∧ (answering.port .west).tx ≠ none ∧ (answering.port .west).link = .up ∧ answering.queueSound ∧
      answering.rqh.restartPending = none ∧ (answering.port .west).fwd = [] ∧ answering.stu.dying = false ∧
      answering.snq = [{ item := .state, west := false, east := true, prompted := false }] ++
        { item := .answer 0 sample, west := true, east := false, prompted := false } :: [] := by
  unfold State.queueSound; decide +kernel
theorem witness_GrantOfLocalSource_dying :
    let s := { h15 with
      stu := { h15.stu with dying := true }
      snq := [{ item := .notice .power, west := true, east := true, prompted := false }] }
    s.awake = true ∧ (s.port .east).tx = none ∧ (s.port .east).link = .up ∧ s.queueSound ∧ s.stu.dying = true := by
  unfold State.queueSound; decide +kernel

theorem witness_BlockStartStartsLanesAndSlotsComeInOrder :
    let s := { h15 with smp := { h15.smp with block := .startDue } }
    s.running = true ∧ s.smp.scanning = true ∧ s.smp.block = .startDue ∧ h15.smp.block ≠ .startDue ∧ h15.smp.block = .inProgress ∧
      h15.smp.slot.val ≠ (7 : Fin 8).val ∧ h15.smp.slot.val ≠ 8 ∧ h15.smp.block ≠ .endDue := by decide +kernel

/-- Station 15 at slot 0 of a block's cycle 1023, P0 at the fifteenth sample of a loss run, and its lanes RUNNING. -/
def tapped : State :=
  let s := withPath (atSlot 1023 0 h15) 0 fun r => { r with input := .ok, lossRun := 15 }
  withLane (withLane s 0 fun l => { l with state := .running }) 1 fun l => { l with state := .running }

theorem witness_TapSampleAccumulates :
    tapped.running = true ∧ tapped.smp.scanning = true ∧ tapped.smp.block = .inProgress ∧ tapped.smp.slot.val = (0 : Fin 8).val ∧
      (atSlot 0 7 tapped).smp.slot.val = (7 : Fin 8).val := by decide +kernel
theorem witness_TripEntersLoss :
    tapped.kind 0 = .span ∧ (399 : Code).toNat < tapped.settings.paths[(0 : Fin 4)].loss ∧
      tapped.pmn[(0 : Fin 4)].lossRun + 1 = tapped.settings.paths[(0 : Fin 4)].lossRunLength ∧
      tapped.settings.paths[(0 : Fin 4)].lossRunLength ≤ 255 ∧ tapped.pmn[(0 : Fin 4)].input ≠ .loss ∧
      tapped.vde[(0 : Fin 4)].verdict.isLight = true ∧ (tapped.nb (upstreamSide 0)).dying = false ∧
      ¬ (tapped.port (upstreamSide 0)).recentlyDown tapped.settings.window 0 := by
  refine ⟨?_, ?_, ?_, ?_, ?_, ?_, ?_, ?_⟩
  · decide +kernel
  · decide +kernel
  · decide +kernel
  · decide +kernel
  · decide +kernel
  · decide +kernel
  · decide +kernel
  · intro h; exact absurd h.1 (by decide +kernel)
theorem witness_TripEntersLoss_lineCut :
    let s := State.moment { tapped with west := { Port.reset with lastDown := some 5 } } 250005
    s.running = true ∧ (s.nb (upstreamSide 0)).dying = false ∧ (s.port (upstreamSide 0)).recentlyDown s.settings.window 250005 :=
  ⟨by decide +kernel, by decide +kernel, by decide +kernel, by decide +kernel, 5, by decide +kernel, by decide +kernel⟩
theorem witness_TripEntersLoss_dying_restoring_local :
    let s := { tapped with nbv := { tapped.nbv with west := { tapped.nbv.west with dying := true } } }
    let r := withVerdict tapped 0 fun v => { v with verdict := .restoring, cause := some .watch }
    let l := withPath (hut 1) 0 fun r => { r with input := .ok, lossRun := 15 }
    (s.nb (upstreamSide 0)).dying = true ∧ r.vde[(0 : Fin 4)].verdict = .restoring ∧ r.vde[(0 : Fin 4)].cause = some .watch ∧
      l.running = true ∧ l.kind 0 = .localPath ∧ l.pmn[(0 : Fin 4)].input ≠ .loss := by decide +kernel
theorem witness_TablesRoundSinesAndConstantInputAddsNothing :
    let l : Lane := { Lane.reset 8 with state := .running, bin := some 511 }
    l.state = .running ∧ l.phase = 0 ∧ l.bin = some 511 := by decide +kernel
/-- R129's second case: the sample stamped 250,000 µs before the entry to DOWN, with the hut clock at that entry. -/
theorem witness_TripEntersLoss_stampedBefore :
    let s₀ := State.moment { tapped with west := { Port.reset with lastDown := some 250005 } } 250005
    let s := s₀.moment 5
    s.clk.hut = 250005 ∧ s.running = true ∧ (s.nb (upstreamSide 0)).dying = false ∧
      (s.port (upstreamSide 0)).recentlyDown s.settings.window 5 :=
  ⟨by decide +kernel, by decide +kernel, by decide +kernel, by decide +kernel, by decide +kernel, 250005, by decide +kernel,
    by decide +kernel⟩
/-- The hypotheses of BlockEndEvaluatesLanes and BlockEndJudgesPaths. -/
theorem witness_BlockEnd :
    (blockDone tapped).running = true ∧ (blockDone tapped).smp.scanning = true ∧ (blockDone tapped).smp.block = .endDue ∧
      tapped.tcr[(0 : Fin 16)].state = .running ∧ tapped.isUp .west = true ∧ tapped.tcr[(8 : Fin 16)].state ≠ .running ∧ tapped.pmn[(1 : Fin 4)].input = .unknown ∧ tapped.pmn[(0 : Fin 4)].input = .ok := by
  decide +kernel
/-- BlockEndEvaluatesLanes: an even lane of a pair. -/
theorem witness_BlockEnd_pair :
    let s := after (.toneWatch rq0 [0, 0, 148, 0, 151, 2, 1, 44] 0) (hut 22)
    let s := withLane (withLane s 8 fun l => { l with state := .running }) 9 fun l => { l with state := .running }
    s.tcr[(8 : Fin 16)].partner = some 9 ∧ s.tcr[(8 : Fin 16)].combine = some .xor ∧ s.tcr[(8 : Fin 16)].state = .running := by
  decide +kernel
theorem witness_LaneResultJudgesLight :
    tapped.kind 0 = .span ∧ tapped.tcr[normalLane 0].state = .running ∧ tapped.tcr[fillLane 0].state = .running ∧
      tapped.pmn[(0 : Fin 4)].input ≠ .loss ∧ tapped.pmn[(0 : Fin 4)].input ≠ .unknown ∧
      tapped.vde[(0 : Fin 4)].verdict.isLight = true ∧ (blockDone tapped).smp.block = .endDue := by decide +kernel
/-- First judged at this block end with a mean at the loss threshold and one code below it, and a WATCH in LOSS that is restored or not. -/
theorem witness_LaneResultJudgesLight_first_and_loss :
    let s := fun sum => withPath tapped 0 fun r => { r with input := .unknown, inSum := sum }
    let l := fun run => withVerdict (withPath tapped 0 fun r => { r with input := .loss, lossAtStart := true, lossRun := run, inSum := 512000 }) 0
      fun v => { v with verdict := .watch }
    (s 409600).vde[(0 : Fin 4)].verdict = .pending ∧ (s 409600).pmn[(0 : Fin 4)].input = .unknown ∧
      (s 409600).settings.paths[(0 : Fin 4)].loss ≤ (s 409600).pmn[(0 : Fin 4)].inSum / 1024 ∧
      (s 409599).pmn[(0 : Fin 4)].inSum / 1024 < (s 409599).settings.paths[(0 : Fin 4)].loss ∧
      ((s 409599).nb (upstreamSide 0)).dying = false ∧ ((s 409599).port (upstreamSide 0)).link ≠ .down ∧
      (l 16).pmn[(0 : Fin 4)].input = .loss ∧ (l 16).vde[(0 : Fin 4)].verdict.isLoss = true ∧
      (after (.blockEnd true 0) (blockDone (l 16))).pmn[(0 : Fin 4)].input = .loss ∧
      (after (.blockEnd true 0) (blockDone (l 15))).pmn[(0 : Fin 4)].input ≠ .loss := by decide +kernel
theorem witness_RestoreMovesToRestoring :
    let s := withVerdict (withPath (blockDone h15) 0 fun r => { r with input := .loss, lossAtStart := true, lossRun := 15, inSum := 512000 }) 0
      fun v => { v with verdict := .unresolved }
    s.running = true ∧ s.smp.scanning = true ∧ s.smp.block = .endDue ∧ s.kind 0 = .span ∧ s.vde[(0 : Fin 4)].verdict.isLoss = true ∧
      s.pmn[(0 : Fin 4)].input = .loss ∧ s.pmn[(0 : Fin 4)].lossAtStart = true ∧
      s.pmn[(0 : Fin 4)].lossRun < s.settings.paths[(0 : Fin 4)].lossRunLength ∧
      s.settings.paths[(0 : Fin 4)].loss + s.settings.paths[(0 : Fin 4)].restoreMargin ≤ s.pmn[(0 : Fin 4)].inSum / 1024 := by
  decide +kernel

/-- Station 15 at a shared slot, with the slow pointer at a channel that has 31 conversions. -/
def slow (i : Fin 10) : State :=
  { h15 with smp := { h15.smp with slot := 8, slowPtr := i, slowCnt := h15.smp.slowCnt.set i.val 31 i.isLt } }

theorem witness_SharedSlotConverts :
    let s := atSlot 1023 8 h15
    s.running = true ∧ s.smp.scanning = true ∧ s.smp.block = .inProgress ∧ s.smp.slot = 8 ∧ s.smp.probes = [] ∧
      s.smp.slowCnt[s.smp.slowPtr] < 31 ∧ (slow 4).smp.slowCnt[(slow 4).smp.slowPtr] = 31 := by decide +kernel
theorem witness_SharedSlotConverts_probe :
    let s := atSlot 0 8 (after (.probe rq0 [17] 3) h15)
    s.running = true ∧ s.smp.scanning = true ∧ s.smp.block = .inProgress ∧ s.smp.slot = 8 ∧ s.rqh.restartPending ≠ some 0 ∧ s.smp.probes = { channel := 17, slot := 0 } :: [] ∧
      s.rqh.slots[(0 : Fin 6)].request = some 19 ∧ s.isUp .west = true := by decide +kernel
/-- The hypotheses of BiasReadingJudgesFlag (the first state) and SiteReadingsJudged (all of them). -/
theorem witness_readings :
    (slow 3).running = true ∧ (slow 3).smp.scanning = true ∧ (slow 3).smp.block = .inProgress ∧ (slow 3).smp.slot = 8 ∧ (slow 3).smp.probes = [] ∧
      [slow 3, slow 4, slow 5, slow 6, slow 9].map (fun s => (s.smp.slowPtr.val, s.smp.slowCnt[s.smp.slowPtr])) =
        [(3, 31), (4, 31), (5, 31), (6, 31), (9, 31)] := by decide +kernel
theorem witness_PilotStepAdvances :
    h15.awake = true ∧ h15.station = some 15 ∧ (loading 61).awake = true ∧ (loading 61).station = none ∧
      (∀ p : Fin 4, (loading 61).plg.osc[p].on = false) ∧ (loading 61).ttg.held = false := by decide +kernel
theorem witness_MillisecondTickPacesTimers : h15.awake = true ∧ ({ h15 with clk := { h15.clk with sinceTick := 1000 } } : State).clk.sinceTick ≤ 1000 ∧
    2 ^ 31 ≤ ((0x80000000 : Stamp) - h15.clk.hut).toNat ∧ ((0x7FFFFFFF : Stamp) - h15.clk.hut).toNat < 2 ^ 31 := by decide +kernel

/-- A STATE of station 14, composed there. -/
def stateOf14 : Delivery := { side := .west, origin := 14, hopsDone := 0, kind := .state, stamp := 0, body := (hut 14).stateBody }

theorem witness_UnusedFrameSetsAtMostMismatch :
    h15.running = true ∧ pathNotice.hopsDone = 0 ∧ ({ pathNotice with origin := 13 } : Delivery).origin.toNat ≠ (h15.nb .west).station ∧
      pathNotice.origin.toNat = (h15.nb .west).station ∧ stateOf14.body.length = 23 ∧
      readStateBody (stateOf14.body.take 22) = none ∧ readStateBody (stateOf14.body.set 2 0xC0) = none ∧
      readNoticeBody (pathNotice.body.set 1 11) = none ∧ readNoticeBody [4, 2, 0, 0] = none ∧ readNoticeBody [9] = none ∧
      readNoticeBody [5, 0, 0, 0, 0, 0] = some .other ∧ ((hut 1).nb .west).station = 0 := by decide +kernel
theorem witness_StateFrameUpdatesRecord :
    let s := withVerdict h15 0 fun r => { r with verdict := .watch }
    s.running = true ∧ stateOf14.kind = .state ∧ (s.nb .west).station ≠ 0 ∧ stateOf14.origin.toNat = (s.nb .west).station ∧
      (readStateBody stateOf14.body).isSome = true ∧ s.kind 0 = .span ∧ upstreamSide 0 = .west ∧
      s.vde[(0 : Fin 4)].verdict = .watch := by decide +kernel
/-- A path decided, an UNRESOLVED one whose feeding path's output is reported low, and one that is not. -/
theorem witness_StateFrameUpdatesRecord_decided :
    let s := withVerdict h15 0 fun r => { r with verdict := .unresolved }
    let d := { stateOf14 with body := (withPath (hut 14) 0 fun r => { r with outputLow := true }).stateBody }
    s.running = true ∧ (readStateBody d.body).map (fun m => m[s.settings.paths[(0 : Fin 4)].upstream].outputLow) = some (some true) ∧
      s.vde[(0 : Fin 4)].verdict = .unresolved ∧ s.isUp .west = true ∧ s.vde[(2 : Fin 4)].verdict = .pending := by decide +kernel
theorem witness_StateAndNoticeBodiesCarryTheRecords : h15.cfl.outcome = some .defaulted ∧ h15.cfl.reason = some .noMemory := by decide +kernel
theorem witness_PathNoticeUpdatesSummary :
    let d := { pathNotice with body := [0, 4, 0, 4, 4, 2] ++ List.replicate 9 0 }
    let s := withVerdict h15 0 fun r => { r with verdict := .unresolved }
    s.running = true ∧ d.kind = .notice ∧ (s.nb .west).station ≠ 0 ∧ d.origin.toNat = (s.nb .west).station ∧
      readNoticeBody d.body = some (.path
        { path := 0, verdict := .watch, input := .loss, outputLow := true, pilot := .normal, prompted := false, fedBy := 2 }) ∧
      s.settings.paths[(0 : Fin 4)].upstream = 0 ∧ s.vde[(0 : Fin 4)].verdict = .unresolved ∧
      downstreamSide 1 = .west ∧ s.kind 1 ≠ .unused ∧ s.isUp .west = true := by decide +kernel
theorem witness_PowerNoticeSetsDying :
    let d := { pathNotice with body := [4, 1, 0xFF, 0xFF] }
    let s := withVerdict h15 2 fun r => { r with verdict := .watch }
    s.running = true ∧ d.kind = .notice ∧ d.origin.toNat = (s.nb .west).station ∧ d.body.length = 4 ∧ d.body.getD 0 0 = 4 ∧
      d.body.getD 1 0 = (if true then 1 else 0) ∧ (s.nb .west).dying = false ∧ s.vde[(2 : Fin 4)].verdict = .watch := by decide +kernel
theorem witness_VerdictTimersRunOut :
    let s := withVerdict (withVerdict h15 0 fun r => { r with verdict := .watch, window := .due }) 1
      fun r => { r with verdict := .restoring, holdOff := .due }
    s.running = true ∧ s.vde[(0 : Fin 4)].verdict = .watch ∧ s.vde[(0 : Fin 4)].window = .due ∧
      s.vde[(1 : Fin 4)].verdict = .restoring ∧ s.vde[(1 : Fin 4)].holdOff = .due := by decide +kernel
theorem witness_WatchAndClaimExpire :
    let w : WatchTime := { secs := 1, tick := 999, due := true }
    let s := withLane h15 15 fun l => { l with remaining := some w }
    let s := { s with ttg := { s.ttg with held := true, time := w } }
    s.running = true ∧ s.tcr[(15 : Fin 16)].remaining = some w ∧ w.due = true ∧ s.ttg.held = true ∧ s.ttg.time.due = true := by
  decide +kernel
theorem witness_InputLineTakesLevel :
    (lined.siteSound ∧ (loading 22).siteSound) ∧ lined.running = true ∧ lined.stu.lines[(11 : Fin 12)].fn = .inp ∧
      lined.stu.lines[(1 : Fin 12)].fn = .fan ∧ (loading 22).awake = true ∧ (loading 22).running = false := by
  refine ⟨?_, by decide +kernel⟩
  unfold State.siteSound
  exact ⟨by decide +kernel, by decide +kernel⟩
theorem witness_TachoMeasuresRisingEdges :
    let s := State.moment (withLine lined 0 fun r => { r with lastEdge := some 5 }) 6
    s.siteSound ∧ s.running = true ∧ s.stu.lines[(0 : Fin 12)].fn = .tacho ∧ s.stu.lines[(0 : Fin 12)].lastEdge = some 5 ∧
      ((6 : Stamp) - 5).toNat ≠ 0 ∧ s.stu.lines[(0 : Fin 12)].level = false ∧ s.stu.lines[(1 : Fin 12)].paired = some 0 := by
  refine ⟨?_, by decide +kernel⟩
  unfold State.siteSound
  decide +kernel
theorem witness_TachoMeasuresRisingEdges_falling :
    (withLine lined 0 fun r => { r with level := true }).siteSound := by unfold State.siteSound; decide +kernel
theorem witness_PowerGoodLineMovesPowerState :
    lined.running = true ∧ lined.stu.lines[(2 : Fin 12)].fn = .powerGood ∧ lined.stu.lines[(2 : Fin 12)].level = true ∧
      lined.stu.dying = false ∧ (after (.hutLineChange 2 false 0) lined).stu.dying = true ∧
      (after (.hutLineChange 2 false 0) lined).stu.lines[(2 : Fin 12)].level = false := by decide +kernel
theorem witness_TimersRunOut :
    let s := withLine (withLine lined 0 fun r => { r with edgeTimer := .due }) 1
      fun r => { r with level := true, stallTimer := .due, requested := true }
    let s := { s with stateTimer := .due, nbv := { s.nbv with west := { s.nbv.west with staleTimer := .due } } }
    s.running = true ∧ (s.nb .west).staleTimer = .due ∧ s.stateTimer = .due ∧ s.stu.dying = false ∧
      s.stu.lines[(0 : Fin 12)].fn = .tacho ∧ s.stu.lines[(0 : Fin 12)].edgeTimer = .due ∧ s.stu.lines[(1 : Fin 12)].fn = .fan ∧
      s.stu.lines[(1 : Fin 12)].paired = some 0 ∧ s.stu.lines[(1 : Fin 12)].stallTimer = .due := by decide +kernel

/-- Station 15 with slots 0 to 4 READY, so that slot 5 is the only FREE one, and with every slot READY. -/
def busySlots : State := { h15 with rqh := { h15.rqh with slots := (Vector.replicate 6 { Slot.reset with state := .ready }).set 5 .reset } }
def noSlots : State := { h15 with rqh := { h15.rqh with slots := .replicate 6 { Slot.reset with state := .ready } } }

/-- The hypothesis of QueriesAnswerTheRecords, and of every statement about a request that is taken into a slot. -/
theorem witness_canAnswer : busySlots.canAnswer 5 ∧ h15.canAnswer 0 := by
  unfold State.canAnswer State.slotFor; decide +kernel
theorem witness_RequestsTurnedAway :
    requestOf (.unknownRequest rq0 [15] 3) = some (rq0, [15], 3) ∧ requestOf (.queryPath rq0 [4] 3) = some (rq0, [16, 4], 3) ∧
      h15.awake = true ∧ h15.cfl.phase = .running ∧ (∀ k : Fin 6, noSlots.rqh.slots[k].state ≠ .free) ∧ noSlots.station.isSome = true ∧
      (loading 0).station = none ∧ (loading 0).cfl.phase = .loading ∧ loadUp.slotFor 0 ∧ h15.slotFor 0 ∧ rqAll.broadcast = true := by
  unfold State.slotFor; decide +kernel
theorem witness_RequestsTurnedAway_noPort :
    let s := { h15 with west := .reset, east := .reset }
    s.station.isSome = true ∧ s.rqh.slots[(0 : Fin 6)].state = .free ∧ s.isUp .west = false ∧ s.isUp .east = false ∧
      s.rqh.restartPending ≠ some 0 := by decide +kernel
theorem witness_RequestsTurnedAway_badArguments :
    h15.badArguments (.queryPath rq0 [4] 3) ∧ h15.badArguments (.queryLane rq0 [16] 3) ∧ h15.badArguments (.probe rq0 [18] 3) ∧
      h15.badArguments (.queryNeighbour rq0 [2] 3) ∧ h15.badArguments (.querySite rq0 [0] 3) ∧ h15.badArguments (.linesSet rq0 [16, 0] 3) ∧
      h15.badArguments (.genClaim rq0 [0, 1, 44, 0, 9] 3) ∧ h15.badArguments (.toneWatch rq0 [0, 2, 0, 0, 10] 3) := by
  unfold State.badArguments badByte; decide +kernel
theorem witness_ProbeJoinsQueue :
    h15.smp.probes.length < 4 ∧
      4 ≤ ({ h15 with smp := { h15.smp with probes := List.replicate 4 { channel := 0, slot := 0 } } } : State).smp.probes.length := by
  decide +kernel
theorem witness_ToneWatchTakesLane :
    let s := after (.toneWatch rq0 [1, 0, 190, 2, 88] 0) h15
    s.tcr[(8 : Fin 16)].state ≠ .free ∧ s.tcr[(8 : Fin 16)].owner = .station 0 ∧ s.tcr[(8 : Fin 16)].channel = 1 ∧
      s.tcr[(8 : Fin 16)].bin = some 190 ∧ s.tcr[(8 : Fin 16)].partner = none ∧ s.tcr[(9 : Fin 16)].state = .free ∧
      (∀ j : Fin 16, 8 ≤ j.val → j < 9 → s.tcr[j].state ≠ .free) ∧ s.tcr[(10 : Fin 16)].state = .free ∧
      s.tcr[(11 : Fin 16)].state = .free := by decide +kernel
theorem witness_ToneWatchTakesLane_pair :
    let s := after (.toneWatch rq0 [0, 0, 148, 0, 151, 2, 1, 44] 0) h15
    s.tcr[(8 : Fin 16)].owner = .station 0 ∧ s.tcr[(8 : Fin 16)].channel = 0 ∧ s.tcr[(8 : Fin 16)].bin = some 148 ∧
      s.tcr[(8 : Fin 16)].partner = some 9 ∧ s.tcr[(8 : Fin 16)].combine = some .xor ∧ s.tcr[(9 : Fin 16)].bin = some 151 := by
  decide +kernel
theorem witness_ToneWatchTakesLane_noLane :
    let s := { h15 with tcr := each (fun (l : Lane) => if l.state = LaneState.free then { l with state := LaneState.starting, owner := LaneOwner.station 60 } else l) h15.tcr }
    ∀ i : Fin 16, 8 ≤ i.val → s.tcr[i].state ≠ .free ∧ s.tcr[i].owner ≠ .station rq0.requester := by decide +kernel
theorem witness_ToneDropFreesOwnWatch :
    let s := after (.toneWatch rq0 [1, 0, 190, 2, 88] 0) h15
    16 ≤ (16 : Byte).toNat ∧ (7 : Byte).toNat = (7 : Fin 16).val ∧ s.tcr[(8 : Fin 16)].state ≠ .free ∧
      s.tcr[(8 : Fin 16)].owner = .station rq0.requester ∧ s.tcr[(8 : Fin 16)].owner ≠ .station 40 ∧ s.tcr[(15 : Fin 16)].state = .free := by
  decide +kernel
theorem witness_TestGeneratorIsClaimedAndReleased :
    let s := after (.genClaim rq0 [0, 0, 63, 0, 10] 0) h15
    h15.ttg.held = false ∧ h15.kind 3 ≠ .unused ∧ ¬ (64 ≤ 63 ∧ 63 ≤ 421 ∧ 63 % 3 = 1) ∧ ¬ (64 ≤ 65 ∧ 65 ≤ 421 ∧ 65 % 3 = 1) ∧
      s.ttg.held = true ∧ s.ttg.holder = some rq0.requester ∧ s.ttg.path = some 0 ∧ s.ttg.bin = some 63 ∧ (40 : Byte) ≠ rq0.requester := by
  decide +kernel
/-- A FAN line turned on with its tacho standing still, and one turned off that takes its FAN_STALL along. -/
theorem witness_LineRequestsAnswerWhatTheyFound :
    let stalled := withLine lined 1 fun r => { r with level := true, requested := true, fanStall := true }
    lined.running = true ∧ (2 : Nat) < 4096 ∧ lined.stu.lines[(1 : Fin 12)].fn = .fan ∧ lined.stu.lines[(1 : Fin 12)].paired = some 0 ∧
      lined.stu.lines[(0 : Fin 12)].period = 0 ∧ lined.stu.lines[(1 : Fin 12)].stallTimer = .stopped ∧
      lined.stu.lines[(1 : Fin 12)].fanStall = false ∧ lined.stu.hot = false ∧
      (after (.linesSet rq0 (be16 2) 0) lined).stu.lines[(1 : Fin 12)].stallTimer = .running 5000 ∧
      (after (.linesClear rq0 (be16 2) 0) stalled).stu.lines[(1 : Fin 12)].fanStall = false ∧
      (after (.linesClear rq0 (be16 2) 0) stalled).snq.map (·.slot?) = [none, some 0] := by
  decide +kernel
theorem witness_RecheckAnswersVerdictAfter :
    let s := withPath (withVerdict h15 0 fun r => { r with verdict := .unresolved }) 0 fun r => { r with input := .loss }
    (hut 1).vde[(0 : Fin 4)].verdict = .notApplicable ∧ s.vde[(0 : Fin 4)].verdict.isResolvedLoss = true ∧ s.pmn[(0 : Fin 4)].input = .loss ∧
      s.vde[(1 : Fin 4)].verdict.isLight = true := by decide +kernel

/-- Station 15 with its RESTART answered and the answer marked west alone. -/
def restarting : State := after (.restartRequest rq0 [] 0) { h15 with east := .reset }

theorem witness_RestartIsTakenWhenAnswerLeaves :
    restarting.awake = true ∧ restarting.rqh.restartPending = some 0 ∧ (restarting.port .west).tx = none ∧
      (restarting.port .west).link = .up ∧ (restarting.port .west).fwd = [] ∧ restarting.stu.dying = false ∧
      restarting.snq.head?.map (fun e => (e.slot?, e.mark .west, e.mark (otherSide .west))) = some (some 0, true, false) ∧
      rq0.broadcast = false ∧ h15.rqh.restartPending = none ∧ (restarting.moment 1000).port .west = restarting.port .west ∧
      (restarting.port .west).lastGood = some 0 ∧ 1000 ≤ ((restarting.moment 1000).clk.hut - 0).toNat := by decide +kernel
theorem witness_RestartIsTakenWhenAnswerLeaves_noPort :
    let s := { h15 with west := .reset, east := .reset }
    s.running = true ∧ s.station.isSome = true ∧ s.rqh.slots[(0 : Fin 6)].state = .free ∧ s.isUp .west = false ∧
      s.isUp .east = false := by decide +kernel

/-- A state with work in it meets the invariants together: station 15 with a probe, a pair watch, a test claim, and its answers waiting. -/
def busy : State :=
  let s := { h15 with smp := { h15.smp with block := .startDue } }
  let s := after (.probe rq0 [17] 0) (after (.toneWatch rq0 [0, 0, 148, 0, 151, 2, 1, 44] 0) s)
  after .blockStart (after (.genClaim rq0 [0, 0, 63, 0, 10] 0) s)

/-- The premises of EveryStepKeepsQueueAndSlots and EveryStepKeepsSite, and part of those of EveryStepKeepsPortsCountsAndRecords. -/
theorem witness_invariants_of_queues :
    busy.queueSound ∧ busy.slotsSound ∧ busy.portsSound ∧ busy.countsSound ∧ busy.siteSound ∧ step busy = .next busy.idle := by
  unfold State.queueSound State.slotsSound State.portsSound Port.sound State.countsSound State.siteSound
  refine ⟨by decide +kernel, by decide +kernel, ?_, by decide +kernel, by decide +kernel, rfl⟩
  intro side
  cases side <;> decide +kernel
/-- The premises of EveryStepKeepsVerdictsAndPilots but for the lanes, and one of EveryStepKeepsLanesAndSums. -/
theorem witness_invariants_of_paths : busy.sumsSound ∧ busy.verdictsSound ∧ busy.pilotsSound := by
  unfold State.sumsSound State.verdictsSound State.pilotsSound; decide +kernel
/-- The other premise of EveryStepKeepsLanesAndSums and EveryStepKeepsVerdictsAndPilots. -/
theorem witness_invariant_of_lanes : busy.lanesSound := by
  intro i
  refine ⟨?_, ?_, ?_, ?_⟩
  · revert i; decide +kernel
  · intro h
    refine ⟨by revert i; decide +kernel, by revert i; decide +kernel, ?_⟩
    intro hf
    have hi : i = 8 ∨ i = 9 := by revert i; decide +kernel
    rcases hi with rfl | rfl
    · exact ⟨⟨0, by decide +kernel⟩, ⟨148, by decide +kernel⟩, .ofSecs 300, by decide +kernel⟩
    · exact ⟨⟨0, by decide +kernel⟩, ⟨151, by decide +kernel⟩, .ofSecs 300, by decide +kernel⟩
  · revert i; decide +kernel
  · revert i; decide +kernel
/-- The other premises of EveryStepKeepsPortsCountsAndRecords. -/
theorem witness_invariants_of_records : busy.configSound ∧ busy.testSound := by
  refine ⟨⟨?_, by decide +kernel, by decide +kernel⟩, by decide +kernel, by decide +kernel, fun _ => ?_⟩
  · intro c hc
    have h : busy.cfl.settings = some (defaultSettings (some 15)) := by decide +kernel
    obtain rfl : defaultSettings (some 15) = c := Option.some.inj (h.symm.trans hc)
    decide +kernel
  · exact ⟨by decide +kernel, ⟨0, by decide +kernel⟩, ⟨63, by decide +kernel⟩, by decide +kernel⟩

/-! ### Output pins -/

/-- R2, R3, R34: a free transmitter sends delimiters, 0xD3 LSB first between a low start bit and a high stop bit; while RSTN is low
the line is held high. -/
theorem test_idle_line_sends_delimiters :
    h15.transmitLevels .west = [false, true, true, false, false, true, false, true, true, true] ∧
      State.transmitLevels .reset .west = [true] := by decide +kernel

/-- R3: a frame of 13 bytes with no byte to escape takes 14 symbols. -/
theorem test_frame_symbols :
    ({ Port.reset with tx := some { sample with tag := 0, body := [] } } : Port).sending.length = 14 := by decide +kernel

/-- R45, R146, R156: an OUT line is driven in RUNNING, and every hut line is undriven in LOADING. -/
theorem test_lines_driven_in_running_only :
    (withLine h15 3 fun r => { r with fn := .out, level := true }).lineDrive 3 = some true ∧ h15.lineDrive 4 = none ∧
      (loading 15).lineDrive 3 = none := by decide +kernel

/-- The clock pulses on SCL in a list of acts from rest: its rising edges. -/
def sclPulses (acts : List I2cAct) : Nat :=
  let l := i2cRest :: acts.flatMap I2cAct.levels
  (l.zip l.tail).countP fun x => !x.1.scl && x.2.scl

/-- R37: a START is SDA falling while SCL is high, a STOP SDA rising; a byte goes MSB first with a ninth pulse, in which a reader holds
SDA low to acknowledge; and each recovery pulse is one pulse on SCL. -/
theorem test_i2c_levels :
    I2cAct.levels .start = [⟨true, true⟩, ⟨true, false⟩, ⟨false, false⟩] ∧
      ((I2cAct.send 0xA4).levels.filter (·.scl)).map (·.sda) = [true, false, true, false, false, true, false, false, true] ∧
      ((I2cAct.read true).levels.filter (·.scl)).map (·.sda) = List.replicate 8 true ++ [false] ∧
      sclPulses [.pulse] = 1 ∧ sclPulses (List.replicate 9 .pulse) = 9 ∧ sclPulses [.send 0xA4] = 9 ∧
      (i2cLevels (I2c.acts { phase := .recovering, pulses := 9, sincePulse := 0, ended := none } i2cTransaction)).countP (!·.scl) = 9 := by
  decide +kernel

/-- R37: the address byte is 0xA4 for a write and 0xA5 for a read, and one transaction reads 139 bytes. -/
theorem test_i2c_transaction :
    i2cEndedAt .addressRead = [.start, .send 0xA4, .send 0, .restart, .send 0xA5, .stop] ∧
      i2cTransaction.countP (fun a => a = .read true || a = .read false) = 139 := by decide +kernel

end Sys2Proof.Tests
end

section
/-! SUPPORT. What an operation of the part leaves sound: the relation `Keeps`, and one lemma per shared operation. -/

namespace Sys2Proof.Machine
open Sys2Proof

/-! ### The relation -/

/-- From s to u the strap value and the level of RSTN stand, and each of the four invariants of ports, counts, settings and test record
carries over. -/
structure Keeps (s u : State) : Prop where
  strap  : u.cfl.strap = s.cfl.strap
  rstn   : u.pins.rstn = s.pins.rstn
  ports  : s.portsSound → u.portsSound
  counts : s.countsSound → u.countsSound
  config : s.configSound → u.configSound
  test   : s.testSound → u.testSound

theorem Keeps.refl (s : State) : Keeps s s := ⟨rfl, rfl, id, id, id, id⟩

theorem Keeps.trans {s u v : State} (h : Keeps s u) (h' : Keeps u v) : Keeps s v where
  strap := h'.strap.trans h.strap
  rstn := h'.rstn.trans h.rstn
  ports := h'.ports ∘ h.ports
  counts := h'.counts ∘ h.counts
  config := h'.config ∘ h.config
  test := h'.test ∘ h.test

/-- `Keeps.trans` with the later operation first, as the model writes it. -/
theorem Keeps.after {s u v : State} (h' : Keeps u v) (h : Keeps s u) : Keeps s v := h.trans h'

theorem Keeps.awake {s u : State} (h : Keeps s u) : u.awake = s.awake := h.rstn

theorem Keeps.station {s u : State} (h : Keeps s u) : u.station = s.station := congrArg stationOf h.strap

/-- A fold of operations that each keep the invariants keeps them. -/
theorem Keeps.foldl {α : Type} (f : State → α → State) (hf : ∀ s a, Keeps s (f s a)) (l : List α) (s : State) :
    Keeps s (l.foldl f s) :=
  foldl_keeps (Keeps s) f (fun u a h => h.trans (hf u a)) l s (.refl s)

/-- R44: a part that meets its configuration invariant may originate in this state: it has a station number, and RSTN is high. -/
def State.mayOriginate (s : State) : Prop := s.configSound → s.station.isSome = true ∧ s.awake = true

theorem State.awake_of_running {s : State} (h : s.running = true) : s.awake = true := by
  simp only [State.running, Bool.and_eq_true] at h
  exact h.1

theorem State.mayOriginate_of_running {s : State} (h : s.running = true) : s.mayOriginate :=
  fun ⟨_, stationed, _⟩ => ⟨(stationed h).1, s.awake_of_running h⟩

/-! ### Fields replaced -/

/-- No invariant reads the lanes, the oscillators, SMP, STU, the STATE period timer, the free values read or the waiting commands. -/
theorem Keeps.unread (s : State) {tcr : Vector Lane 16} {plg : Plg} {smp : Smp} {stu : Stu} {stateTimer : Countdown} {choices : Nat}
    {pending : List Instr} :
    Keeps s { s with tcr := tcr, plg := plg, smp := smp, stu := stu, stateTimer := stateTimer, choices := choices,
                     pending := pending } :=
  ⟨rfl, rfl, id, id, id, id⟩

/-- Of the pins only RSTN is read. -/
theorem Keeps.setPins (s : State) {pins : Pins} (h : pins.rstn = s.pins.rstn) : Keeps s { s with pins := pins } := by
  have awake : ({ s with pins := pins } : State).awake = s.awake := h
  have running : ({ s with pins := pins } : State).running = s.running := by simp [State.running, h]
  refine ⟨rfl, h, id, id, fun ⟨settled, stationed, quiet⟩ => ?_, fun ⟨free, idle, held⟩ => ?_⟩
  · exact ⟨settled, fun r => stationed (running ▸ r), fun q => quiet (awake ▸ q)⟩
  · exact ⟨free, fun r => idle (running ▸ r), held⟩

theorem Keeps.setDeliveries (s : State) {ds : List Delivery} : Keeps s { s with nbv := { s.nbv with deliveries := ds } } := by
  refine ⟨rfl, rfl, fun h side => ?_, id, id, id⟩
  cases side
  · exact h .west
  · exact h .east

/-- Of RQH only the requests-dropped counter is read. -/
theorem Keeps.setRqh (s : State) {r : Rqh} (h : s.rqh.dropped ≤ 255 → r.dropped ≤ 255) : Keeps s { s with rqh := r } := by
  refine ⟨rfl, rfl, id, fun ⟨tick, pulse, drops, malformed, own, dropped, records⟩ => ?_, id, id⟩
  exact ⟨tick, pulse, drops, malformed, own, h dropped, records⟩

theorem Keeps.setSlots (s : State) {slots : Vector Slot 6} {restartPending : Option (Fin 6)} {deliveries : List ReqDelivery} :
    Keeps s { s with rqh := { s.rqh with slots := slots, restartPending := restartPending, deliveries := deliveries } } :=
  .setRqh s id

theorem satAdd_le (n k : Nat) : satAdd n k ≤ 255 := Nat.min_le_left ..

/-- R14: RLY's counters saturate. -/
def Rly.bounded (r : Rly) : Prop := r.relayDrops ≤ 255 ∧ r.malformed ≤ 255 ∧ r.ownOrigin ≤ 255

theorem Keeps.setRly (s : State) {r : Rly} (h : s.rly.bounded → r.bounded) : Keeps s { s with rly := r } := by
  refine ⟨rfl, rfl, id, fun ⟨tick, pulse, drops, malformed, own, rest⟩ => ?_, id, id⟩
  obtain ⟨drops', malformed', own'⟩ := h ⟨drops, malformed, own⟩
  exact ⟨tick, pulse, drops', malformed', own', rest⟩

/-- R123: a verdict record's counts saturate. -/
def VerdictRec.bounded (r : VerdictRec) : Prop := r.toneAbsent ≤ 255 ∧ r.flaps ≤ 255

theorem Keeps.setVdes (s : State) {v : Vector VerdictRec 4} (h : ∀ p : Fin 4, s.vde[p].bounded → v[p].bounded) :
    Keeps s { s with vde := v } := by
  refine ⟨rfl, rfl, id, fun ⟨tick, pulse, drops, malformed, own, dropped, records⟩ => ?_, id, id⟩
  exact ⟨tick, pulse, drops, malformed, own, dropped, fun p => ⟨(records p).1, h p (records p).2⟩⟩

theorem Keeps.setVde (s : State) (p : Fin 4) {r : VerdictRec} (h : s.vde[p].bounded → r.bounded) :
    Keeps s { s with vde := s.vde.set p.val r p.isLt } := by
  refine .setVdes s fun q => ?_
  rw [show (s.vde.set p.val r p.isLt)[q] = if p = q then r else s.vde[q] from upd_get s.vde p q fun _ => r]
  split
  · subst q; exact h
  · exact id

/-- R97: of a path record only its loss run is read, which saturates. -/
theorem Keeps.setPmn (s : State) {v : Vector PathRec 4} (h : ∀ p : Fin 4, s.pmn[p].lossRun ≤ 255 → v[p].lossRun ≤ 255) :
    Keeps s { s with pmn := v } := by
  refine ⟨rfl, rfl, id, fun ⟨tick, pulse, drops, malformed, own, dropped, records⟩ => ?_, id, id⟩
  exact ⟨tick, pulse, drops, malformed, own, dropped, fun p => ⟨h p (records p).1, (records p).2⟩⟩

theorem Keeps.updPmn (s : State) (p : Fin 4) {f : PathRec → PathRec} (h : ∀ r, r.lossRun ≤ 255 → (f r).lossRun ≤ 255) :
    Keeps s { s with pmn := upd s.pmn p f } := by
  refine .setPmn s fun q => ?_
  rw [upd_get]
  split
  · subst q; exact h _
  · exact id

theorem Keeps.setTtg (s : State) {g : Ttg} (h : s.testSound → ({ s with ttg := g } : State).testSound) : Keeps s { s with ttg := g } :=
  ⟨rfl, rfl, id, id, id, h⟩

/-- R90: the FREE record is sound in every state. -/
theorem State.testSound_of_free {s : State} (h : s.ttg = .free) : s.testSound :=
  ⟨fun _ => h, fun _ => h, fun held => by simp [h, Ttg.free] at held⟩

/-- R44: where a sound part may not originate, its send queue is to stay empty. -/
theorem Keeps.setSnq (s : State) {q : List Entry} (h : s.configSound → s.station = none ∨ s.awake = false → q = []) :
    Keeps s { s with snq := q } :=
  ⟨rfl, rfl, id, id, fun c => ⟨c.1, c.2.1, h c⟩, id⟩

theorem Keeps.shrinkSnq (s : State) {q : List Entry} (h : s.snq = [] → q = []) : Keeps s { s with snq := q } :=
  .setSnq s fun ⟨_, _, quiet⟩ silent => h (quiet silent)

theorem Keeps.askSnq (s : State) {q : List Entry} (h : s.mayOriginate) : Keeps s { s with snq := q } := by
  refine .setSnq s fun c silent => ?_
  obtain ⟨stationed, awake⟩ := h c
  simp [awake, Option.isSome_iff_ne_none.mp stationed] at silent

/-- R20: a port that stays sound, and UP if and only if it was. -/
theorem Keeps.setPort (s : State) (side : Side) {p : Port} (sound : (s.port side).sound → p.sound)
    (up : p.link = .up ↔ s.isUp side = true) : Keeps s (s.setPort side p) := by
  have marked (cutOff : (s.nb side).cutOff = !s.isUp side) : (s.nb side).cutOff = !decide (p.link = .up) := by simp [cutOff, up]
  cases side
  · refine ⟨rfl, rfl, fun h side => ?_, id, id, id⟩
    cases side
    · exact ⟨sound (h .west).1, marked (h .west).2⟩
    · exact h .east
  · refine ⟨rfl, rfl, fun h side => ?_, id, id, id⟩
    cases side
    · exact h .west
    · exact ⟨sound (h .east).1, marked (h .east).2⟩

/-- R118: a port that takes a new link state, with the CUT_OFF mark that it gives its neighbour record. -/
theorem Keeps.setLink (s : State) (side : Side) {p : Port} {cutOff : Bool} (sound : (s.port side).sound → p.sound)
    (mark : cutOff = !decide (p.link = .up)) : Keeps s (State.markCutOff side cutOff (s.setPort side p)) := by
  cases side
  · refine ⟨rfl, rfl, fun h side => ?_, id, id, id⟩
    cases side
    · exact ⟨sound (h .west).1, mark⟩
    · exact h .east
  · refine ⟨rfl, rfl, fun h side => ?_, id, id, id⟩
    cases side
    · exact h .west
    · exact ⟨sound (h .east).1, mark⟩

theorem Keeps.setNb (s : State) (side : Side) {r : NbRec} (h : r.cutOff = (s.nb side).cutOff) : Keeps s (s.setNb side r) := by
  cases side
  · refine ⟨rfl, rfl, fun sound side => ?_, id, id, id⟩
    cases side
    · exact ⟨(sound .west).1, h.trans (sound .west).2⟩
    · exact sound .east
  · refine ⟨rfl, rfl, fun sound side => ?_, id, id, id⟩
    cases side
    · exact sound .west
    · exact ⟨(sound .east).1, h.trans (sound .east).2⟩

/-! ### Time (R1, R37) -/

/-- R90, R94: ticks keep the test record sound. -/
theorem State.testSound_elapse (s : State) (d n : Nat) (h : s.testSound) : (s.elapse d n).testSound := by
  obtain ⟨free, idle, held⟩ := h
  have stay (g : s.ttg = .free) : (s.elapse d n).ttg = .free := by simp [g, Ttg.free, WatchTime.ticks, WatchTime.zero]
  have running : (s.elapse d n).running = s.running := by simp [State.running]
  have kind (p : Fin 4) : (s.elapse d n).kind p = s.kind p := by simp [State.kind, State.settings, State.station]
  refine ⟨fun f => stay (free (by simpa using f)), fun r => stay (idle (running ▸ r)), fun f => ?_⟩
  obtain ⟨holder, path, bin, low, high, tick, phase⟩ := held (by simpa using f)
  obtain ⟨low', high', tick'⟩ := WatchTime.ticks_bounds n s.ttg.time ⟨low, high, tick⟩
  simp only [State.elapse_ttg, kind]
  exact ⟨holder, path, bin, low', high', tick', phase⟩

theorem Keeps.elapse (s : State) (d n : Nat) (h : s.clk.sinceTick ≤ 1000 → s.clk.sinceTick + d - 1000 * n ≤ 1000) :
    Keeps s (s.elapse d n) where
  strap := by simp
  rstn := by simp
  ports sound side := by
    obtain ⟨port, mark⟩ := sound side
    cases side <;> simpa [State.port, State.isUp, NbRec.ticks] using ⟨port, mark⟩
  counts := fun ⟨tick, pulse, drops, malformed, own, dropped, records⟩ => by
    refine ⟨h tick, ?_, by simpa, by simpa, by simpa, by simpa, fun p => ?_⟩
    · simpa using I2c.elapse_sincePulse d s.cfl.i2c pulse
    · rw [State.elapse_pmn, State.elapse_vde, each_get]
      exact records p
  config := fun ⟨settled, stationed, quiet⟩ =>
    ⟨by simpa using settled, by simpa [State.running, State.station] using stationed,
      by simpa [State.station, State.awake] using quiet⟩
  test := s.testSound_elapse d n

theorem Keeps.moment (s : State) (t : Stamp) : Keeps s (s.moment t) := by
  rcases s.moment_cases t with ⟨-, h⟩ | ⟨-, -, h⟩
  · rw [h]; exact .refl s
  · rw [h]; exact .elapse s _ _ fun _ => by omega

theorem Keeps.idle (s : State) : Keeps s s.idle := by
  unfold State.idle; split
  · exact .elapse s _ _ fun _ => by omega
  · exact .refl s

theorem Keeps.millisecondTick (s : State) : Keeps s s.millisecondTick := by
  unfold State.millisecondTick; split
  · exact .elapse s _ _ fun _ => by omega
  · exact .refl s

/-! ### The send queue, the restart and the answers -/

theorem Keeps.askNotice (s : State) (x : Subject) (prompt : Bool) : Keeps s (s.askNotice x prompt) := by
  unfold State.askNotice; split
  next h => exact .askSnq s (s.mayOriginate_of_running h)
  next => exact .refl s

theorem Keeps.askState (s : State) : Keeps s s.askState := by
  unfold State.askState; split
  next h => exact .askSnq s (s.mayOriginate_of_running (Bool.and_eq_true_iff.mp h).1)
  next => exact .refl s

/-- R36, R37: a load begins outside RUNNING, so the test record must be FREE. -/
theorem Keeps.startLoad (s : State) (free : s.testSound → s.ttg = .free) : Keeps s s.startLoad where
  strap := rfl
  rstn := rfl
  ports := id
  counts := fun ⟨tick, _, rest⟩ => ⟨tick, by
    rcases I2c.begin_cases s.pins.sdaHold with ⟨_, _, _, h⟩ | ⟨_, h⟩ <;> simp [State.startLoad, h], rest⟩
  config := fun ⟨settled, _, quiet⟩ => ⟨settled, by simp [State.running, State.startLoad], quiet⟩
  test h := State.testSound_of_free (free h)

/-- R46: the blocks that a restart returns to their start values are sound there, and the ports, RLY and CLK continue. -/
theorem Keeps.restart (s : State) : Keeps s s.restart := by
  refine .trans ?_ (.startLoad _ fun _ => rfl)
  refine ⟨rfl, rfl, fun h side => ?_, fun ⟨tick, pulse, drops, malformed, own, _, _⟩ => ?_, fun ⟨settled, stationed, _⟩ => ?_,
    fun _ => State.testSound_of_free rfl⟩
  · cases side
    · exact ⟨(h .west).1, rfl⟩
    · exact ⟨(h .east).1, rfl⟩
  · refine ⟨tick, pulse, drops, malformed, own, Nat.zero_le _, fun p => ?_⟩
    simp [PathRec.reset, VerdictRec.reset]
  · exact ⟨settled, stationed, fun _ => rfl⟩

theorem Keeps.answersLeft (s : State) (slots : List (Fin 6)) : Keeps s (s.answersLeft slots) := by
  unfold State.answersLeft; dsimp only; split
  · split
    · exact .trans (.setSlots s) (.restart _)
    · exact .setSlots s
  · exact .setSlots s

theorem Keeps.clearMarks (s : State) (side : Side) : Keeps s (s.clearMarks side) :=
  .trans (.shrinkSnq s fun h => by simp [h]) (.answersLeft _ _)

theorem Keeps.askAnswer (s : State) (k : Fin 6) (f : Frame) (h : s.mayOriginate) : Keeps s (s.askAnswer k f) := by
  unfold State.askAnswer; split
  · exact .askSnq s h
  · exact .answersLeft s _

theorem Keeps.complete (s : State) (k : Fin 6) (status : Status) (results : List Byte) (h : s.mayOriginate) :
    Keeps s (s.complete k status results) := by
  unfold State.complete
  exact .trans (.setSlots s) (.askAnswer _ k _ h)

theorem Keeps.settleAlarms (s : State) : Keeps s s.settleAlarms := by
  obtain ⟨_, _, _, _, _, h, -⟩ := s.settleAlarms_changes
  exact h ▸ .unread s

end Sys2Proof.Machine
end

section
/-! SUPPORT. What each block's events leave sound: one `Keeps` lemma per operation, in the order of the model's files. -/

namespace Sys2Proof.Machine
open Sys2Proof

/-! ### VDE (Chapter 9) -/

theorem Keeps.setVerdict (s : State) (p : Fin 4) (r : VerdictRec) (h : s.vde[p].bounded → r.bounded) : Keeps s (s.setVerdict p r) := by
  unfold State.setVerdict; dsimp only; split
  · exact .setVde s p h
  · exact .trans (.setVde s p h) (.askNotice _ _ _)

theorem Keeps.lightEvaluation (s : State) (p : Fin 4) : Keeps s (s.lightEvaluation p) := by
  unfold State.lightEvaluation; dsimp only; split
  · exact .setVerdict s p _ id
  · exact .refl s

theorem Keeps.laneResult (s : State) (p : Fin 4) (normal fill : Bool) : Keeps s (s.laneResult p normal fill) := by
  have count : ∀ n, (s.vde[p].toneAbsent ≤ 255 → n ≤ 255) →
      Keeps s { s with vde := s.vde.set p.val { s.vde[p] with toneAbsent := n } p.isLt } :=
    fun n h => .setVde s p fun ⟨absent, flaps⟩ => ⟨h absent, flaps⟩
  have counted := count (if s.pmn[p].input = .loss then s.vde[p].toneAbsent
    else if normal || fill then 0 else satAdd s.vde[p].toneAbsent 1) fun h => by
      split
      · exact h
      · split
        · exact Nat.zero_le _
        · exact satAdd_le ..
  unfold State.laneResult; dsimp only; split
  · exact counted.trans (.lightEvaluation _ p)
  · exact counted

theorem State.judgeLoss_bounded (s : State) (p : Fin 4) (loss : Stamp) (h : s.vde[p].bounded) : (s.judgeLoss p loss).bounded := by
  unfold State.judgeLoss; dsimp only; split
  · exact ⟨Nat.zero_le _, h.2⟩
  · split
    · exact ⟨Nat.zero_le _, h.2⟩
    · exact ⟨Nat.zero_le _, h.2⟩

theorem State.returnToCause_bounded (s : State) (p : Fin 4) (loss : Stamp) : (s.returnToCause p loss).bounded := by
  unfold State.returnToCause; dsimp only; split
  · exact ⟨Nat.zero_le _, satAdd_le ..⟩
  · exact ⟨Nat.zero_le _, satAdd_le ..⟩

theorem Keeps.lossEvent (s : State) (p : Fin 4) (loss : Stamp) : Keeps s (s.lossEvent p loss) := by
  unfold State.lossEvent; split
  · exact .setVerdict s p _ (s.judgeLoss_bounded p loss)
  · split
    · exact .setVerdict s p _ fun _ => s.returnToCause_bounded p loss
    · exact .refl s

theorem Keeps.restoreEvent (s : State) (p : Fin 4) : Keeps s (s.restoreEvent p) := by
  unfold State.restoreEvent; dsimp only; split
  · exact .setVerdict s p _ id
  · exact .refl s

theorem Keeps.decideLoss (s : State) (p : Fin 4) (v : Verdict) (e : Evidence) : Keeps s (s.decideLoss p v e) := by
  unfold State.decideLoss; dsimp only; split
  · exact .setVerdict s p _ id
  · split
    · exact .setVerdict s p _ id
    · exact .refl s

theorem Keeps.linkDownEvent (s : State) (side : Side) : Keeps s (s.linkDownEvent side) := by
  unfold State.linkDownEvent; split
  · refine .foldl _ (fun s p => ?_) _ s
    split
    · exact .decideLoss s p _ _
    · exact .refl s
  · exact .refl s

theorem Keeps.upstreamReport (s : State) (p : Fin 4) (low prompted : Bool) : Keeps s (s.upstreamReport p low prompted) := by
  unfold State.upstreamReport; split
  · exact .decideLoss s p _ _
  · split
    · exact .decideLoss s p _ _
    · exact .refl s

theorem Keeps.recheckPath (s : State) (p : Fin 4) : Keeps s (s.recheckPath p) := by
  unfold State.recheckPath; dsimp only; split
  · exact .setVerdict s p _ id
  · split
    · exact .lightEvaluation s p
    · exact .refl s

theorem Keeps.windowExpiry (s : State) (p : Fin 4) : Keeps s (s.windowExpiry p) := by
  unfold State.windowExpiry; dsimp only; split
  · exact .after (.settleAlarms _) (.setVerdict s p _ id)
  · exact .refl s

theorem Keeps.holdOffExpiry (s : State) (p : Fin 4) : Keeps s (s.holdOffExpiry p) := by
  unfold State.holdOffExpiry; dsimp only; split
  · exact .after (.settleAlarms _) (.after (.lightEvaluation _ p) (.setVde s p id))
  · exact .refl s

/-! ### The line ports and RLY (Chapters 1 and 2) -/

/-- R4: storing a byte keeps the assembly within 53 bytes. -/
theorem Assembly.store_bytes (a : Assembly) (b : Byte) (h : a.bytes.length ≤ 53) : (a.store b).bytes.length ≤ 53 := by
  unfold Assembly.store; split
  · exact h
  · split
    · exact h
    · simp only [List.length_append, List.length_singleton]; omega

theorem Assembly.store_count (a : Assembly) (b : Byte) : (a.store b).count = a.count := by
  unfold Assembly.store; split
  · rfl
  · split <;> rfl

/-- R4: a symbol that is no delimiter is counted, and stores at most one byte. -/
theorem Assembly.take_sound (a : Assembly) (sym : Symbol) (h : a.bytes.length ≤ 53) :
    (a.take sym).bytes.length ≤ 53 ∧ (a.take sym).count = satAdd a.count 1 := by
  cases sym with
  | error => exact ⟨h, rfl⟩
  | framed b =>
    unfold Assembly.take; dsimp only; split
    · split
      · exact ⟨Assembly.store_bytes _ _ h, Assembly.store_count _ _⟩
      · split
        · exact ⟨Assembly.store_bytes _ _ h, Assembly.store_count _ _⟩
        · exact ⟨h, rfl⟩
    · split
      · exact ⟨h, rfl⟩
      · exact ⟨Assembly.store_bytes _ _ h, Assembly.store_count _ _⟩

/-- R5 to R7: a symbol makes no port UP and takes none from UP. -/
theorem Port.linkSymbol_up (p : Port) (signal : Bool) (sym : Symbol) (t : Stamp) :
    (p.linkSymbol signal sym t).link = .up ↔ p.link = .up := by
  cases h : p.link <;> cases sym <;> simp [Port.linkSymbol, h]
  split <;> simp [h]

theorem Port.linkSymbol_fwd (p : Port) (signal : Bool) (sym : Symbol) (t : Stamp) : (p.linkSymbol signal sym t).fwd = p.fwd := by
  unfold Port.linkSymbol; split
  · split <;> rfl
  all_goals rfl

theorem Port.linkSymbol_assembly (p : Port) (signal : Bool) (sym : Symbol) (t : Stamp) :
    (p.linkSymbol signal sym t).assembly = p.assembly := by
  unfold Port.linkSymbol; split
  · split <;> rfl
  all_goals rfl

theorem Port.linkSymbol_sound (p : Port) (signal : Bool) (sym : Symbol) (t : Stamp) (h : p.sound) :
    (p.linkSymbol signal sym t).sound := by
  simpa only [Port.sound, ne_eq, p.linkSymbol_up signal sym t, p.linkSymbol_fwd signal sym t, p.linkSymbol_assembly signal sym t] using h

theorem Port.assemble_link (p : Port) (side : Side) (sym : Symbol) (t : Stamp) : (p.assemble side sym t).1.link = p.link := by
  unfold Port.assemble; split <;> rfl

/-- R4: an assembly that a delimiter empties, or that takes another symbol, stays within its bounds. -/
theorem Port.assemble_sound (p : Port) (side : Side) (sym : Symbol) (t : Stamp) (h : p.sound) : (p.assemble side sym t).1.sound := by
  obtain ⟨queue, quiet, bytes, -, -⟩ := h
  unfold Port.assemble; split
  · exact ⟨queue, quiet, by simp [Assembly.empty], by simp [Assembly.empty], fun _ => rfl⟩
  · obtain ⟨bytes', count'⟩ := p.assembly.take_sound sym bytes
    refine ⟨queue, quiet, bytes', count' ▸ satAdd_le .., fun zero => ?_⟩
    simp only [count', satAdd] at zero
    omega

theorem Keeps.symbolReceived (s : State) (side : Side) (sym : Symbol) (t : Stamp) : Keeps s (s.symbolReceived side sym t) := by
  unfold State.symbolReceived; split
  · refine .after (.setRly _ id) (.setPort s side (fun h => ?_) ?_)
    · exact Port.linkSymbol_sound _ _ _ _ (Port.assemble_sound _ _ _ _ h)
    · refine (Port.linkSymbol_up _ _ _ _).trans ?_
      change ((s.port side).assemble side sym t).1.link = .up ↔ _
      simp [Port.assemble_link, State.isUp]
  · exact .refl s

/-- R46, R118: a restart sets the CUT_OFF mark of a port that is not UP. -/
theorem State.markCutOff_restart (s : State) (side : Side) (down : s.isUp side = false) :
    State.markCutOff side true s.restart = s.restart := by
  cases side <;> simp [State.markCutOff, State.setNb, State.nb, State.restart, State.startLoad, NbRec.reset, down]

/-- R46, R118: the CUT_OFF mark of a port that is not UP may be set before ANSWER entries leave: a restart that they bring sets it
as well. -/
theorem State.markCutOff_answersLeft (s : State) (side : Side) (slots : List (Fin 6)) (down : s.isUp side = false) :
    State.markCutOff side true (s.answersLeft slots) = (State.markCutOff side true s).answersLeft slots := by
  have pending : (State.markCutOff side true s).rqh = s.rqh := by simp [State.markCutOff]
  unfold State.answersLeft
  rw [pending]
  dsimp only; split
  · split
    · rw [State.markCutOff_restart _ side (by exact down)]
      cases side <;> rfl
    · cases side <;> rfl
  · cases side <;> rfl

theorem State.markCutOff_clearMarks (s : State) (side : Side) (down : s.isUp side = false) :
    State.markCutOff side true (s.clearMarks side) = (State.markCutOff side true s).clearMarks side := by
  refine (State.markCutOff_answersLeft _ side _ (by exact down)).trans ?_
  cases side <;> rfl

theorem Keeps.entryToDown (s : State) (side : Side) : Keeps s (s.entryToDown side) := by
  have emptied (p : Port) (clk : Option Stamp) :
      p.sound → { p with link := .down, lastDown := clk, aged := false, assembly := .empty, fwd := [] }.sound :=
    fun _ => ⟨by simp, fun _ => rfl, by simp [Assembly.empty], by simp [Assembly.empty], fun _ => rfl⟩
  unfold State.entryToDown; dsimp only
  rw [State.markCutOff_clearMarks _ side (by cases side <;> rfl)]
  refine .after (.settleAlarms _) (.after (.linkDownEvent _ side) (.after (.clearMarks _ side) ?_))
  have closed := Keeps.setLink s side (cutOff := true) (emptied (s.port side) (some s.clk.hut)) rfl
  cases side
  · exact .after (.setRly _ fun ⟨_, counts⟩ => ⟨satAdd_le .., counts⟩) closed
  · exact .after (.setRly _ fun ⟨_, counts⟩ => ⟨satAdd_le .., counts⟩) closed

theorem Keeps.setSignal (s : State) (side : Side) (level : Bool) : Keeps s (s.setSignal side level) := by
  cases side
  · exact .setPins s rfl
  · exact .setPins s rfl

theorem Keeps.signalDetectChange (s : State) (side : Side) (level : Bool) : Keeps s (s.signalDetectChange side level) := by
  unfold State.signalDetectChange; dsimp only; split
  · exact .trans (.setSignal s side level) (.entryToDown _ side)
  · exact .setSignal s side level

theorem Keeps.silenceExpiry (s : State) (side : Side) : Keeps s (s.silenceExpiry side) := by
  unfold State.silenceExpiry; split
  · exact .entryToDown s side
  · exact .refl s

theorem Keeps.linkUp (s : State) (side : Side) : Keeps s (s.linkUp side) := by
  unfold State.linkUp; split
  next h =>
    have settling : (s.port side).link = .settling := by simp at h; exact h.1.2
    refine .setLink s side (fun ⟨queue, quiet, rest⟩ => ⟨queue, fun up => absurd rfl up, rest⟩) ?_
    rfl
  next => exact .refl s

theorem Keeps.agedMark (s : State) (side : Side) : Keeps s (s.agedMark side) := by
  unfold State.agedMark; split
  · exact .setPort s side id (by simp [State.isUp])
  · exact .refl s

theorem Keeps.offer (s : State) (side : Side) (f : Frame) : Keeps s (s.offer side f) := by
  unfold State.offer; dsimp only; split
  next => exact .refl s
  next offered =>
    obtain ⟨-, up⟩ := not_or.mp offered
    split
    next room =>
      refine .setPort s side (fun ⟨_, _, rest⟩ => ⟨?_, fun down => absurd down up, rest⟩) (by simp [State.isUp])
      simp only [List.length_append, List.length_singleton]; omega
    next => exact .setRly s fun ⟨_, malformed, own⟩ => ⟨satAdd_le .., malformed, own⟩

theorem Keeps.relay (s : State) (side : Side) (f : Frame) : Keeps s (s.relay side f) := by
  have forwarded : Keeps s (if s.forwards f then s.offer (otherSide side) f else s) := by
    split
    · exact .offer s _ f
    · exact .refl s
  unfold State.relay; dsimp only; split
  · exact forwarded.trans (.setSlots _)
  · split
    · exact forwarded.trans (.setDeliveries _)
    · exact forwarded

theorem Keeps.receivedFrame (s : State) (r : ReceivedFrame) : Keeps s (s.receivedFrame r) := by
  unfold State.receivedFrame; split
  · dsimp only; split
    · exact .setRly s fun ⟨drops, _, own⟩ => ⟨drops, satAdd_le .., own⟩
    · split
      · exact .setRly s fun ⟨drops, malformed, _⟩ => ⟨drops, malformed, satAdd_le ..⟩
      · exact .after (.relay _ _ _) (.setRly s id)
  · exact .refl s

/-! ### NBV (Chapter 8) -/

theorem Keeps.handReport (s : State) (side : Side) (i : Fin 4) (low prompted : Bool) : Keeps s (s.handReport side i low prompted) := by
  unfold State.handReport
  refine .foldl _ (fun s p => ?_) _ s
  split
  · exact .upstreamReport s p _ _
  · exact .refl s

theorem Keeps.handDying (s : State) (side : Side) : Keeps s (s.handDying side) := by
  unfold State.handDying
  refine .foldl _ (fun s p => ?_) _ s
  split
  · exact .decideLoss s p _ _
  · exact .refl s

theorem Keeps.promptReply (s : State) (side : Side) (r : PathReport) : Keeps s (s.promptReply side r) := by
  unfold State.promptReply; split
  · dsimp only; split
    · exact .askNotice s _ _
    · exact .refl s
  · exact .refl s

theorem Keeps.useState (s : State) (side : Side) (m : Vector Summary 4) : Keeps s (s.useState side m) := by
  unfold State.useState
  exact .after (.foldl _ (fun s i => .handReport s side i _ _) _ _) (.setNb s side rfl)

theorem Keeps.usePath (s : State) (side : Side) (r : PathReport) : Keeps s (s.usePath side r) := by
  unfold State.usePath
  exact .after (.promptReply _ side r) (.after (.handReport _ side _ _ _) (.setNb s side rfl))

theorem Keeps.usePower (s : State) (side : Side) (dying : Bool) : Keeps s (s.usePower side dying) := by
  unfold State.usePower; dsimp only; split
  · exact .after (.handDying _ side) (.setNb s side rfl)
  · exact .setNb s side rfl

theorem Keeps.useFrame (s : State) (d : Delivery) : Keeps s (s.useFrame d) := by
  unfold State.useFrame
  cases d.kind with
  | state =>
    dsimp only; split
    · exact .useState s _ _
    · exact .refl s
  | notice =>
    dsimp only; split
    · exact .usePath s _ _
    · exact .usePower s _ _
    · exact .refl s
    · exact .refl s
  | request => exact .refl s
  | answer => exact .refl s

theorem Keeps.neighbourFrame (s : State) (d : Delivery) : Keeps s (s.neighbourFrame d) := by
  have taken := Keeps.setDeliveries s (ds := s.nbv.deliveries.erase d)
  unfold State.neighbourFrame; split
  · dsimp only; split
    · split
      · exact taken.trans (.setNb _ _ rfl)
      · split
        · exact taken.trans (.trans (.useFrame _ d) (.settleAlarms _))
        · exact taken
    · exact taken
  · exact .refl s

theorem Keeps.staleExpiry (s : State) (side : Side) : Keeps s (s.staleExpiry side) := by
  unfold State.staleExpiry; split
  · exact .setNb s side rfl
  · exact .refl s

/-! ### The test generator (Chapter 6) and the pool (Chapter 5) -/

/-- R90: the end of a step moves the phase alone, and marks what takes part in the next one. -/
theorem Ttg.endStep_eq (g : Ttg) :
    ∃ phase, g.endStep = { g with phase := phase } ∧ (g.phase < 1024 → phase < 1024) := by
  unfold Ttg.endStep; split
  · exact ⟨_, rfl, fun _ => Nat.mod_lt _ (by decide)⟩
  · exact ⟨g.phase, rfl, id⟩

theorem Keeps.pilotStep (s : State) : Keeps s s.pilotStep := by
  unfold State.pilotStep; split
  · refine .trans (.setTtg s (g := { s.ttg.endStep with inStep := s.ttg.held }) fun ⟨free, idle, held⟩ => ?_) (.unread _)
    have stay (g : s.ttg = .free) : { s.ttg.endStep with inStep := s.ttg.held } = Ttg.free := by simp [g, Ttg.endStep, Ttg.free]
    obtain ⟨phase, step, bound⟩ := s.ttg.endStep_eq
    refine ⟨fun f => stay (free (by simpa [step] using f)), fun r => stay (idle r), fun f => ?_⟩
    obtain ⟨holder, path, bin, low, high, tick, old⟩ := held (by simpa [step] using f)
    simp only [step]
    exact ⟨holder, path, bin, low, high, tick, bound old⟩
  · exact .refl s

/-- R90: a record that becomes FREE. -/
theorem Keeps.freeTtg (s : State) : Keeps s { s with ttg := .free } := .setTtg s fun _ => State.testSound_of_free rfl

theorem Keeps.testExpiry (s : State) : Keeps s s.testExpiry := by
  unfold State.testExpiry; split
  · exact .trans (.freeTtg s) (.askNotice _ _ _)
  · exact .refl s

theorem Keeps.freeWatch (s : State) (i : Fin 16) : Keeps s (s.freeWatch i) := .trans (.unread s) (.askNotice _ _ _)

theorem Keeps.toneWatch (s : State) (requester : Byte) (a : WatchArgs) : Keeps s (s.toneWatch requester a).1 := by
  unfold State.toneWatch; split
  · exact .unread s
  · split
    · exact .trans (.unread s) (.askNotice _ _ _)
    · exact .refl s

theorem Keeps.watchExpiry (s : State) (i : Fin 16) : Keeps s (s.watchExpiry i) := by
  unfold State.watchExpiry; split
  · exact .freeWatch s i
  · exact .refl s

/-! ### STU (Chapter 10) -/

theorem Keeps.settleStall (s : State) : Keeps s s.settleStall := by
  unfold State.settleStall; dsimp only; split
  · exact .trans (.unread s) (.askNotice _ _ _)
  · exact .unread s

theorem Keeps.enterDying (s : State) (h : s.mayOriginate) : Keeps s s.enterDying := by
  unfold State.enterDying; split
  · exact .refl s
  · exact .trans (.askSnq s (q := snqDying (s.isUp .west) (s.isUp .east) s.snq) h) (.unread _)

theorem Keeps.returnToNormal (s : State) (h : s.mayOriginate) : Keeps s s.returnToNormal :=
  .trans (.askSnq s (q := s.returnToNormal.snq) h) (.unread _)

theorem Keeps.judgeRevival (s : State) (h : s.mayOriginate) : Keeps s s.judgeRevival := by
  unfold State.judgeRevival; split
  · exact .returnToNormal s h
  · exact .refl s

theorem Keeps.judgeBattery (s : State) (v : Nat) (h : s.mayOriginate) : Keeps s (s.judgeBattery v) := by
  unfold State.judgeBattery; split
  · exact .judgeRevival s h
  · split
    · exact .enterDying s h
    · exact .refl s

theorem Keeps.statePeriodExpiry (s : State) : Keeps s s.statePeriodExpiry := by
  unfold State.statePeriodExpiry; split
  · exact .trans (.unread s) (.askState _)
  · exact .refl s

theorem Keeps.judgeHot (s : State) (v : Nat) : Keeps s (s.judgeHot v) := by
  unfold State.judgeHot; dsimp only; split
  · exact .refl s
  · exact .trans (.unread s) (.trans (.askNotice _ _ _) (.settleStall _))

theorem Keeps.judgeFilter (s : State) (v : Nat) : Keeps s (s.judgeFilter v) := by
  unfold State.judgeFilter; dsimp only; split
  · exact .refl s
  · exact .trans (.unread s) (.askNotice _ _ _)

theorem Keeps.inputChange (s : State) (n : Fin 12) (level : Bool) : Keeps s (s.inputChange n level) := by
  unfold State.inputChange; dsimp only; split
  · exact .trans (.unread s) (.askNotice _ _ _)
  · exact .unread s

theorem Keeps.powerGoodChange (s : State) (n : Fin 12) (level : Bool) (h : s.mayOriginate) : Keeps s (s.powerGoodChange n level) := by
  unfold State.powerGoodChange; dsimp only; split
  · exact .trans (.unread s) (.judgeRevival _ h)
  · exact .trans (.unread s) (.enterDying _ h)

theorem Keeps.lineEvent (s : State) (n : Fin 12) (level : Bool) (t : Stamp) (h : s.mayOriginate) : Keeps s (s.lineEvent n level t) := by
  unfold State.lineEvent
  cases s.stu.lines[n].fn with
  | inp => exact .inputChange s n level
  | tacho => exact .trans (.unread s) (.settleStall _)
  | powerGood => exact .powerGoodChange s n level h
  | out => exact .refl s
  | fan => exact .refl s
  | alarm => exact .refl s

theorem Keeps.hutLineChange (s : State) (n : Fin 12) (level : Bool) (t : Stamp) : Keeps s (s.hutLineChange n level t) := by
  unfold State.hutLineChange; dsimp only; split
  next h =>
    have running : s.running = true := (Bool.and_eq_true_iff.mp h).1
    refine .after (.settleAlarms _) (.after (.lineEvent _ n level t ?_) (.setPins s rfl))
    exact State.mayOriginate_of_running running
  next => exact .setPins s rfl

theorem Keeps.edgeTimerExpiry (s : State) (n : Fin 12) : Keeps s (s.edgeTimerExpiry n) := by
  unfold State.edgeTimerExpiry; split
  · exact .trans (.unread s) (.trans (.settleStall _) (.settleAlarms _))
  · exact .refl s

theorem Keeps.stallTimerExpiry (s : State) (n : Fin 12) : Keeps s (s.stallTimerExpiry n) := by
  unfold State.stallTimerExpiry; split
  · exact .trans (.unread s) (.trans (.askNotice _ _ _) (.settleAlarms _))
  · exact .refl s

end Sys2Proof.Machine
end

section
/-! SUPPORT. That every command, and so every step, keeps the ports' bounds, the counts, the settings and the test record: requests,
sampler, arbiter, loads and the dispatch. It settles O57. -/

namespace Sys2Proof.Machine
open Sys2Proof

/-! ### RQH (Chapter 11) -/

theorem State.running_of_phase {s : State} (awake : s.awake = true) (loading : s.cfl.phase ≠ .loading)
    (repeater : s.cfl.phase ≠ .repeaterOnly) : s.running = true := by
  have rstn : s.pins.rstn = true := awake
  cases h : s.cfl.phase <;> simp_all [State.running]

/-- R161 to R163: RQH takes a request whose execution in RUNNING keeps the invariants. -/
theorem Keeps.takeRequest (s : State) (rq : RequestHead) (body : List Byte) (run : Fin 6 → State → State × Reply)
    (hrun : ∀ k u, u.running = true → Keeps u (run k u).1) : Keeps s (s.takeRequest rq body run) := by
  unfold State.takeRequest; split
  next taken =>
    obtain ⟨awake, repeater⟩ := Bool.and_eq_true_iff.mp taken
    have ran {k u w r} (running : u.running = true) (h : run k u = (w, r)) : Keeps u w := by
      simpa only [h] using hrun k u running
    dsimp only; split
    next => exact .setSlots s
    next named =>
      replace named : ¬ s.station.isNone = true := named
      have stationed : s.station.isSome = true := by simpa [Option.isSome_iff_ne_none] using named
      split
      next => exact .setRqh s fun _ => satAdd_le ..
      next k _ =>
        split
        next => exact .after (.complete _ _ _ _ fun _ => ⟨stationed, awake⟩) (.setSlots s)
        next loaded =>
          have running := State.running_of_phase awake loaded (by simpa using repeater)
          split
          next u status results done =>
            have ran := ran (by exact running) done
            refine .after (.complete _ _ _ _ fun _ => ?_) (ran.after (.setSlots s))
            exact ⟨(congrArg Option.isSome ran.station).trans stationed, ran.awake.trans awake⟩
          next u waiting =>
            exact .after (ran (by exact running) waiting) (.setSlots s)
  next => exact .refl s

theorem Keeps.runProbe (s : State) (args : List Byte) (k : Fin 6) : Keeps s (Machine.runProbe args k s).1 := by
  unfold Machine.runProbe; split
  · split
    · exact .unread s
    · exact .refl s
  · exact .refl s

theorem Keeps.runToneWatch (s : State) (requester : Byte) (args : List Byte) (k : Fin 6) :
    Keeps s (Machine.runToneWatch requester args k s).1 := by
  unfold Machine.runToneWatch; split
  next a _ =>
    have taken := Keeps.toneWatch s requester a
    split
    next h => rw [h] at taken; exact taken
    next h => rw [h] at taken; exact taken
  next => exact .refl s

theorem Keeps.runToneDrop (s : State) (requester : Byte) (args : List Byte) (k : Fin 6) :
    Keeps s (Machine.runToneDrop requester args k s).1 := by
  unfold Machine.runToneDrop; split
  next i _ =>
    split
    · exact .refl s
    · split
      · exact .refl s
      · split
        · exact .freeWatch s i
        · exact .refl s
  next => exact .refl s

/-- R91: what the arguments of an accepted GEN_CLAIM are. -/
theorem claimArgs_bounds {args : List Byte} {a : ClaimArgs} (h : claimArgs args = some a) :
    1 ≤ a.bin ∧ a.bin ≤ 511 ∧ inPilotPlan a.bin = false ∧ 10 ≤ a.secs ∧ a.secs ≤ 3600 := by
  unfold claimArgs at h
  split at h
  · split at h
    · dsimp only at h
      split at h
      next bounds => obtain rfl := Option.some.inj h; exact bounds
      next => simp at h
    · simp at h
  · simp at h

/-- R92: in RUNNING a claim of a path in use, with arguments in their ranges, makes a sound record. -/
theorem Keeps.claimTtg (s : State) (requester : Byte) {args : List Byte} {a : ClaimArgs} (h : claimArgs args = some a)
    (running : s.running = true) (used : s.kind a.path ≠ .unused) : Keeps s { s with ttg := .claimed requester a } := by
  obtain ⟨lowBin, highBin, plan, lowSecs, highSecs⟩ := claimArgs_bounds h
  refine .setTtg s fun _ => ⟨fun free => ?_, fun idle => ?_, fun _ => ?_⟩
  · simp [Ttg.claimed] at free
  · exact absurd (running.symm.trans idle) (by decide)
  · have low : 1 ≤ a.secs := by omega
    exact ⟨rfl, ⟨a.path, rfl, used⟩, ⟨a.bin, rfl, lowBin, highBin, plan⟩, low, highSecs, by simp [Ttg.claimed, WatchTime.ofSecs],
      by simp [Ttg.claimed]⟩

/-- R92: a renewal keeps the record and sets its remaining time. -/
theorem Keeps.renewTtg (s : State) {secs : Nat} (low : 1 ≤ secs) (high : secs ≤ 3600) (hold : s.ttg.held = true) :
    Keeps s { s with ttg := { s.ttg with time := .ofSecs secs } } := by
  refine .setTtg s fun ⟨_, idle, held⟩ => ⟨fun free => ?_, fun stopped => ?_, fun _ => ?_⟩
  · exact absurd (hold.symm.trans free) (by decide)
  · simp [idle stopped, Ttg.free] at hold
  · obtain ⟨holder, path, bin, -, -, -, phase⟩ := held hold
    exact ⟨holder, path, bin, low, high, by simp [WatchTime.ofSecs], phase⟩

theorem Keeps.runGenClaim (s : State) (requester : Byte) (args : List Byte) (k : Fin 6) (running : s.running = true) :
    Keeps s (Machine.runGenClaim requester args k s).1 := by
  unfold Machine.runGenClaim; split
  next a accepted =>
    obtain ⟨-, -, -, low, high⟩ := claimArgs_bounds accepted
    split
    next => exact .refl s
    next used =>
      have claimed := Keeps.claimTtg s requester accepted running used
      split
      next hold =>
        split
        · split
          · exact .renewTtg s (by omega) high hold
          · exact claimed
        · exact .refl s
      next => exact .after (.askNotice _ _ _) claimed
  next => exact .refl s

theorem Keeps.runGenRelease (s : State) (requester : Byte) (args : List Byte) (k : Fin 6) :
    Keeps s (Machine.runGenRelease requester args k s).1 := by
  unfold Machine.runGenRelease; split
  · split
    · split
      · exact .after (.askNotice _ _ _) (.freeTtg s)
      · exact .refl s
    · exact .refl s
  · exact .refl s

theorem Keeps.runLines (s : State) (level : Bool) (args : List Byte) (k : Fin 6) : Keeps s (Machine.runLines level args k s).1 := by
  unfold Machine.runLines; split
  · exact .after (.settleAlarms _) (.after (.settleStall _) (.unread s))
  · exact .refl s

theorem Keeps.runLinesAck (s : State) (args : List Byte) (k : Fin 6) : Keeps s (Machine.runLinesAck args k s).1 := by
  unfold Machine.runLinesAck; split
  · exact .unread s
  · exact .refl s

theorem Keeps.runRecheck (s : State) (args : List Byte) (k : Fin 6) : Keeps s (Machine.runRecheck args k s).1 := by
  unfold Machine.runRecheck; split
  next p _ =>
    split
    · exact .refl s
    · exact .after (.settleAlarms _) (.recheckPath s p)
  next => exact .refl s

theorem Keeps.runRestart (s : State) (broadcast : Bool) (args : List Byte) (k : Fin 6) :
    Keeps s (Machine.runRestart broadcast args k s).1 := by
  unfold Machine.runRestart; split
  · split
    · exact .refl s
    · split
      · exact .refl s
      · exact .setSlots s
  · exact .refl s

/-! ### The sampler (Chapters 4, 5 and 7) -/

theorem Keeps.setOsc (s : State) (p : Fin 4) (o : Osc) : Keeps s (s.setOsc p o) := by
  unfold State.setOsc; dsimp only; split
  · exact .unread s
  · exact .after (.askNotice _ _ _) (.unread s)

theorem Keeps.lossInput (s : State) (p : Fin 4) (v : Bool) : Keeps s (s.lossInput p v) := .setOsc s p _

theorem Keeps.fillInput (s : State) (p : Fin 4) (v : Bool) : Keeps s (s.fillInput p v) := .setOsc s p _

theorem Keeps.blockStart (s : State) : Keeps s s.blockStart := by
  unfold State.blockStart; split
  · refine .after (.unread _) (.setPmn s (v := .ofFn fun p => s.pmn[p].atBlockStart (s.monitored p)) fun p => ?_)
    simp [PathRec.atBlockStart]
  · exact .refl s

theorem Keeps.enterLoss (s : State) (p : Fin 4) (stamp : Stamp) : Keeps s (s.enterLoss p stamp) := by
  have lost : Keeps s (State.lossInput p true
      (State.askNotice (.path p) false { s with pmn := upd s.pmn p fun r => { r with input := .loss, lossStamp := some stamp } })) :=
    .after (.lossInput _ p true) (.after (.askNotice _ _ _) (.updPmn s p fun _ h => h))
  unfold State.enterLoss; dsimp only; split
  · exact .after (.lossEvent _ p stamp) lost
  · exact lost

theorem Keeps.compareLoss (s : State) (p : Fin 4) (code : Nat) (t : Stamp) : Keeps s (s.compareLoss p code t) := by
  unfold State.compareLoss; split
  next =>
    have saturated : (if code < s.settings.paths[p].loss then satAdd s.pmn[p].lossRun 1 else 0) ≤ 255 := by
      split
      · exact satAdd_le ..
      · exact Nat.zero_le _
    dsimp only
    generalize (if code < s.settings.paths[p].loss then satAdd s.pmn[p].lossRun 1 else 0) = run at saturated ⊢
    have counted := Keeps.updPmn s p (f := fun r => { r with lossRun := run }) fun _ _ => saturated
    split
    · exact .after (.enterLoss _ p t) counted
    · exact counted
  next => exact .refl s

/-- R98: a sample leaves the loss runs as they are. -/
theorem addSample_lossRun (ch : Fin 8) (code : Nat) (pmn : Vector PathRec 4) (p : Fin 4) :
    (addSample ch code pmn)[p].lossRun = pmn[p].lossRun := by
  simp only [addSample, Fin.getElem_fin, Vector.getElem_ofFn]
  split
  · rfl
  · split <;> rfl

theorem State.running_of_atSlot {s : State} {k : Fin 9} (h : s.atSlot k = true) : s.running = true := by
  simp only [State.atSlot, Bool.and_eq_true] at h
  exact h.1.1.1

theorem Keeps.tapSample (s : State) (ch : Fin 8) (code : Code) (t : Stamp) : Keeps s (s.tapSample ch code t) := by
  have sampled : Keeps s { s with
      smp := { s.smp with slot := ch.succ }
      tcr := each (Lane.accumulate ch code.toNat) s.tcr
      pmn := addSample ch code.toNat s.pmn } :=
    .trans (.setPmn s fun p => (addSample_lossRun ch code.toNat s.pmn p).trans_le) (.unread _)
  unfold State.tapSample; split
  · refine .after (.settleAlarms _) ?_
    split
    · exact .after (.compareLoss _ _ _ t) sampled
    · exact sampled
  · exact .refl s

theorem Keeps.handLaneResult (s : State) (before : Vector Lane 16) (p : Fin 4) : Keeps s (s.handLaneResult before p) := by
  unfold State.handLaneResult; split
  · refine .after (.laneResult _ p _ _) ?_
    split
    · exact .refl s
    · exact .fillInput s p _
  · exact .refl s

theorem Keeps.tcrBlockEnd (s : State) : Keeps s s.tcrBlockEnd := by
  unfold State.tcrBlockEnd
  refine .after (.foldl _ (fun u p => .handLaneResult u s.tcr p) _ _) ?_
  dsimp only; split
  · exact .after (.askNotice _ _ _) (.unread s)
  · exact .unread s

theorem Keeps.judgeInput (s : State) (p : Fin 4) (m : Nat) (t : Stamp) : Keeps s (s.judgeInput p m t) := by
  have taken (st : InputState) : Keeps s (State.askNotice (.path p) false { s with pmn := upd s.pmn p fun r => { r with input := st } }) :=
    .after (.askNotice _ _ _) (.updPmn s p fun _ h => h)
  unfold State.judgeInput; dsimp only; split
  · split
    · have restored := Keeps.after (.lossInput _ p false) (taken (lightState s.settings.paths[p] m))
      split
      · exact .after (.restoreEvent _ p) restored
      · exact restored
    · exact .refl s
  · split
    · exact .enterLoss s p t
    · exact taken _
  · split
    · exact .refl s
    · exact taken _

theorem Keeps.judgeOutput (s : State) (p : Fin 4) (n : Nat) : Keeps s (s.judgeOutput p n) := by
  unfold State.judgeOutput; dsimp only; split
  · exact .refl s
  · exact .after (.askNotice _ _ _) (.updPmn s p fun _ h => h)

theorem Keeps.pmnPathEnd (s : State) (t : Stamp) (p : Fin 4) : Keeps s (s.pmnPathEnd t p) := by
  have formed := Keeps.updPmn s p (f := PathRec.meansFormed) fun _ h => h
  unfold State.pmnPathEnd; dsimp only; split
  · exact .after (.judgeOutput _ p _) (.after (.judgeInput _ p _ t) formed)
  · exact formed

theorem Keeps.pmnBlockEnd (s : State) (t : Stamp) : Keeps s (s.pmnBlockEnd t) := by
  unfold State.pmnBlockEnd
  exact .foldl _ (fun u p => .pmnPathEnd u t p) _ s

theorem Keeps.blockEnd (s : State) (pmnFirst : Bool) (t : Stamp) : Keeps s (s.blockEnd pmnFirst t) := by
  unfold State.blockEnd; split
  · refine .after (.settleAlarms _) ?_
    split
    · exact .after (.tcrBlockEnd _) (.after (.pmnBlockEnd _ t) (.unread s))
    · exact .after (.pmnBlockEnd _ t) (.after (.tcrBlockEnd _) (.unread s))
  · exact .refl s

theorem Keeps.judgeBias (s : State) (p : Fin 4) (v : Nat) : Keeps s (s.judgeBias p v) := by
  unfold State.judgeBias; dsimp only; split
  · exact .after (.askNotice _ _ _) (.updPmn s p fun _ h => h)
  · exact .refl s

theorem Keeps.offerReading (s : State) (i : Fin 10) (v : Nat) (h : s.mayOriginate) : Keeps s (s.offerReading i v) := by
  unfold State.offerReading; split
  · exact .judgeBias s _ v
  · split
    · exact .judgeHot s v
    · split
      · exact .judgeBattery s v h
      · split
        · exact .judgeFilter s v
        · exact .refl s

theorem Keeps.slowConversion (s : State) (code : Nat) (h : s.mayOriginate) : Keeps s (s.slowConversion code) := by
  unfold State.slowConversion; dsimp only; split
  · exact .after (.offerReading _ _ _ (by exact h)) (.unread s)
  · exact .unread s

theorem Keeps.sharedSlot (s : State) (code : Code) (t : Stamp) : Keeps s (s.sharedSlot code t) := by
  unfold State.sharedSlot; split
  next h =>
    have originates : s.mayOriginate := State.mayOriginate_of_running (State.running_of_atSlot h)
    dsimp only; split
    · exact .after (.complete _ _ _ _ (by exact originates)) (.unread s)
    · exact .after (.settleAlarms _) (.after (.slowConversion _ _ (by exact originates)) (.unread s))
  next => exact .refl s

/-! ### The arbiter (R31 to R34) -/

theorem Keeps.grantForward (s : State) (side : Side) (f : Frame) : Keeps s (s.grantForward side f) := by
  refine .setPort s side (fun ⟨room, quiet, rest⟩ => ⟨?_, fun down => ?_, rest⟩) (by simp [State.isUp])
  · simp only [List.length_tail]; omega
  · simp [quiet down]

theorem Keeps.takeMark (s : State) (side : Side) (e : Entry) : Keeps s (s.takeMark side e) := by
  unfold State.takeMark
  exact .after (.answersLeft _ _) (.shrinkSnq s fun h => by simp [h])

theorem Keeps.grantEntry (s : State) (side : Side) (e : Entry) : Keeps s (s.grantEntry side e) := by
  unfold State.grantEntry
  exact .after (.takeMark _ side e) (.setPort s side id (by simp [State.isUp]))

theorem Keeps.grant (s : State) (side : Side) : Keeps s (s.grant side) := by
  unfold State.grant; split
  · split
    · exact .grantForward s side _
    · exact .grantEntry s side _
    · exact .refl s
  · exact .refl s

theorem Keeps.transmitDone (s : State) (side : Side) : Keeps s (s.transmitDone side) := by
  unfold State.transmitDone; split
  · exact .after (.grant _ side) (.setPort s side id (by simp [State.isUp]))
  · exact .refl s

/-! ### The end of a load and the entry to RUNNING (R38 to R44) -/

/-- R40, R42: the defaults are consistent at every station. -/
theorem consistent_defaultSettings (station : Option Nat) : consistent (defaultSettings station) = true := by
  simp [consistent, pathConsistent, pairConsistent, defaultSettings, defaultPath, defaultLine]

/-- R39 to R42: the settings that a load adopts are consistent. -/
theorem consistent_judgeImage (station : Option Nat) (img : List Byte) : consistent (judgeImage station img).2.2 = true := by
  unfold judgeImage; split
  · exact consistent_defaultSettings station
  · split
    · split
      next h => exact h
      next => exact consistent_defaultSettings station
    · exact consistent_defaultSettings station

theorem Keeps.enterSite (s : State) : Keeps s s.enterSite := by
  unfold State.enterSite; dsimp only; split
  · exact .after (.askNotice _ _ _) (.unread s)
  · exact .unread s

/-- R43: the blocks at the entry to RUNNING, before STU's lines, the first STATE and the power state. -/
def State.blocksEntered (s : State) : State :=
  let c := s.settings
  { s with
    cfl := { s.cfl with phase := .running }
    smp := { Smp.reset with scanning := true }
    tcr := .ofFn fun i => s.tcr[i].tuned c i
    plg := { s.plg with osc := .ofFn fun p => { Osc.reset with on := c.paths[p].kind != .unused } }
    pmn := .replicate 4 .reset
    nbv := { s.nbv with
      west := .entered c.west c.staleTime (!s.isUp .west)
      east := .entered c.east c.staleTime (!s.isUp .east) }
    vde := .ofFn fun p => { VerdictRec.reset with verdict := if c.paths[p].kind = .span then .pending else .notApplicable } }

/-- R43: outside RUNNING a part with a station number and settings may enter it. -/
theorem Keeps.blocksEntered (s : State) (idle : s.running = false) (stationed : s.station.isSome = true)
    (settled : s.cfl.settings.isSome = true) : Keeps s s.blocksEntered where
  strap := rfl
  rstn := rfl
  ports h side := by
    cases side
    · exact ⟨(h .west).1, rfl⟩
    · exact ⟨(h .east).1, rfl⟩
  counts := fun ⟨tick, pulse, drops, malformed, own, dropped, _⟩ =>
    ⟨tick, pulse, drops, malformed, own, dropped, fun p => by simp [State.blocksEntered, PathRec.reset, VerdictRec.reset]⟩
  config := fun ⟨consistent, _, quiet⟩ => ⟨consistent, fun _ => ⟨stationed, settled⟩, quiet⟩
  test := fun ⟨_, free, _⟩ => State.testSound_of_free (free idle)

/-- R43: the entry to RUNNING is those blocks, then the lines, the first STATE, the power state and the alarms. -/
theorem State.enterRunning_eq (s : State) :
    s.enterRunning =
      let u := State.askState { s.blocksEntered.enterSite with stateTimer := .seconds s.settings.statePeriod }
      State.settleAlarms (if u.stu.allPowerGood then u else u.enterDying) := rfl

theorem Keeps.enterRunning (s : State) (idle : s.running = false) (awake : s.awake = true) (stationed : s.station.isSome = true)
    (settled : s.cfl.settings.isSome = true) : Keeps s s.enterRunning := by
  have asked : Keeps s (State.askState { s.blocksEntered.enterSite with stateTimer := .seconds s.settings.statePeriod }) :=
    .after (.askState _) (.after (.unread _) (.after (.enterSite _) (.blocksEntered s idle stationed settled)))
  rw [State.enterRunning_eq]
  refine .after (.settleAlarms _) ?_
  split
  · exact asked
  · refine .after (.enterDying _ fun _ => ?_) asked
    exact ⟨(congrArg Option.isSome asked.station).trans stationed, asked.awake.trans awake⟩

/-- R42, R64: outside RUNNING consistent settings are taken, with thresholds for the lanes. -/
theorem Keeps.settle (s : State) (idle : s.running = false) {c : Settings} (sound : consistent c = true) {phase : Phase}
    (still : phase ≠ .running) {tcr : Vector Lane 16} {outcome : Option StartOutcome} {reason : Option StartReason}
    {timer : Countdown} {i2cPhase : I2cPhase} {ended : Option I2cEnd} :
    Keeps s { s with
      cfl := { s.cfl with
        phase := phase, outcome := outcome, reason := reason, settings := some c, loadTimer := timer
        i2c := { s.cfl.i2c with phase := i2cPhase, ended := ended } }
      tcr := tcr } where
  strap := rfl
  rstn := rfl
  ports := id
  counts := id
  config := fun ⟨_, _, quiet⟩ => ⟨fun _ h => Option.some.inj h ▸ sound, by simp [State.running, still], quiet⟩
  test := fun ⟨_, free, _⟩ => State.testSound_of_free (free idle)

theorem Keeps.loadEnd (s : State) (outcome : StartOutcome) (reason : StartReason) (c : Settings) (loading : s.loading = true)
    (sound : consistent c = true) : Keeps s (s.loadEnd outcome reason c) := by
  obtain ⟨awake, phase⟩ := Bool.and_eq_true_iff.mp loading
  replace phase : s.cfl.phase = .loading := of_decide_eq_true phase
  have idle : s.running = false := by simp [State.running, phase]
  unfold State.loadEnd; dsimp only; split
  next stationed =>
    refine .after (.enterRunning _ ?_ ?_ ?_ ?_) (.settle s idle sound (by simp [phase]))
    · exact idle
    · exact awake
    · exact stationed
    · rfl
  next => exact .settle s idle sound (by decide)

theorem Keeps.loadFailed (s : State) (loading : s.loading = true) : Keeps s s.loadFailed :=
  .loadEnd s _ _ _ loading (consistent_defaultSettings _)

theorem State.loading_of_transacting {s : State} (h : s.transacting = true) : s.loading = true := (Bool.and_eq_true_iff.mp h).1

theorem Keeps.loadTimerExpiry (s : State) : Keeps s s.loadTimerExpiry := by
  unfold State.loadTimerExpiry; split
  next h =>
    have loading : s.loading = true := (Bool.and_eq_true_iff.mp h).1
    exact .after (.loadFailed _ (by exact loading)) (.trans (.unread s (choices := s.choices + 1)) (.setPins _ rfl))
  next => exact .refl s

theorem Keeps.i2cNack (s : State) : Keeps s (if s.transacting then s.loadFailed else s) := by
  split
  next h => exact .loadFailed s (State.loading_of_transacting h)
  next => exact .refl s

theorem Keeps.imageReadDone (s : State) (image : List Byte) : Keeps s (s.imageReadDone image) := by
  unfold State.imageReadDone; split
  next h =>
    exact .loadEnd s _ _ _ (State.loading_of_transacting (Bool.and_eq_true_iff.mp h).1) (consistent_judgeImage s.station image)
  next => exact .refl s

/-! ### Power-on reset and its release (R35, R36) -/

/-- What one step is to carry over: ports and CUT_OFF marks, counts, settings, and the test record. -/
def Upholds (s u : State) : Prop :=
  (s.portsSound → u.portsSound) ∧ (s.countsSound → u.countsSound) ∧ (s.configSound → u.configSound) ∧ (s.testSound → u.testSound)

theorem Keeps.upholds {s u : State} (h : Keeps s u) : Upholds s u := ⟨h.ports, h.counts, h.config, h.test⟩

theorem Port.reset_sound : Port.reset.sound := by simp [Port.sound, Port.reset, Assembly.empty]

theorem State.held_portsSound (pins : Pins) (straps : BitVec 6) (ended : Option I2cEnd) (n : Nat) (q : List Instr) :
    (State.held pins straps ended n q).portsSound := by
  intro side
  cases side
  · exact ⟨Port.reset_sound, rfl⟩
  · exact ⟨Port.reset_sound, rfl⟩

theorem State.held_countsSound (pins : Pins) (straps : BitVec 6) (ended : Option I2cEnd) (n : Nat) (q : List Instr) :
    (State.held pins straps ended n q).countsSound := by
  simp [State.countsSound, State.held, Cfl.reset, Rly.reset, Rqh.reset, PathRec.reset, VerdictRec.reset]

theorem State.held_configSound (pins : Pins) (straps : BitVec 6) (ended : Option I2cEnd) (n : Nat) (q : List Instr) :
    (State.held pins straps ended n q).configSound :=
  ⟨nofun, nofun, fun _ => rfl⟩

theorem upholds_powerOnReset (straps : BitVec 6) (s : State) : Upholds s (s.powerOnReset straps) :=
  ⟨fun _ => State.held_portsSound _ _ _ _ _, fun _ => State.held_countsSound .., fun _ => State.held_configSound ..,
    fun _ => State.testSound_of_free rfl⟩

/-- R36: a release finds a part that is silent and whose test record is FREE; the load it begins keeps both. -/
theorem upholds_rstnRelease (straps : BitVec 6) (sdaHold : Option Nat) (s : State) : Upholds s (s.rstnRelease straps sdaHold) := by
  unfold State.rstnRelease; split
  next => exact (Keeps.refl s).upholds
  next asleep =>
    have quiet : s.awake = false := by simpa using asleep
    have idle : s.running = false := by simp [State.running, show s.pins.rstn = false from quiet]
    have load := Keeps.startLoad { s with pins := { s.pins with rstn := false, sdaHold := sdaHold } } fun ⟨_, free, _⟩ => free rfl
    refine ⟨id, load.counts, fun ⟨settled, _, silent⟩ => ?_, fun ⟨_, free, _⟩ => State.testSound_of_free (free idle)⟩
    exact ⟨settled, by simp [State.running, State.startLoad], fun _ => silent (.inr quiet)⟩

/-! ### Every command and every step -/

/-- Every command keeps the bounds of ports and counts, the settings and the test record. -/
theorem exec_upholds (c : Instr) (s : State) : ∃ u, exec c s = .next u ∧ Upholds s u := by
  have request (rq : RequestHead) (body : List Byte) (t : Stamp) (run : Fin 6 → State → State × Reply)
      (hrun : ∀ k u, u.running = true → Keeps u (run k u).1) : Upholds s ((s.moment t).takeRequest rq body run) :=
    (Keeps.after (.takeRequest _ rq body run hrun) (.moment s t)).upholds
  cases c with
  | powerOnReset straps => exact ⟨_, rfl, upholds_powerOnReset straps s⟩
  | rstnRelease straps sdaHold => exact ⟨_, rfl, upholds_rstnRelease straps sdaHold s⟩
  | millisecondTick => exact ⟨_, rfl, (Keeps.millisecondTick s).upholds⟩
  | symbolReceived side sym t => exact ⟨_, rfl, (Keeps.after (.symbolReceived _ side sym t) (.moment s t)).upholds⟩
  | signalDetectChange side level t => exact ⟨_, rfl, (Keeps.after (.signalDetectChange _ side level) (.moment s t)).upholds⟩
  | silenceExpiry side t => exact ⟨_, rfl, (Keeps.after (.silenceExpiry _ side) (.moment s t)).upholds⟩
  | linkUp side t => exact ⟨_, rfl, (Keeps.after (.linkUp _ side) (.moment s t)).upholds⟩
  | agedMark side t => exact ⟨_, rfl, (Keeps.after (.agedMark _ side) (.moment s t)).upholds⟩
  | receivedFrame f => exact ⟨_, rfl, (Keeps.receivedFrame s f).upholds⟩
  | transmitDone side t => exact ⟨_, rfl, (Keeps.after (.transmitDone _ side) (.moment s t)).upholds⟩
  | i2cNack stage => exact ⟨_, rfl, (Keeps.i2cNack s).upholds⟩
  | loadTimerExpiry => exact ⟨_, rfl, (Keeps.loadTimerExpiry s).upholds⟩
  | imageReadDone image => exact ⟨_, rfl, (Keeps.imageReadDone s image).upholds⟩
  | blockStart => exact ⟨_, rfl, (Keeps.blockStart s).upholds⟩
  | tapSample channel code t => exact ⟨_, rfl, (Keeps.after (.tapSample _ channel code t) (.moment s t)).upholds⟩
  | blockEnd pmnFirst t => exact ⟨_, rfl, (Keeps.after (.blockEnd _ pmnFirst t) (.moment s t)).upholds⟩
  | sharedSlot code t => exact ⟨_, rfl, (Keeps.after (.sharedSlot _ code t) (.moment s t)).upholds⟩
  | pilotStep => exact ⟨_, rfl, (Keeps.pilotStep s).upholds⟩
  | neighbourFrame d t => exact ⟨_, rfl, (Keeps.after (.neighbourFrame _ d) (.moment s t)).upholds⟩
  | staleExpiry side => exact ⟨_, rfl, (Keeps.staleExpiry s side).upholds⟩
  | windowExpiry path => exact ⟨_, rfl, (Keeps.windowExpiry s path).upholds⟩
  | holdOffExpiry path => exact ⟨_, rfl, (Keeps.holdOffExpiry s path).upholds⟩
  | watchExpiry lane => exact ⟨_, rfl, (Keeps.watchExpiry s lane).upholds⟩
  | testExpiry => exact ⟨_, rfl, (Keeps.testExpiry s).upholds⟩
  | statePeriodExpiry => exact ⟨_, rfl, (Keeps.statePeriodExpiry s).upholds⟩
  | hutLineChange line level t => exact ⟨_, rfl, (Keeps.after (.hutLineChange _ line level t) (.moment s t)).upholds⟩
  | edgeTimerExpiry line => exact ⟨_, rfl, (Keeps.edgeTimerExpiry s line).upholds⟩
  | stallTimerExpiry line => exact ⟨_, rfl, (Keeps.stallTimerExpiry s line).upholds⟩
  | unknownRequest rq body t =>
    refine ⟨_, rfl, ?_⟩
    split
    · exact (Keeps.moment s t).upholds
    · exact request rq body t _ fun _ u _ => .refl u
  | queryPath rq args t => exact ⟨_, rfl, request rq _ t _ fun _ u _ => .refl u⟩
  | querySite rq args t => exact ⟨_, rfl, request rq _ t _ fun _ u _ => .refl u⟩
  | queryLane rq args t => exact ⟨_, rfl, request rq _ t _ fun _ u _ => .refl u⟩
  | queryNeighbour rq args t => exact ⟨_, rfl, request rq _ t _ fun _ u _ => .refl u⟩
  | probe rq args t => exact ⟨_, rfl, request rq _ t _ fun k u _ => .runProbe u args k⟩
  | toneWatch rq args t => exact ⟨_, rfl, request rq _ t _ fun k u _ => .runToneWatch u _ args k⟩
  | toneDrop rq args t => exact ⟨_, rfl, request rq _ t _ fun k u _ => .runToneDrop u _ args k⟩
  | genClaim rq args t => exact ⟨_, rfl, request rq _ t _ fun k u running => .runGenClaim u _ args k running⟩
  | genRelease rq args t => exact ⟨_, rfl, request rq _ t _ fun k u _ => .runGenRelease u _ args k⟩
  | linesSet rq args t => exact ⟨_, rfl, request rq _ t _ fun k u _ => .runLines u true args k⟩
  | linesClear rq args t => exact ⟨_, rfl, request rq _ t _ fun k u _ => .runLines u false args k⟩
  | linesAck rq args t => exact ⟨_, rfl, request rq _ t _ fun k u _ => .runLinesAck u args k⟩
  | recheck rq args t => exact ⟨_, rfl, request rq _ t _ fun k u _ => .runRecheck u args k⟩
  | restartRequest rq args t => exact ⟨_, rfl, request rq _ t _ fun k u _ => .runRestart u _ args k⟩
  | grantAtSymbolBoundary side t => exact ⟨_, rfl, (Keeps.after (.grant _ side) (.moment s t)).upholds⟩

/-- Settles O57: a step is the idle microsecond or the front command on the queue's rest, and either keeps the four invariants. -/
theorem everyStepKeepsPortsCountsAndRecords : Obligations.EveryStepKeepsPortsCountsAndRecords := by
  intro s u h
  unfold step at h; split at h
  next =>
    obtain rfl := Host.Outcome.next.inj h
    exact (Keeps.idle s).upholds
  next c rest _ =>
    obtain ⟨v, taken, upheld⟩ := exec_upholds c { s with pending := rest }
    obtain rfl := Host.Outcome.next.inj (taken.symm.trans h)
    exact upheld

end Sys2Proof.Machine
end

section
/-! SUPPORT. The power-on reset, and the part held in reset: which commands a part with RSTN low takes, and what they leave. It settles
O3. -/

namespace Sys2Proof.Machine
open Sys2Proof

/-! ### A part with RSTN low (R35) -/

theorem State.running_of_asleep {s : State} (h : s.awake = false) : s.running = false := by
  simp [State.running, show s.pins.rstn = false from h]

theorem State.moment_of_asleep {s : State} (h : s.awake = false) (t : Stamp) : s.moment t = s := by simp [State.moment, h]

theorem State.takeRequest_of_asleep {s : State} (h : s.awake = false) (rq : RequestHead) (body : List Byte)
    (run : Fin 6 → State → State × Reply) : s.takeRequest rq body run = s := by
  simp [State.takeRequest, State.takesRequests, h]

theorem State.atSlot_of_asleep {s : State} (h : s.awake = false) (k : Fin 9) : s.atSlot k = false := by
  simp [State.atSlot, State.running_of_asleep h]

theorem State.loading_of_asleep {s : State} (h : s.awake = false) : s.loading = false := by simp [State.loading, h]

theorem State.transacting_of_asleep {s : State} (h : s.awake = false) : s.transacting = false := by
  simp [State.transacting, State.loading_of_asleep h]

/-- R35: while RSTN is low and no port is UP or holds a frame, a command but POWER_ON_RESET and RSTN_RELEASE moves pins alone, and not
RSTN. -/
theorem exec_of_asleep {s : State} (asleep : s.awake = false) (quiet : ∀ side, s.isUp side = false ∧ (s.port side).tx = none) (c : Instr)
    (noReset : ∀ straps, c ≠ .powerOnReset straps) (noRelease : ∀ straps sdaHold, c ≠ .rstnRelease straps sdaHold) :
    ∃ pins : Pins, exec c s = .next { s with pins := pins } ∧ pins.rstn = s.pins.rstn := by
  have running := State.running_of_asleep asleep
  have slot := State.atSlot_of_asleep asleep
  have transacting := State.transacting_of_asleep asleep
  have moment := State.moment_of_asleep asleep
  have same {u : State} (h : u = s) :
      ∃ pins : Pins, (.next u : Host.Outcome State Fault Refusal) = .next { s with pins := pins } ∧ pins.rstn = s.pins.rstn :=
    ⟨s.pins, by rw [h], rfl⟩
  have turned (rq : RequestHead) (body : List Byte) (t : Stamp) (run : Fin 6 → State → State × Reply) :
      (s.moment t).takeRequest rq body run = s := by rw [moment t, State.takeRequest_of_asleep asleep]
  cases c with
  | powerOnReset straps => exact absurd rfl (noReset straps)
  | rstnRelease straps sdaHold => exact absurd rfl (noRelease straps sdaHold)
  | millisecondTick => exact same (by simp [State.millisecondTick, asleep])
  | symbolReceived side sym t => exact same (by simp [moment, State.symbolReceived, asleep])
  | signalDetectChange side level t =>
    refine ⟨(s.setSignal side level).pins, ?_, State.setSignal_rstn s side level⟩
    have low : (s.setSignal side level).awake = false := by simpa [State.awake] using asleep
    have set : (s.moment t).signalDetectChange side level = s.setSignal side level := by simp [moment, State.signalDetectChange, low]
    refine congrArg Host.Outcome.next (set.trans ?_)
    cases side <;> rfl
  | silenceExpiry side t => exact same (by simp [moment, State.silenceExpiry, asleep])
  | linkUp side t => exact same (by simp [moment, State.linkUp, asleep])
  | agedMark side t => exact same (by simp [moment, State.agedMark, asleep])
  | receivedFrame f => exact same (by simp [State.receivedFrame, asleep])
  | transmitDone side t => exact same (by simp [moment, State.transmitDone, (quiet side).2])
  | i2cNack stage => exact same (by simp [transacting])
  | loadTimerExpiry => exact same (by simp [State.loadTimerExpiry, State.loading_of_asleep asleep])
  | imageReadDone image => exact same (by simp [State.imageReadDone, transacting])
  | blockStart => exact same (by simp [State.blockStart, running])
  | tapSample channel code t => exact same (by simp [moment, State.tapSample, slot])
  | blockEnd pmnFirst t => exact same (by simp [moment, State.blockEnd, running])
  | sharedSlot code t => exact same (by simp [moment, State.sharedSlot, slot])
  | pilotStep => exact same (by simp [State.pilotStep, asleep])
  | neighbourFrame d t => exact same (by simp [moment, State.neighbourFrame, asleep])
  | staleExpiry side => exact same (by simp [State.staleExpiry, running])
  | windowExpiry path => exact same (by simp [State.windowExpiry, running])
  | holdOffExpiry path => exact same (by simp [State.holdOffExpiry, running])
  | watchExpiry lane => exact same (by simp [State.watchExpiry, running])
  | testExpiry => exact same (by simp [State.testExpiry, running])
  | statePeriodExpiry => exact same (by simp [State.statePeriodExpiry, running])
  | hutLineChange line level t =>
    refine ⟨{ s.pins with lines := s.pins.lines.set line.val level line.isLt }, congrArg Host.Outcome.next ?_, rfl⟩
    have low : ({ s with pins := { s.pins with lines := s.pins.lines.set line.val level line.isLt } } : State).running = false := running
    simp [moment, State.hutLineChange, low]
  | edgeTimerExpiry line => exact same (by simp [State.edgeTimerExpiry, running])
  | stallTimerExpiry line => exact same (by simp [State.stallTimerExpiry, running])
  | unknownRequest rq body t => exact same (by rw [turned, moment, ite_self])
  | queryPath rq args t => exact same (turned rq _ t _)
  | querySite rq args t => exact same (turned rq _ t _)
  | queryLane rq args t => exact same (turned rq _ t _)
  | queryNeighbour rq args t => exact same (turned rq _ t _)
  | probe rq args t => exact same (turned rq _ t _)
  | toneWatch rq args t => exact same (turned rq _ t _)
  | toneDrop rq args t => exact same (turned rq _ t _)
  | genClaim rq args t => exact same (turned rq _ t _)
  | genRelease rq args t => exact same (turned rq _ t _)
  | linesSet rq args t => exact same (turned rq _ t _)
  | linesClear rq args t => exact same (turned rq _ t _)
  | linesAck rq args t => exact same (turned rq _ t _)
  | recheck rq args t => exact same (turned rq _ t _)
  | restartRequest rq args t => exact same (turned rq _ t _)
  | grantAtSymbolBoundary side t => exact same (by simp [moment, State.grant, (quiet side).1])

/-- R35: what the part held in reset takes of another command. -/
theorem exec_held (c : Instr) (pins : Pins) (straps : BitVec 6) (ended : Option I2cEnd) (n : Nat) (q : List Instr)
    (noReset : ∀ straps, c ≠ .powerOnReset straps) (noRelease : ∀ straps sdaHold, c ≠ .rstnRelease straps sdaHold) :
    ∃ pins' : Pins, exec c (State.held pins straps ended n q) = .next (State.held pins' straps ended n q) := by
  have quiet (side : Side) : (State.held pins straps ended n q).isUp side = false ∧
      ((State.held pins straps ended n q).port side).tx = none := by
    cases side <;> exact ⟨rfl, rfl⟩
  obtain ⟨pins', next, low⟩ := exec_of_asleep (s := State.held pins straps ended n q) rfl quiet c noReset noRelease
  have levels : { pins' with rstn := false } = pins' := by rw [show false = pins'.rstn from low.symm]
  exact ⟨pins', by rw [next, State.held, State.held, levels]⟩

/-! ### What POWER_ON_RESET leaves (R35) -/

theorem lanesReset_get (i : Fin 16) : lanesReset[i] = Lane.reset i := by simp [lanesReset]

/-- R64: the channel of an automatic lane is its path's, and AIN0 stands for a pool lane's. -/
theorem Lane.resetChannel_val (i : Fin 16) : (Lane.resetChannel i).val = if i.val < 8 then i.val / 2 else 0 := by
  unfold Lane.resetChannel; split <;> rfl

/-- Settles O3: the reset state carries the tables' values by its definition, and a held part takes another command on its pins alone. -/
theorem powerOnResetHoldsThePart : Obligations.PowerOnResetHoldsThePart := by
  refine ⟨fun straps s => ⟨_, rfl, ?_⟩, fun c pins straps ended n q => exec_held c pins straps ended n q⟩
  have held : s.powerOnReset straps = State.held s.pins straps s.cfl.i2c.abandon s.choices s.pending := rfl
  refine ⟨rfl, rfl, rfl, rfl, fun side => ?port, rfl, rfl, rfl, rfl, rfl, rfl, rfl, rfl, rfl, fun i => ?slow, fun i => ?lane,
    fun p => ?pilot, ⟨rfl, rfl, rfl, rfl, rfl, rfl, rfl⟩, fun p => ?path, fun side => ?neighbour, fun p => ?verdict, fun n => ?line,
    ⟨rfl, rfl, rfl, rfl, rfl, rfl, rfl⟩, rfl, fun k => ?slot, rfl, rfl, rfl, rfl, rfl, rfl, rfl, rfl, rfl, rfl⟩
  case port => cases side <;> exact ⟨rfl, rfl, rfl, rfl, rfl, rfl, rfl, rfl, rfl, rfl⟩
  case slow => simp only [held, State.held, Smp.reset, Fin.getElem_fin, Vector.getElem_replicate, and_self]
  case lane => simp only [held, State.held, lanesReset_get, Lane.reset, Lane.resetChannel_val, and_self]
  case pilot => simp only [held, State.held, Plg.reset, Osc.reset, Fin.getElem_fin, Vector.getElem_replicate, and_self]
  case path => simp only [held, State.held, PathRec.reset, Fin.getElem_fin, Vector.getElem_replicate, and_self]
  case neighbour =>
    cases side <;>
      simp only [held, State.held, State.nb, NbRec.reset, Summary.absent, Fin.getElem_fin, Vector.getElem_replicate, and_self,
        implies_true]
  case verdict => simp only [held, State.held, VerdictRec.reset, Fin.getElem_fin, Vector.getElem_replicate, and_self]
  case line => simp only [held, State.held, Stu.reset, LineRec.reset, Fin.getElem_fin, Vector.getElem_replicate, and_self]
  case slot => simp only [held, State.held, Rqh.reset, Slot.reset, Fin.getElem_fin, Vector.getElem_replicate]

end Sys2Proof.Machine
end

section
/-! SUPPORT. The passing of time: the millisecond tick, remaining times over ticks, the moment of an event, and the step on an empty queue.
It settles O34 and O1. -/

namespace Sys2Proof.Machine
open Sys2Proof

/-! ### Timers over ticks (R1) -/

/-- R1: one tick brings a running timer down by one, and one that it brings to zero is due. -/
theorem Countdown.ticks_one (ms : Nat) : (Countdown.running ms).ticks 1 = if ms ≤ 1 then .due else .running (ms - 1) := rfl

/-- R1: n ticks bring a running timer down by n. -/
theorem Countdown.ticks_running {ms : Nat} (n : Nat) (h : 1 ≤ ms) :
    (Countdown.running ms).ticks n = if ms ≤ n then .due else .running (ms - n) := by
  rcases Nat.eq_zero_or_pos n with rfl | pos
  · simp [Nat.not_le.mpr h]
  · simp [Countdown.ticks, Nat.ne_of_gt pos]

/-! ### Remaining times (R70, R94) -/

/-- A remaining time of l milliseconds stands for l milliseconds. -/
theorem WatchTime.millis_ofMillis (l : Nat) (due : Bool) : (WatchTime.ofMillis l due).millis = l := by
  simp only [WatchTime.millis, WatchTime.ofMillis]
  omega

theorem WatchTime.ofMillis_secs_pos {l : Nat} (due : Bool) (h : 1 ≤ l) : (WatchTime.ofMillis l due).secs ≠ 0 := by
  simp only [WatchTime.ofMillis]
  omega

/-- Ticks of a remaining time of l milliseconds, 1 or more: the tick that would bring it to 0 makes it due at 1 ms. -/
theorem WatchTime.ticks_ofMillis {l : Nat} (n : Nat) (due : Bool) (h : 1 ≤ l) :
    (WatchTime.ofMillis l due).ticks n =
      if n = 0 then .ofMillis l due else if l ≤ n then .ofMillis 1 true else .ofMillis (l - n) due := by
  rcases Nat.eq_zero_or_pos n with rfl | pos
  · simp
  · have kept : (WatchTime.ofMillis l due).due = due := rfl
    simp [WatchTime.ticks, WatchTime.ofMillis_secs_pos due h, WatchTime.millis_ofMillis, Nat.ne_of_gt pos, kept]

/-- R1: k ticks of a remaining time and then j are k + j ticks. -/
theorem WatchTime.ticks_ofMillis_add (j k l : Nat) (h : 1 ≤ l) :
    ((WatchTime.ofMillis l false).ticks k).ticks j = (WatchTime.ofMillis l false).ticks (k + j) := by
  rcases Nat.eq_zero_or_pos k with rfl | pos
  · simp
  by_cases out : l ≤ k
  · have now : (WatchTime.ofMillis l false).ticks k = .ofMillis 1 true := by
      simp [WatchTime.ticks_ofMillis k false h, out, Nat.ne_of_gt pos]
    have later : (WatchTime.ofMillis l false).ticks (k + j) = .ofMillis 1 true := by
      rw [WatchTime.ticks_ofMillis (k + j) false h, if_neg (by omega), if_pos (by omega)]
    rw [now, later, WatchTime.ticks_ofMillis j true (by omega)]
    split
    · rfl
    · rw [if_pos (by omega)]
  · have now : (WatchTime.ofMillis l false).ticks k = .ofMillis (l - k) false := by
      simp [WatchTime.ticks_ofMillis k false h, out, Nat.ne_of_gt pos]
    rw [now, WatchTime.ticks_ofMillis j false (by omega), WatchTime.ticks_ofMillis (k + j) false h, if_neg (by omega : ¬ k + j = 0)]
    rcases Nat.eq_zero_or_pos j with rfl | posj
    · simp [out]
    · rw [if_neg (by omega : ¬ j = 0), Nat.sub_sub]
      congr 1
      exact propext (by omega)

theorem WatchTime.ofSecs_eq (n : Nat) : WatchTime.ofSecs n = .ofMillis (1000 * n) false := by
  have secs : (1000 * n + 999) / 1000 = n := by omega
  simp [WatchTime.ofSecs, WatchTime.ofMillis, secs]

/-- R70, R94: a remaining time of n seconds falls by one for each 1000 ticks. -/
theorem WatchTime.ticks_ofSecs {n k : Nat} (h : k < 1000 * n) :
    (WatchTime.ofSecs n).ticks k = { secs := n - k / 1000, tick := k % 1000, due := false } := by
  rw [WatchTime.ofSecs_eq, WatchTime.ticks_ofMillis k false (by omega)]
  have secs : (1000 * n - k + 999) / 1000 = n - k / 1000 := by omega
  have tick : 1000 * (n - k / 1000) - (1000 * n - k) = k % 1000 := by omega
  have left : (if k = 0 then WatchTime.ofMillis (1000 * n) false else
      if 1000 * n ≤ k then .ofMillis 1 true else .ofMillis (1000 * n - k) false) = .ofMillis (1000 * n - k) false := by
    split
    next zero => rw [zero, Nat.sub_zero]
    next => rw [if_neg (Nat.not_le.mpr h)]
  rw [left, WatchTime.ofMillis, secs, tick]

/-- R70, R94: it is due at tick 1000 n. -/
theorem WatchTime.ticks_ofSecs_due {n k : Nat} (hn : 1 ≤ n) (h : 1000 * n ≤ k) : ((WatchTime.ofSecs n).ticks k).due = true := by
  rw [WatchTime.ofSecs_eq, WatchTime.ticks_ofMillis k false (by omega), if_neg (by omega), if_pos h]
  rfl

theorem WatchTime.ticks_ofSecs_add {n : Nat} (hn : 1 ≤ n) (j k : Nat) :
    ((WatchTime.ofSecs n).ticks k).ticks j = (WatchTime.ofSecs n).ticks (k + j) := by
  rw [WatchTime.ofSecs_eq, WatchTime.ticks_ofMillis_add j k _ (by omega)]

/-! ### Recovery pulses (R37) -/

theorem I2c.elapse_idle {i : I2c} (h : i.phase ≠ .recovering) (d : Nat) : i.elapse d = i := by simp [I2c.elapse, h]

theorem I2c.elapse_recovering {i : I2c} (h : i.phase = .recovering) (d : Nat) :
    i.elapse d = { i with pulses := i.pulses + (i.sincePulse + d) / 10, sincePulse := (i.sincePulse + d) % 10 } := by
  simp [I2c.elapse, h]

/-- R37: one pulse each 10 µs, counted over d microseconds. -/
theorem I2c.elapse_pulses {i : I2c} (h : i.phase = .recovering) (d : Nat) :
    10 * (i.elapse d).pulses + (i.elapse d).sincePulse = 10 * i.pulses + i.sincePulse + d ∧ (i.elapse d).sincePulse < 10 ∧
      i.elapse d = { i with pulses := (i.elapse d).pulses, sincePulse := (i.elapse d).sincePulse } := by
  rw [I2c.elapse_recovering h]
  exact ⟨by dsimp only; omega, Nat.mod_lt _ (by decide), rfl⟩

theorem I2c.elapse_add (d e : Nat) (i : I2c) : (i.elapse d).elapse e = i.elapse (d + e) := by
  by_cases h : i.phase = .recovering
  · have h' : (i.elapse d).phase = .recovering := by rw [I2c.elapse_recovering h]; exact h
    rw [I2c.elapse_recovering h', I2c.elapse_recovering h, I2c.elapse_recovering h]
    have pulses : i.pulses + (i.sincePulse + d) / 10 + ((i.sincePulse + d) % 10 + e) / 10 = i.pulses + (i.sincePulse + (d + e)) / 10 := by
      omega
    have since : ((i.sincePulse + d) % 10 + e) % 10 = (i.sincePulse + (d + e)) % 10 := by omega
    simp only [pulses, since]
  · rw [I2c.elapse_idle h, I2c.elapse_idle h, I2c.elapse_idle h]

/-! ### MILLISECOND_TICK -/

theorem State.millisecondTick_eq {s : State} (awake : s.awake = true) : s.millisecondTick = s.elapse (1000 - s.clk.sinceTick) 1 := by
  simp [State.millisecondTick, awake]

/-- R1: n ticks, in d microseconds, bring each running timer of a block down by n, and leave its other fields. -/
theorem State.elapse_timers (s : State) (d n : Nat) :
    (∀ p : Fin 4, (s.elapse d n).vde[p] = s.vde[p].ticks n) ∧ (∀ i : Fin 16, (s.elapse d n).tcr[i] = s.tcr[i].ticks n) ∧
      ∀ m : Fin 12, (s.elapse d n).stu.lines[m] = s.stu.lines[m].ticks n := by
  rw [State.elapse_vde, State.elapse_tcr, State.elapse_stu]
  exact ⟨each_get _ _, each_get _ _, each_get _ _⟩

/-- R1, R37: time passes in the clock, the timers and the recovery pulses alone. -/
theorem State.elapse_frame (s : State) (d n : Nat) :
    { s.elapse d n with clk := s.clk, tcr := s.tcr, ttg := s.ttg, vde := s.vde, nbv := s.nbv, stu := s.stu, stateTimer := s.stateTimer,
                        cfl := s.cfl } = s := by
  rw [State.elapse, State.ticks_eq]

/-- R1: a stamp ahead of the hut clock lets the microseconds to it pass, with every tick before it. -/
theorem State.moment_ahead {s : State} {t : Stamp} (awake : s.awake = true) (ahead : isAhead s.clk.hut t = true) :
    s.moment t = s.elapse (interval s.clk.hut t) ((s.clk.sinceTick + interval s.clk.hut t - 1) / 1000) := by
  simp [State.moment, awake, ahead]

/-- Settles O34: the tick is one call of `elapse`, whose effect on each timer is known; a remaining time is counted in milliseconds; and a
moment ahead of the hut clock takes as many ticks as its microseconds hold before it. -/
theorem millisecondTickPacesTimers : Obligations.MillisecondTickPacesTimers := by
  refine ⟨fun s awake tick => ⟨_, congrArg Host.Outcome.next (State.millisecondTick_eq awake), ?_⟩, fun n hn => ?_,
    fun t s behind => ?_, fun t s awake tick ahead => ?_⟩
  · obtain ⟨vde, tcr, lines⟩ := s.elapse_timers (1000 - s.clk.sinceTick) 1
    refine ⟨?clk, ?state, ?load, ?stale, ?verdict, ?line, tcr, ?ttg, ?nb, ?deliveries, fun p => by rw [vde]; rfl, fun m => by rw [lines]; rfl,
      ?stu, ?idle, ?recovering, ?cfl, s.elapse_frame _ _⟩
    case clk => simp [Nat.add_sub_cancel' tick]
    case state => intro ms run; rw [State.elapse_stateTimer, run, Countdown.ticks_one]
    case load => intro ms run; rw [State.elapse_cfl, run, Countdown.ticks_one]
    case stale => intro side ms run; rw [State.elapse_nb, NbRec.ticks, run, Countdown.ticks_one]
    case verdict =>
      intro p ms
      rw [vde]
      exact ⟨fun run => by rw [VerdictRec.ticks, run, Countdown.ticks_one], fun run => by rw [VerdictRec.ticks, run, Countdown.ticks_one]⟩
    case line =>
      intro m ms
      rw [lines]
      exact ⟨fun run => by rw [LineRec.ticks, run, Countdown.ticks_one], fun run => by rw [LineRec.ticks, run, Countdown.ticks_one]⟩
    case ttg => rw [State.elapse_ttg]
    case nb => intro side; rw [State.elapse_nb]; rfl
    case deliveries => rw [State.elapse_nbv]
    case stu => rw [State.elapse_stu]
    case idle => intro idle; rw [State.elapse_cfl]; exact I2c.elapse_idle idle _
    case recovering => intro recovering; rw [State.elapse_cfl]; exact I2c.elapse_pulses recovering _
    case cfl => rw [State.elapse_cfl]
  · exact ⟨fun k => WatchTime.ticks_ofSecs, fun k => WatchTime.ticks_ofSecs_due hn, WatchTime.ticks_ofSecs_add hn⟩
  · exact s.moment_behind t (decide_eq_false (Nat.not_lt.mpr behind))
  · have reached : isAhead s.clk.hut t = true := decide_eq_true ahead
    have passed := State.moment_ahead awake reached
    have since : (s.moment t).clk.sinceTick = s.clk.sinceTick + interval s.clk.hut t -
        1000 * ((s.clk.sinceTick + interval s.clk.hut t - 1) / 1000) := by rw [passed, State.elapse_clk]
    refine ⟨(s.clk.sinceTick + interval s.clk.hut t - 1) / 1000, s.moment_hut t awake reached, s.moment_sinceTick t tick, ?sum, ?past,
      ?timer, ?ttg, s.moment_snq t, s.moment_smp t, s.moment_pmn t, s.moment_rqh t⟩
    case sum => rw [since]; unfold interval; omega
    case past => rw [since]; omega
    case timer => intro ms run pos; rw [passed, State.elapse_stateTimer, run, Countdown.ticks_running _ pos]
    case ttg => rw [passed, State.elapse_ttg]

/-! ### A step (R1) -/

/-- R1: an idle microsecond before the thousandth brings no tick. -/
theorem State.elapse_microsecond (s : State) (pulse : s.cfl.i2c.sincePulse < 10) :
    s.elapse 1 0 = { s with
      clk := { hut := s.clk.hut + 1, sinceTick := s.clk.sinceTick + 1 }
      cfl := { s.cfl with i2c :=
        if s.cfl.i2c.phase = .recovering then
          { s.cfl.i2c with
            pulses := if s.cfl.i2c.sincePulse = 9 then s.cfl.i2c.pulses + 1 else s.cfl.i2c.pulses
            sincePulse := if s.cfl.i2c.sincePulse = 9 then 0 else s.cfl.i2c.sincePulse + 1 }
        else s.cfl.i2c } } := by
  have pulses : s.cfl.i2c.pulses + (s.cfl.i2c.sincePulse + 1) / 10 =
      if s.cfl.i2c.sincePulse = 9 then s.cfl.i2c.pulses + 1 else s.cfl.i2c.pulses := by split <;> omega
  have since : (s.cfl.i2c.sincePulse + 1) % 10 = if s.cfl.i2c.sincePulse = 9 then 0 else s.cfl.i2c.sincePulse + 1 := by
    split <;> omega
  rw [← pulses, ← since]
  rfl

/-- R1: microseconds without a tick that follow microseconds with their ticks are one passing of time. -/
theorem State.elapse_elapse (s : State) (d e n : Nat) (ticked : 1000 * n ≤ s.clk.sinceTick + d) :
    (s.elapse d n).elapse e 0 = s.elapse (d + e) n := by
  have hut : s.clk.hut + BitVec.ofNat 32 d + BitVec.ofNat 32 e = s.clk.hut + BitVec.ofNat 32 (d + e) := by
    rw [BitVec.add_assoc, ← BitVec.ofNat_add]
  have since : s.clk.sinceTick + d - 1000 * n + e - 1000 * 0 = s.clk.sinceTick + (d + e) - 1000 * n := by omega
  simp only [State.elapse, State.ticks_zero, I2c.elapse_add, hut, since]

theorem State.idle_eq {s : State} (awake : s.awake = true) : s.idle = s.elapse 1 ((s.clk.sinceTick + 1) / 1000) := by
  simp [State.idle, awake]

/-- Settles O1: an idle microsecond is one call of `elapse`, as MILLISECOND_TICK is, and a tick reached is its first part. -/
theorem stepTakesFrontCommandOrMicrosecond : Obligations.StepTakesFrontCommandOrMicrosecond := by
  have idles {s : State} (empty : s.pending = []) : step s = .next s.idle := by simp [step, empty]
  refine ⟨fun c rest s front => by simp [step, front], fun s empty asleep => ?_, fun s empty awake => ⟨fun early pulse => ?_, fun last => ?_,
    fun reached => ?_⟩⟩
  · rw [idles empty, State.idle, if_neg (by simp [asleep])]
  · rw [idles empty, State.idle_eq awake, show (s.clk.sinceTick + 1) / 1000 = 0 by omega, State.elapse_microsecond s pulse]
  · rw [idles empty, State.idle_eq awake, last]
    exact congrArg Host.Outcome.next (by rw [State.millisecondTick_eq awake, last])
  · have taken : s.millisecondTick = s.elapse 0 1 := by rw [State.millisecondTick_eq awake, reached]
    have awake' : (s.elapse 0 1).awake = true := by simpa [State.awake] using awake
    refine ⟨s.elapse 0 1, congrArg Host.Outcome.next taken, ?_⟩
    rw [idles empty, idles (by simpa using empty), State.idle_eq awake, State.idle_eq awake', reached]
    simp [State.elapse_elapse, reached]

end Sys2Proof.Machine
end

section
/-! SUPPORT. What a received symbol does to a line port, and the ends of its link's times. It settles O10, O11 and O13. -/

namespace Sys2Proof.Machine
open Sys2Proof

/-! ### The receive assembly (R4) -/

/-- R4: the first cause of spoiling stands. -/
theorem Assembly.spoil_eq (a : Assembly) (c : SpoilCause) : a.spoil c = { a with spoiled := a.spoiled.or (some c) } := by
  unfold Assembly.spoil
  cases a.spoiled <;> rfl

/-- R4: a byte is stored in an assembly that is not spoiled and has room; one that finds no room spoils it. -/
theorem Assembly.store_eq (a : Assembly) (b : Byte) :
    a.store b =
      { a with
        bytes := if a.spoiled = none ∧ a.bytes.length < 53 then a.bytes ++ [b] else a.bytes
        spoiled := a.spoiled.or (if 53 ≤ a.bytes.length then some .overlong else none) } := by
  obtain ⟨bytes, count, esc, spoiled⟩ := a
  unfold Assembly.store
  cases spoiled with
  | some c => simp
  | none => by_cases full : 53 ≤ bytes.length <;> simp [Assembly.spoil, full, Nat.lt_of_not_le]

/-- R4: the byte that a symbol other than a delimiter gives the assembly to store, if it gives one. -/
def Assembly.storedByte (a : Assembly) (sym : Symbol) : Option Byte :=
  match sym, a.esc with
  | .error, _ => none
  | .framed b, false => if b = 0xD9 then none else some b
  | .framed b, true => if b = 0xF3 then some 0xD3 else if b = 0xF9 then some 0xD9 else none

/-- R4: the table of received symbols, for every symbol but a delimiter, row by row. -/
theorem Assembly.take_eq (a : Assembly) (sym : Symbol) :
    a.take sym =
      { bytes :=
          if a.spoiled = none ∧ a.bytes.length < 53 then a.bytes ++ (a.storedByte sym).toList else a.bytes
        count := min 255 (a.count + 1)
        esc := decide (sym = .framed 0xD9 ∧ a.esc = false)
        spoiled :=
          a.spoiled.or
            (if sym = .error then some .symbolError
            else if a.esc = true ∧ a.storedByte sym = none then some .badEscape
            else if a.storedByte sym ≠ none ∧ 53 ≤ a.bytes.length then some .overlong
            else none) } := by
  obtain ⟨bytes, count, esc, spoiled⟩ := a
  cases sym with
  | error => simp [Assembly.take, Assembly.spoil_eq, Assembly.storedByte, satAdd]
  | framed b =>
    cases esc with
    | true =>
      by_cases delimiter : b = 0xF3#8
      · simp [Assembly.take, Assembly.store_eq, Assembly.storedByte, satAdd, delimiter]
      by_cases escape : b = 0xF9#8
      · simp [Assembly.take, Assembly.store_eq, Assembly.storedByte, satAdd, escape]
      · simp [Assembly.take, Assembly.spoil_eq, Assembly.storedByte, satAdd, delimiter, escape]
    | false =>
      by_cases opens : b = 0xD9#8
      · simp [Assembly.take, Assembly.storedByte, satAdd, escapeByte, opens]
      · simp [Assembly.take, Assembly.store_eq, Assembly.storedByte, satAdd, escapeByte, opens]

/-- R4: a delimiter hands over an assembly that has counted a symbol; one that still waits for an escaped byte is spoiled by it. -/
theorem Assembly.close_eq (a : Assembly) (side : Side) (t : Stamp) :
    a.close side t =
      if a.count = 0 then none
      else some
        { side := side, bytes := a.bytes, spoiled := a.spoiled.or (if a.esc then some .badEscape else none), stamp := t } := by
  unfold Assembly.close
  cases a.esc <;> simp [Assembly.spoil_eq]

/-! ### The link machine (R5 to R7) -/

/-- R5 to R7: the table of the link machine, as one record. -/
theorem Port.linkSymbol_eq (p : Port) (signal : Bool) (sym : Symbol) (t : Stamp) :
    p.linkSymbol signal sym t =
      { p with
        link := if p.link = .down ∧ sym ≠ .error ∧ signal = true then .settling else p.link
        settleStart :=
          if p.link = .down ∧ sym ≠ .error ∧ signal = true then some t
          else if p.link = .settling ∧ sym = .error then some t
          else p.settleStart
        lastGood := if sym ≠ .error ∧ (p.link ≠ .down ∨ signal = true) then some t else p.lastGood } := by
  obtain ⟨link⟩ := p
  cases link with
  | down => cases sym <;> cases signal <;> simp [Port.linkSymbol]
  | settling => cases sym <;> simp [Port.linkSymbol]
  | up => cases sym <;> simp [Port.linkSymbol]

/-! ### SYMBOL_RECEIVED -/

/-- R4: what a symbol leaves in the receive assembly. -/
theorem Port.assemble_fst (p : Port) (side : Side) (sym : Symbol) (t : Stamp) :
    (p.assemble side sym t).1 =
      { p with assembly := if sym = .framed delimiter then .empty else p.assembly.take sym } := by
  unfold Port.assemble; split <;> rfl

/-- R4: the frame that a symbol hands RLY. -/
theorem Port.assemble_snd (p : Port) (side : Side) (sym : Symbol) (t : Stamp) :
    (p.assemble side sym t).2 =
      if sym = .framed delimiter ∧ p.link = .up then p.assembly.close side t else none := by
  unfold Port.assemble
  by_cases closing : sym = .framed delimiter <;> simp [closing]

theorem State.symbolReceived_eq {s : State} (awake : s.awake = true) (side : Side) (sym : Symbol) (t : Stamp) :
    s.symbolReceived side sym t =
      { s.setPort side (((s.port side).assemble side sym t).1.linkSymbol (s.signal side) sym t) with
        rly := { s.rly with arrivals := s.rly.arrivals ++ ((s.port side).assemble side sym t).2.toList } } := by
  simp [State.symbolReceived, awake]

/-- R4 to R7: a received symbol acts on the port of its side, and on no other. -/
theorem State.symbolReceived_port {s : State} (awake : s.awake = true) (side : Side) (sym : Symbol) (t : Stamp) :
    (s.symbolReceived side sym t).port side = ((s.port side).assemble side sym t).1.linkSymbol (s.signal side) sym t ∧
      (s.symbolReceived side sym t).port (otherSide side) = s.port (otherSide side) := by
  rw [State.symbolReceived_eq awake]
  cases side <;> exact ⟨rfl, rfl⟩

/-- R4: the assembly of the port of a received symbol. -/
theorem State.symbolReceived_assembly {s : State} (awake : s.awake = true) (side : Side) (sym : Symbol) (t : Stamp) :
    ((s.symbolReceived side sym t).port side).assembly =
      if sym = .framed delimiter then .empty else (s.port side).assembly.take sym := by
  rw [(State.symbolReceived_port awake side sym t).1, Port.linkSymbol_assembly, Port.assemble_fst]

/-- R4: the frames handed to RLY. -/
theorem State.symbolReceived_arrivals {s : State} (awake : s.awake = true) (side : Side) (sym : Symbol) (t : Stamp) :
    (s.symbolReceived side sym t).rly.arrivals =
      s.rly.arrivals ++
        (if sym = .framed delimiter ∧ (s.port side).link = .up then (s.port side).assembly.close side t else none).toList := by
  simp [State.symbolReceived_eq awake, Port.assemble_snd]

/-- Settles O10: each column of R4's table is one equation of the assembly, `Assembly.close_eq` and `Assembly.take_eq`. -/
theorem receiveAssemblyTable : Obligations.ReceiveAssemblyTable := by
  intro side sym t s₀ s now awake
  refine ⟨s.symbolReceived side sym t, by rw [now]; rfl, fun (closing : sym = .framed delimiter) => ?_,
    fun (other : sym ≠ .framed delimiter) => ?_⟩
  · rw [State.symbolReceived_assembly awake, State.symbolReceived_arrivals awake, if_pos closing, Assembly.close_eq]
    refine ⟨rfl, congrArg _ ?_⟩
    by_cases up : (s.port side).link = .up
    · by_cases zero : (s.port side).assembly.count = 0 <;> simp [closing, up, zero]
    · simp [up]
  · rw [State.symbolReceived_assembly awake, State.symbolReceived_arrivals awake, if_neg other, Assembly.take_eq]
    refine ⟨?_, rfl, rfl, _, rfl, rfl, rfl⟩
    rw [if_neg fun closing => other closing.1]
    exact List.append_nil _

/-- Settles O11: the link record is the table of `Port.linkSymbol_eq`, and the symbol replaces one port and RLY's arrivals alone. -/
theorem linkSymbolTable : Obligations.LinkSymbolTable := by
  rintro side sym t s₀ s rfl awake
  obtain ⟨same, other⟩ := State.symbolReceived_port awake side sym t
  refine ⟨_, rfl, ?_⟩
  rw [same, other, Port.linkSymbol_eq, Port.assemble_fst]
  refine ⟨rfl, rfl, rfl, rfl, rfl, ?_⟩
  rw [State.symbolReceived_eq awake]
  cases side <;> rfl

/-! ### Signal detect, LINK_UP and AGED_MARK -/

/-- Settles O13: each event meets its own test and makes its own replacement. -/
theorem signalRiseLinkUpAndAgedMark : Obligations.SignalRiseLinkUpAndAgedMark := by
  rintro side level t a s₀ s rfl awake
  refine ⟨fun quiet => congrArg Host.Outcome.next ?rise, fun settling start late => congrArg Host.Outcome.next ?up,
    fun down late => congrArg Host.Outcome.next ?aged⟩
  case rise =>
    unfold State.signalDetectChange
    refine if_neg fun falls => ?_
    simp only [State.port_setSignal, Bool.and_eq_true, Bool.not_eq_true', bne_iff_ne] at falls
    rcases quiet with high | down
    · simp [high] at falls
    · exact falls.2 down
  case up =>
    have due : reached 100000 ((s₀.moment t).port side).settleStart (s₀.moment t).clk.hut = true := by
      rw [start]; exact decide_eq_true late
    simp only [State.linkUp, awake, settling, due, decide_true, Bool.and_self, if_true, State.markCutOff, State.nb_setPort]
  case aged =>
    have due : reached 2000001 ((s₀.moment t).port side).lastDown (s₀.moment t).clk.hut = true := by
      rw [down]; exact decide_eq_true late
    simp only [State.agedMark, awake, due, Bool.and_self, if_true]

end Sys2Proof.Machine
end

section
/-! SUPPORT. Symbols, the check register and the bytes of a frame: what is sent and what reads it back. It settles O14, O15 and O17. -/

namespace Sys2Proof.Machine
open Sys2Proof

/-! ### Symbols (R2) -/

/-- A byte is the sum of its bits' values. -/
theorem byte_of_bits (b : Byte) :
    BitVec.ofNat 8
      ((b.getLsbD 0).toNat + 2 * (b.getLsbD 1).toNat + 4 * (b.getLsbD 2).toNat + 8 * (b.getLsbD 3).toNat +
        16 * (b.getLsbD 4).toNat + 32 * (b.getLsbD 5).toNat + 64 * (b.getLsbD 6).toNat + 128 * (b.getLsbD 7).toNat) = b := by
  have bit (i : Nat) : (b.getLsbD i).toNat = b.toNat / 2 ^ i % 2 := by
    rw [BitVec.getLsbD, Nat.toNat_testBit]
  have bound : b.toNat < 256 := b.isLt
  apply BitVec.eq_of_toNat_eq
  simp only [bit, BitVec.toNat_ofNat]
  omega

/-- R2: the ten levels of a byte's symbol. -/
theorem symbolBits_eq (b : Byte) :
    symbolBits b =
      [false, b.getLsbD 0, b.getLsbD 1, b.getLsbD 2, b.getLsbD 3, b.getLsbD 4, b.getLsbD 5, b.getLsbD 6, b.getLsbD 7, true] := rfl

theorem readSymbol_symbolBits (b : Byte) : readSymbol (symbolBits b) = some (.framed b) := by
  rw [symbolBits_eq]
  simp only [readSymbol, byte_of_bits]
  rfl

/-! ### The check register (R11) -/

/-- R11: one place of the shift loses nothing: its lowest bit tells whether the highest was shifted out. -/
theorem crcShift_injective {x y : BitVec 16} (h : crcShift x = crcShift y) : x = y := by
  have lowest (z : BitVec 16) : (crcShift z).getLsbD 0 = z.msb := by
    unfold crcShift
    cases top : z.msb <;> simp
  have top : x.msb = y.msb := by rw [← lowest x, ← lowest y, h]
  have shifted : x <<< 1 = y <<< 1 := by
    unfold crcShift at h
    rw [top] at h
    by_cases high : y.msb = true <;> simpa [high] using h
  have wide : x.toNat < 65536 ∧ y.toNat < 65536 := ⟨x.isLt, y.isLt⟩
  have low := congrArg BitVec.toNat shifted
  simp only [BitVec.msb_eq_decide, decide_eq_decide] at top
  simp only [BitVec.toNat_shiftLeft] at low
  apply BitVec.eq_of_toNat_eq
  omega

/-- R11: the eight places of the shift for one byte. -/
def crcShift8 (reg : BitVec 16) : BitVec 16 :=
  crcShift (crcShift (crcShift (crcShift (crcShift (crcShift (crcShift (crcShift reg)))))))

theorem crcByte_eq (reg : BitVec 16) (b : Byte) : crcByte reg b = crcShift8 (reg ^^^ (b.setWidth 16 <<< 8)) := rfl

theorem crcShift8_injective {x y : BitVec 16} (h : crcShift8 x = crcShift8 y) : x = y :=
  crcShift_injective (crcShift_injective (crcShift_injective (crcShift_injective
    (crcShift_injective (crcShift_injective (crcShift_injective (crcShift_injective h)))))))

/-- R11: a byte in the low half reaches the high half with no place shifted out. -/
theorem crcShift8_low (b : Byte) : crcShift8 (b.setWidth 16) = b.setWidth 16 <<< 8 := by
  revert b; decide +kernel

theorem crcByte_eq_zero (reg : BitVec 16) (b : Byte) : crcByte reg b = 0 ↔ reg = b.setWidth 16 <<< 8 := by
  have zero : crcShift8 0 = 0 := by decide
  rw [crcByte_eq, ← zero]
  constructor
  · intro h
    exact BitVec.xor_eq_zero_iff.mp (crcShift8_injective h)
  · intro h
    rw [h, BitVec.xor_self]
    exact zero

/-- R11: two bytes more bring the register to 0 exactly when they are its halves. -/
theorem crcByte_crcByte_eq_zero (reg : BitVec 16) (hi lo : Byte) : crcByte (crcByte reg hi) lo = 0 ↔ reg = hi ++ lo := by
  have halves : hi ++ lo = lo.setWidth 16 ^^^ (hi.setWidth 16 <<< 8) := by
    apply BitVec.eq_of_getLsbD_eq
    intro i bound
    rw [BitVec.getLsbD_append]
    by_cases low : i < 8
    · simp [low, bound]
    · simp [low, bound, BitVec.getLsbD_of_ge lo i (Nat.le_of_not_lt low)]
  rw [crcByte_eq_zero, ← crcShift8_low, crcByte_eq, halves]
  constructor
  · intro h
    rw [← crcShift8_injective h, BitVec.xor_assoc, BitVec.xor_self, BitVec.xor_zero]
  · intro h
    rw [h, BitVec.xor_assoc, BitVec.xor_self, BitVec.xor_zero]

theorem crc_append (bs cs : List Byte) : crc (bs ++ cs) = cs.foldl crcByte (crc bs) := List.foldl_append

/-- A byte appended to a word is its lowest byte. -/
theorem toNat_append_byte {w : Nat} (x : BitVec w) (b : Byte) : (x ++ b).toNat = 256 * x.toNat + b.toNat := by
  rw [BitVec.toNat_append, ← Nat.shiftLeft_add_eq_or_of_lt b.isLt, Nat.shiftLeft_eq, Nat.mul_comm]

/-- R11: the two check bytes are the halves of the register. -/
theorem crc_eq_append_iff (bs : List Byte) (hi lo : Byte) : crc bs = hi ++ lo ↔ [hi, lo] = checkBytes bs := by
  have bounds : hi.toNat < 256 ∧ lo.toNat < 256 ∧ (crc bs).toNat < 65536 := ⟨hi.isLt, lo.isLt, (crc bs).isLt⟩
  simp only [checkBytes, be16, List.cons.injEq, and_true, BitVec.toNat_inj.symm, toNat_append_byte, BitVec.toNat_ofNat]
  omega

theorem crc_eq_zero_iff (bs : List Byte) (hi lo : Byte) : crc (bs ++ [hi, lo]) = 0 ↔ [hi, lo] = checkBytes bs := by
  rw [crc_append, ← crc_eq_append_iff, ← crcByte_crcByte_eq_zero]
  rfl

/-- R11: bytes with their check bring the register to 0. -/
theorem crc_append_checkBytes (bs : List Byte) : crc (bs ++ checkBytes bs) = 0 := (crc_eq_zero_iff bs _ _).mpr rfl

/-- Settles O14: a symbol's levels are its byte's bits, and the check is the halves of the register, which two bytes bring to 0 only
where they equal them. -/
theorem symbolsAndCheckDetectErrors : Obligations.SymbolsAndCheckDetectErrors := by
  refine ⟨fun b => ⟨rfl, rfl, rfl, readSymbol_symbolBits b⟩, fun _ _ _ _ _ _ _ _ => rfl, crc_eq_zero_iff, ?_⟩
  decide +kernel

/-! ### The bytes of a frame (R10, R170) -/

theorem frameKindOfCode_code (k : FrameKind) : frameKindOfCode (frameKindCode k) = some k := by cases k <;> rfl

/-- R12, R170: the kind bytes are 1 to 4. -/
theorem frameKindOfCode_eq_none (b : Byte) : frameKindOfCode b = none ↔ ¬ (1 ≤ b.toNat ∧ b.toNat ≤ 4) := by
  revert b; decide +kernel

/-- R170: four bytes of a stamp, most significant first, read back. -/
theorem stamp_of_be32 (t : Stamp) :
    (BitVec.ofNat 8 (t.toNat / 16777216) ++ BitVec.ofNat 8 (t.toNat / 65536) ++ BitVec.ofNat 8 (t.toNat / 256) ++
      BitVec.ofNat 8 t.toNat : BitVec (8 + 8 + 8 + 8)) = t := by
  have bound : t.toNat < 4294967296 := t.isLt
  apply BitVec.eq_of_toNat_eq
  simp only [toNat_append_byte, BitVec.toNat_ofNat]
  omega

theorem Frame.length_content (f : Frame) : f.content.length = 11 + f.body.length := by
  simp [Frame.content, be32]; omega

theorem Frame.length_bytes (f : Frame) : f.bytes.length = 13 + f.body.length := by
  simp [Frame.bytes, Frame.length_content, checkBytes, be16]; omega

/-! ### Good and malformed frames (R12) -/

/-- R12: the tests that read no field. -/
def isWhole (r : ReceivedFrame) : Prop :=
  r.spoiled = none ∧ 13 ≤ r.bytes.length ∧ r.bytes.length ≤ 53 ∧ crc r.bytes = 0

theorem isWhole_iff (r : ReceivedFrame) :
    isWhole r ↔ ¬ (r.spoiled.isSome = true ∨ r.bytes.length < 13 ∨ 53 < r.bytes.length ∨ crc r.bytes ≠ 0) := by
  simp only [isWhole, not_or, Nat.not_lt, not_not, Option.isSome_iff_ne_none]

/-- R12: a frame that passes the tests which read no field is judged by its header. -/
theorem goodFrame_of_header {r : ReceivedFrame} {k origin target hopsLeft hopsDone s0 s1 s2 s3 tag len : Byte} {rest : List Byte}
    (bytes : r.bytes = k :: origin :: target :: hopsLeft :: hopsDone :: s0 :: s1 :: s2 :: s3 :: tag :: len :: rest) (whole : isWhole r) :
    goodFrame r = (frameKindOfCode k).bind fun kind =>
      if len.toNat ≠ r.bytes.length - 13 ∨ 61 ≤ origin.toNat ∨ target = 61 ∨ target = 62 ∨ 63 < target.toNat ∨
          63 < hopsLeft.toNat ∨ 63 < hopsDone.toNat then none
      else some { kind := kind, origin := origin, target := target, hopsLeft := hopsLeft, hopsDone := hopsDone,
                  stamp := s0 ++ s1 ++ s2 ++ s3, tag := tag, body := rest.take len.toNat } := by
  have passes := (isWhole_iff r).mp whole
  obtain ⟨side, _, spoiled, stamp⟩ := r
  obtain rfl : _ = _ := bytes
  unfold goodFrame
  rw [if_neg passes]
  dsimp only
  cases frameKindOfCode k with
  | none => rfl
  | some kind => simp only [Option.bind_some, ite_or]

/-- R10: 13 bytes or more open with a header. -/
theorem exists_header {bs : List Byte} (long : 13 ≤ bs.length) :
    ∃ k origin target hopsLeft hopsDone s0 s1 s2 s3 tag len rest,
      bs = k :: origin :: target :: hopsLeft :: hopsDone :: s0 :: s1 :: s2 :: s3 :: tag :: len :: rest := by
  have shift {n : Nat} {l : List Byte} (h : n + 1 ≤ l.length) : ∃ b rest, l = b :: rest ∧ n ≤ rest.length := by
    cases l with
    | nil => simp at h
    | cons b rest => exact ⟨b, rest, rfl, Nat.le_of_succ_le_succ h⟩
  obtain ⟨k, l12, rfl, h12⟩ := shift long
  obtain ⟨origin, l11, rfl, h11⟩ := shift h12
  obtain ⟨target, l10, rfl, h10⟩ := shift h11
  obtain ⟨hopsLeft, l9, rfl, h9⟩ := shift h10
  obtain ⟨hopsDone, l8, rfl, h8⟩ := shift h9
  obtain ⟨s0, l7, rfl, h7⟩ := shift h8
  obtain ⟨s1, l6, rfl, h6⟩ := shift h7
  obtain ⟨s2, l5, rfl, h5⟩ := shift h6
  obtain ⟨s3, l4, rfl, h4⟩ := shift h5
  obtain ⟨tag, l3, rfl, h3⟩ := shift h4
  obtain ⟨len, l2, rfl, h2⟩ := shift h3
  exact ⟨_, _, _, _, _, _, _, _, _, _, _, _, rfl⟩

/-- R12: a received frame that is not whole is no good frame. -/
theorem goodFrame_of_not_whole {r : ReceivedFrame} (broken : ¬ isWhole r) : goodFrame r = none := by
  unfold goodFrame
  exact if_pos (not_not.mp fun passes => broken ((isWhole_iff r).mpr passes))

/-- R12: the good frames are those that none of the ten conditions holds of. -/
theorem goodFrame_eq_none_iff (r : ReceivedFrame) : goodFrame r = none ↔ isMalformed r := by
  by_cases whole : isWhole r
  · have ⟨clean, long, short, checked⟩ := whole
    obtain ⟨k, origin, target, hopsLeft, hopsDone, s0, s1, s2, s3, tag, len, rest, bytes⟩ := exists_header long
    rw [goodFrame_of_header bytes whole]
    have fields : r.bytes.getD 0 0 = k ∧ r.bytes.getD 1 0 = origin ∧ r.bytes.getD 2 0 = target ∧ r.bytes.getD 3 0 = hopsLeft ∧
        r.bytes.getD 4 0 = hopsDone ∧ r.bytes.getD 10 0 = len := by rw [bytes]; exact ⟨rfl, rfl, rfl, rfl, rfl, rfl⟩
    have sixtyOne : target.toNat = 61 ↔ target = 61 := BitVec.toNat_inj (y := 61)
    have sixtyTwo : target.toNat = 62 ↔ target = 62 := BitVec.toNat_inj (y := 62)
    obtain ⟨kByte, originByte, targetByte, leftByte, doneByte, lenByte⟩ := fields
    simp only [isMalformed, clean, checked, Nat.not_lt.mpr long, Nat.not_lt.mpr short, kByte, originByte, targetByte, leftByte, doneByte,
      lenByte, ← frameKindOfCode_eq_none, sixtyOne, sixtyTwo]
    cases frameKindOfCode k with
    | none => simp
    | some kind => simp only [Option.bind_some, ite_eq_left_iff, reduceCtorEq, imp_false, not_not, ne_eq, not_true_eq_false, false_or]
  · have malformed : isMalformed r := by
      by_contra sound
      simp only [isMalformed, not_or, Nat.not_lt, not_not] at sound
      obtain ⟨noError, noEscape, noLength, long, short, checked, -⟩ := sound
      refine whole ⟨?_, long, short, checked⟩
      cases cause : r.spoiled with
      | none => rfl
      | some c => cases c <;> simp [cause] at noError noEscape noLength
    simp only [goodFrame_of_not_whole whole, malformed]

/-! ### The round trip of a frame (R10 to R12) -/

/-- 12.2: a frame's bytes open with its header. -/
theorem Frame.bytes_eq (f : Frame) :
    f.bytes = frameKindCode f.kind :: f.origin :: f.target :: f.hopsLeft :: f.hopsDone :: BitVec.ofNat 8 (f.stamp.toNat / 16777216) ::
      BitVec.ofNat 8 (f.stamp.toNat / 65536) :: BitVec.ofNat 8 (f.stamp.toNat / 256) :: BitVec.ofNat 8 f.stamp.toNat :: f.tag ::
      BitVec.ofNat 8 f.body.length :: (f.body ++ checkBytes f.content) := rfl

/-- R11, R12: what a frame in range is received as, given its bytes. -/
theorem goodFrame_of_bytes {f : Frame} (inRange : f.inRange) {r : ReceivedFrame} (bytes : r.bytes = f.bytes) (clean : r.spoiled = none) :
    goodFrame r = some f := by
  obtain ⟨origin, target, hopsLeft, hopsDone, body⟩ := inRange
  have length : r.bytes.length = 13 + f.body.length := by rw [bytes, f.length_bytes]
  have checked : crc r.bytes = 0 := by rw [bytes]; exact crc_append_checkBytes f.content
  have whole : isWhole r := ⟨clean, by omega, by omega, checked⟩
  have len : (BitVec.ofNat 8 f.body.length).toNat = f.body.length := by rw [BitVec.toNat_ofNat]; omega
  have valid : ¬ (f.body.length ≠ 13 + f.body.length - 13 ∨ 61 ≤ f.origin.toNat ∨ f.target = 61 ∨ f.target = 62 ∨ 63 < f.target.toNat ∨
      63 < f.hopsLeft.toNat ∨ 63 < f.hopsDone.toNat) := by
    have not61 : f.target ≠ 61 := by rintro h; simp [h] at target
    have not62 : f.target ≠ 62 := by rintro h; simp [h] at target
    simp only [not61, not62, false_or]
    omega
  rw [goodFrame_of_header (bytes.trans f.bytes_eq) whole, frameKindOfCode_code, Option.bind_some, len, length, if_neg valid,
    List.take_left, stamp_of_be32]

/-- Settles O15: a frame's bytes are whole, and each field of the header is read where it was laid out. -/
theorem frameRoundTrip : Obligations.FrameRoundTrip := by
  intro f side t inRange
  have length := f.length_bytes
  have ⟨_, _, _, _, body⟩ := inRange
  exact ⟨by omega, by omega, goodFrame_of_bytes inRange rfl rfl⟩

end Sys2Proof.Machine
end

section
/-! SUPPORT. RLY: what it does with a received frame, malformed or good. It settles O17 and O18. -/

namespace Sys2Proof.Machine
open Sys2Proof

/-! ### Forwarding (R15, R19, R20) -/

/-- R15, R19: whether RLY offers a good frame of another origin to the port of a side, and the port takes offers. -/
def State.offers (s : State) (side : Side) (f : Frame) : Bool := s.forwards f && f.hopsLeft != 0 && s.isUp side

theorem State.offers_iff (s : State) (side : Side) (f : Frame) :
    s.offers side f = true ↔
      ¬ (f.kind = .request ∧ s.station = some f.target.toNat) ∧ f.hopsLeft ≠ 0 ∧ (s.port side).link = .up := by
  simp [State.offers, State.forwards, State.isOwn, State.isUp, and_assoc, imp_iff_not_or]

/-- R19, R20: a port after an offer, or none: it queues the frame rewritten while it has room. -/
def Port.enqueue (p : Port) (f : Frame) (offered : Bool) : Port :=
  if offered = true ∧ p.fwd.length < 8 then { p with fwd := p.fwd ++ [f.rewritten] } else p

/-- R20: RLY's record after an offer to a port, or none: a full queue makes it a relay drop. -/
def Rly.forwarded (r : Rly) (p : Port) (offered : Bool) : Rly :=
  { r with relayDrops := if offered = true ∧ 8 ≤ p.fwd.length then satAdd r.relayDrops 1 else r.relayDrops }

@[simp] theorem State.setPort_self (s : State) (side : Side) : s.setPort side (s.port side) = s := by cases side <;> rfl

/-- R19, R20: a frame offered and taken reaches the forward queue or the relay drops; any other changes nothing. -/
theorem State.offer_eq (s : State) (side : Side) (f : Frame) :
    (if s.forwards f then s.offer side f else s) =
      { s.setPort side ((s.port side).enqueue f (s.offers side f)) with
        rly := s.rly.forwarded (s.port side) (s.offers side f) } := by
  have unchanged (quiet : s.offers side f = false) :
      s = { s.setPort side ((s.port side).enqueue f (s.offers side f)) with
            rly := s.rly.forwarded (s.port side) (s.offers side f) } := by
    simp [Port.enqueue, Rly.forwarded, quiet]
  by_cases passes : s.forwards f = true
  · rw [if_pos passes, State.offer]
    dsimp only
    by_cases refused : f.hopsLeft = 0 ∨ (s.port side).link ≠ .up
    · rw [if_pos refused]
      refine unchanged (Bool.eq_false_iff.mpr fun offered => ?_)
      obtain ⟨-, hops, up⟩ := (s.offers_iff side f).mp offered
      exact refused.elim hops fun down => down up
    · have offered : s.offers side f = true := by
        obtain ⟨hops, up⟩ := not_or.mp refused
        simpa [State.offers, State.isUp, passes] using ⟨hops, not_not.mp up⟩
      rw [if_neg refused]
      by_cases room : (s.port side).fwd.length < 8
      · simp only [room, if_true, Port.enqueue, Rly.forwarded, offered, and_self, Nat.not_le.mpr room, and_false, if_false]
        cases side <;> rfl
      · simp only [room, if_false, Port.enqueue, Rly.forwarded, offered, and_false, Nat.le_of_not_lt room, and_self, if_true,
          State.setPort_self]
  · rw [if_neg passes]
    exact unchanged (by simp [State.offers, passes])

/-! ### Delivery (R15 to R18) -/

theorem State.isOwn_iff (s : State) (b : Byte) : s.isOwn b = true ↔ s.station = some b.toNat := decide_eq_true_iff

theorem State.consumes_iff (s : State) (f : Frame) :
    s.consumes f = true ↔
      f.kind = .request ∧ (s.station = some f.target.toNat ∨ f.target = 63) ∧ s.cfl.phase ≠ .repeaterOnly := by
  simp [State.consumes, State.isOwn, and_assoc]

theorem State.delivers_iff (s : State) (f : Frame) :
    s.delivers f = true ↔ (f.kind = .state ∨ f.kind = .notice) ∧ s.cfl.phase = .running := by simp [State.delivers]

/-- R15: what RQH takes NBV does not. -/
theorem State.delivers_of_consumes {s : State} {f : Frame} (h : s.consumes f = true) : s.delivers f = false := by
  simp [State.delivers, ((s.consumes_iff f).mp h).1]

/-- R15 to R20: RLY's decision on a good frame of another origin, in three independent parts. -/
theorem State.relay_eq (s : State) (side : Side) (f : Frame) :
    s.relay side f =
      { s.setPort (otherSide side)
          ((s.port (otherSide side)).enqueue f (s.offers (otherSide side) f)) with
        rly := s.rly.forwarded (s.port (otherSide side)) (s.offers (otherSide side) f)
        rqh := { s.rqh with deliveries := s.rqh.deliveries ++ if s.consumes f then [f.reqDelivery] else [] }
        nbv := { s.nbv with deliveries := s.nbv.deliveries ++ if s.delivers f then [f.delivery side] else [] } } := by
  unfold State.relay
  rw [State.offer_eq]
  by_cases consumed : s.consumes f = true
  · rw [if_pos consumed, State.delivers_of_consumes consumed]
    simp [consumed]
  · by_cases delivered : s.delivers f = true <;> simp [consumed, delivered]

/-! ### RECEIVED_FRAME -/

/-- R12: RLY takes a malformed frame. -/
theorem State.receivedFrame_of_malformed {s : State} {r : ReceivedFrame} (awake : s.awake = true) (bad : goodFrame r = none) :
    s.receivedFrame r =
      { s with rly := { s.rly with malformed := satAdd s.rly.malformed 1, arrivals := s.rly.arrivals.erase r } } := by
  simp only [State.receivedFrame, awake, if_true, bad]

/-- R13, R15: RLY takes a good frame. -/
theorem State.receivedFrame_of_good {s : State} {r : ReceivedFrame} {f : Frame} (awake : s.awake = true) (good : goodFrame r = some f) :
    s.receivedFrame r =
      if s.isOwn f.origin then
        { s with rly := { s.rly with ownOrigin := satAdd s.rly.ownOrigin 1, arrivals := s.rly.arrivals.erase r } }
      else State.relay r.side f { s with rly := { s.rly with arrivals := s.rly.arrivals.erase r } } := by
  simp only [State.receivedFrame, awake, if_true, good]
  rfl

/-- R14 to R20: RLY takes a good frame of another origin. -/
theorem State.receivedFrame_of_foreign {s : State} {r : ReceivedFrame} {f : Frame} (awake : s.awake = true)
    (good : goodFrame r = some f) (foreign : s.station ≠ some f.origin.toNat) :
    s.receivedFrame r =
      { s.setPort (otherSide r.side)
          ((s.port (otherSide r.side)).enqueue f (s.offers (otherSide r.side) f)) with
        rly :=
          { s.rly.forwarded (s.port (otherSide r.side)) (s.offers (otherSide r.side) f) with
            arrivals := s.rly.arrivals.erase r }
        rqh := { s.rqh with deliveries := s.rqh.deliveries ++ if s.consumes f then [f.reqDelivery] else [] }
        nbv := { s.nbv with deliveries := s.nbv.deliveries ++ if s.delivers f then [f.delivery r.side] else [] } } := by
  rw [State.receivedFrame_of_good awake good, if_neg (mt (s.isOwn_iff _).mp foreign), State.relay_eq]
  cases r.side <;> rfl

/-- R12, R14: what RLY does with a good frame leaves the malformed counter. -/
theorem State.receivedFrame_malformed {s : State} {r : ReceivedFrame} {f : Frame} (awake : s.awake = true) (good : goodFrame r = some f) :
    (s.receivedFrame r).rly.malformed = s.rly.malformed := by
  by_cases own : s.isOwn f.origin = true
  · rw [State.receivedFrame_of_good awake good, if_pos own]
  · rw [State.receivedFrame_of_foreign awake good (mt (s.isOwn_iff _).mpr own)]
    rfl

/-- Settles O17: RLY judges a frame by `goodFrame`, and `goodFrame_eq_none_iff` says of which frames that is none. -/
theorem malformedFrameCountsOnce : Obligations.MalformedFrameCountsOnce := by
  refine fun r s awake => ⟨fun bad => ?_, fun sound => ?_⟩
  · exact congrArg Host.Outcome.next (State.receivedFrame_of_malformed awake ((goodFrame_eq_none_iff r).mpr bad))
  · obtain ⟨f, good⟩ := Option.ne_none_iff_exists'.mp (mt (goodFrame_eq_none_iff r).mp sound)
    exact ⟨_, f, rfl, good, State.receivedFrame_malformed awake good⟩

/-- Settles O18: an own frame is counted; on another RLY's decision is the three parts of `State.relay_eq`, each with its condition. -/
theorem goodFrameIsDecided : Obligations.GoodFrameIsDecided := by
  refine fun r f s awake good => ⟨fun low high own => congrArg Host.Outcome.next ?_, fun foreign => ?_⟩
  · have own : s.isOwn f.origin = true := (s.isOwn_iff _).mpr (by simp [State.station, stationOf, own, low, high])
    rw [State.receivedFrame_of_good awake good, if_pos own]
    rfl
  · refine ⟨s.receivedFrame r, s.offers (otherSide r.side) f, rfl, s.offers_iff _ f, ?_⟩
    have consumed := s.consumes_iff f
    have delivered := s.delivers_iff f
    rw [State.receivedFrame_of_foreign awake good foreign]
    simp only [← consumed, ← delivered]
    refine ⟨?_, ?_, rfl, rfl, rfl, ?_⟩ <;> cases r.side <;> rfl

end Sys2Proof.Machine
end

section
/-! SUPPORT. A frame sent symbol by symbol to an UP port. It settles O16. -/

namespace Sys2Proof.Machine
open Sys2Proof

/-! ### Escaped bytes in the receive assembly (R3, R4) -/

/-- R4: the assembly after framed symbols with the given bytes, none of them a delimiter. -/
def Assembly.takeBytes (a : Assembly) (bs : List Byte) : Assembly := bs.foldl (fun a b => a.take (.framed b)) a

/-- R3, R4: the symbols of one byte, escaped or not, store that byte. -/
theorem Assembly.takeBytes_escape (b : Byte) {bytes : List Byte} (count : Nat) (room : bytes.length < 53) :
    ∃ n, 1 ≤ n ∧
      Assembly.takeBytes { bytes := bytes, count := count, esc := false, spoiled := none } (escape b) =
        { bytes := bytes ++ [b], count := n, esc := false, spoiled := none } := by
  unfold escape Assembly.takeBytes
  split
  next special =>
    refine ⟨min 255 (min 255 (count + 1) + 1), by omega, ?_⟩
    rcases special with rfl | rfl <;>
      simp [Assembly.take_eq, Assembly.storedByte, escapeByte, delimiter, room, Nat.not_le.mpr room]
  next plain =>
    refine ⟨min 255 (count + 1), by omega, ?_⟩
    have opens : b ≠ 0xD9#8 := fun h => plain (.inr h)
    simp [Assembly.take_eq, Assembly.storedByte, opens, room, Nat.not_le.mpr room]

/-- R3, R4: the symbols of at most 53 bytes store those bytes. -/
theorem Assembly.takeBytes_escaped (bs : List Byte) {bytes : List Byte} (count : Nat) (room : bytes.length + bs.length ≤ 53) :
    ∃ n, min 1 (count + bs.length) ≤ n ∧
      Assembly.takeBytes { bytes := bytes, count := count, esc := false, spoiled := none } (bs.flatMap escape) =
        { bytes := bytes ++ bs, count := n, esc := false, spoiled := none } := by
  induction bs generalizing bytes count with
  | nil => exact ⟨count, by simp, by simp [Assembly.takeBytes]⟩
  | cons b bs ih =>
    simp only [List.length_cons] at room ⊢
    obtain ⟨n, counted, stored⟩ := Assembly.takeBytes_escape b count (bytes := bytes) (by omega)
    obtain ⟨m, countedAll, storedAll⟩ := ih n (bytes := bytes ++ [b]) (by simp only [List.length_append, List.length_singleton]; omega)
    refine ⟨m, by omega, ?_⟩
    rw [List.flatMap_cons, Assembly.takeBytes, List.foldl_append, ← Assembly.takeBytes, ← Assembly.takeBytes, stored, storedAll,
      List.append_assoc, List.singleton_append]

/-- R3: no byte is sent as a delimiter. -/
theorem delimiter_notMem_escape (b : Byte) : delimiter ∉ escape b := by
  unfold escape
  split
  next special => rcases special with rfl | rfl <;> decide
  next plain => simpa [eq_comm] using (not_or.mp plain).1

/-! ### A run over symbols -/

theorem run_succ {s u : State} (h : step s = .next u) (n : Nat) : Host.Core.run core (n + 1) s = Host.Core.run core n u := by
  have taken : core.step s = .next u := h
  simp only [Host.Core.run, taken]

/-- An UP port that receives: what the port has assembled, what RLY has been handed, and the commands that wait. -/
structure Receiving (side : Side) (arrivals : List ReceivedFrame) (a : Assembly) (pending : List Instr) (s : State) : Prop where
  awake    : s.awake = true
  up       : (s.port side).link = .up
  arrivals : s.rly.arrivals = arrivals
  assembly : (s.port side).assembly = a
  pending  : s.pending = pending

theorem State.symbolReceived_awake (s : State) (side : Side) (sym : Symbol) (t : Stamp) :
    (s.symbolReceived side sym t).awake = s.awake := (Keeps.symbolReceived s side sym t).awake

/-- R4, R7: a step that takes a received symbol. -/
theorem Receiving.step_symbol {side : Side} {arrivals : List ReceivedFrame} {a : Assembly} {sym : Symbol} {t : Stamp}
    {rest : List Instr} {s : State} (h : Receiving side arrivals a (.symbolReceived side sym t :: rest) s) :
    ∃ u, step s = .next u ∧
      Receiving side (arrivals ++ (if sym = .framed delimiter then a.close side t else none).toList)
        (if sym = .framed delimiter then .empty else a.take sym) rest u := by
  obtain ⟨awake, up, rfl, rfl, front⟩ := h
  have port : (State.moment { s with pending := rest } t).port side = s.port side := by
    rw [State.moment_port]; cases side <;> rfl
  have awake' : (State.moment { s with pending := rest } t).awake = true := by rw [State.moment_awake]; exact awake
  refine ⟨State.symbolReceived side sym t (State.moment { s with pending := rest } t), by simp only [step, front]; rfl, ?_⟩
  refine ⟨by rw [State.symbolReceived_awake, awake'], ?_, ?_, ?_, ?_⟩
  · rw [(State.symbolReceived_port awake' side sym t).1, Port.linkSymbol_up, Port.assemble_link, port, up]
  · rw [State.symbolReceived_arrivals awake', port, up, State.moment_rly]
    simp
  · rw [State.symbolReceived_assembly awake', port]
  · rw [State.symbolReceived_eq awake', State.setPort_pending, State.moment_pending]

/-- R4: the steps that take framed symbols, none of them a delimiter. -/
theorem Receiving.run_symbols {side : Side} {arrivals : List ReceivedFrame} {rest : List Instr} (sent : List (Byte × Stamp)) {a : Assembly}
    {s : State} (unclosed : delimiter ∉ sent.map (·.1))
    (h : Receiving side arrivals a (sent.map (fun x => .symbolReceived side (.framed x.1) x.2) ++ rest) s) :
    ∃ u, (∀ n, Host.Core.run core (sent.length + n) s = Host.Core.run core n u) ∧
      Receiving side arrivals (a.takeBytes (sent.map (·.1))) rest u := by
  induction sent generalizing a s with
  | nil => exact ⟨s, fun n => by rw [List.length_nil, Nat.zero_add], h⟩
  | cons x sent ih =>
    obtain ⟨plain, unclosed⟩ := List.ne_and_not_mem_of_not_mem_cons unclosed
    obtain ⟨v, taken, received⟩ := h.step_symbol
    have other : Symbol.framed x.1 ≠ .framed delimiter := fun same => plain (Symbol.framed.inj same).symm
    rw [if_neg other, if_neg other, Option.toList_none, List.append_nil] at received
    obtain ⟨u, ran, last⟩ := ih unclosed received
    refine ⟨u, fun n => ?_, last⟩
    rw [List.length_cons, Nat.add_right_comm, run_succ taken, ran]

/-- Settles O16: the symbols before the closing delimiter assemble the frame's bytes, and the delimiter hands them to RLY. -/
theorem sentFrameIsReceived : Obligations.SentFrameIsReceived := by
  intro side f sent t rest s inRange awake up empty bytes last pending
  obtain ⟨init, rfl⟩ := List.getLast?_eq_some_iff.mp last
  have escaped : init.map (·.1) = f.bytes.flatMap escape := by
    rw [List.map_append] at bytes
    exact List.append_cancel_right bytes
  have unclosed : delimiter ∉ init.map (·.1) := by
    rw [escaped, List.mem_flatMap]
    rintro ⟨b, -, closes⟩
    exact delimiter_notMem_escape b closes
  rw [List.map_append, List.append_assoc] at pending
  obtain ⟨v, ran, received⟩ := Receiving.run_symbols init unclosed ⟨awake, up, rfl, empty, pending⟩
  obtain ⟨u, taken, closed⟩ := Receiving.step_symbol received
  have length := f.length_bytes
  have ⟨_, _, _, _, body⟩ := inRange
  obtain ⟨n, counted, stored⟩ := Assembly.takeBytes_escaped f.bytes 0 (bytes := []) (by rw [List.length_nil]; omega)
  have handed : Assembly.close (Assembly.takeBytes .empty (init.map (·.1))) side t =
      some { side := side, bytes := f.bytes, spoiled := none, stamp := t } := by
    rw [escaped, Assembly.empty, stored, Assembly.close_eq, if_neg (show ¬ n = 0 by omega)]
    rfl
  obtain ⟨-, up', arrivals, assembly, rest'⟩ := closed
  refine ⟨u, { side := side, bytes := f.bytes, spoiled := none, stamp := t }, ?_, rest', ?_, rfl, rfl, ?_, up', assembly⟩
  · rw [List.length_append, ran]
    exact run_succ taken 0
  · rw [arrivals, show (0xD3 : Byte) = delimiter from rfl, if_pos rfl, handed]
    rfl
  · exact goodFrame_of_bytes inRange rfl rfl

end Sys2Proof.Machine
end

section
/-! SUPPORT. The entry of a port to DOWN: its events, what each owner does at it, and the PATH notices it asks for. It settles O12. -/

namespace Sys2Proof.Machine
open Sys2Proof

/-! ### The events (R7) -/

/-- R7: the two events that take a port from SETTLING or UP to DOWN, at the moment s. -/
def isCut (c : Instr) (side : Side) (t : Stamp) (s : State) : Prop :=
  c = .signalDetectChange side false t ∨
    c = .silenceExpiry side t ∧ ∃ g, (s.port side).lastGood = some g ∧ 1000 ≤ (s.clk.hut - g).toNat

/-- R7, R8: both events are the entry to DOWN, but for the level on the signal-detect pin. -/
theorem exec_cut {c : Instr} {side : Side} {t : Stamp} {s₀ s : State} (now : s = s₀.moment t) (cut : isCut c side t s)
    (awake : s.awake = true) (linked : (s.port side).link ≠ .down) :
    ∃ pins : Pins, pins.rstn = s.pins.rstn ∧ pins.sdaHold = s.pins.sdaHold ∧
      exec c s₀ = .next (State.entryToDown side { s with pins := pins }) := by
  have notDown : ((s.port side).link != .down) = true := bne_iff_ne.mpr linked
  rcases cut with rfl | ⟨rfl, g, last, silent⟩
  · have taken : exec (.signalDetectChange side false t) s₀ = .next ((State.setSignal side false s).entryToDown side) := by
      have awake' : (State.setSignal side false s).awake = true := by simpa [State.awake] using awake
      refine congrArg Host.Outcome.next ?_
      rw [← now]
      simp [State.signalDetectChange, awake', notDown]
    rw [taken]
    cases side
    · exact ⟨{ s.pins with lwsd := false }, rfl, rfl, rfl⟩
    · exact ⟨{ s.pins with lesd := false }, rfl, rfl, rfl⟩
  · refine ⟨s.pins, rfl, rfl, congrArg Host.Outcome.next ?_⟩
    have due : reached 1000 (s.port side).lastGood s.clk.hut = true := by rw [last]; exact decide_eq_true silent
    rw [← now, State.silenceExpiry]
    simp [awake, notDown, due]

/-! ### Notices in the send queue (R24, R25) -/

section
variable {item : Item} {prompt : Bool} {up : Side → Bool} {side : Side} {q : List Entry}

/-- R25: a remarked entry has its marks and those of the UP ports. -/
theorem Entry.mark_remark (e : Entry) (prompted : Bool) :
    ({ e.remark (up .west) (up .east) with prompted := prompted } : Entry).mark side = (e.mark side || up side) := by
  cases side <;> rfl

/-- R24: a request leaves the entries of other items as they are. -/
theorem snqAsk_filter {keep : Entry → Bool} (w x : Bool) (other : ∀ e : Entry, e.item = item → keep e = false) :
    (snqAsk item prompt w x q).filter keep = q.filter keep := by
  unfold snqAsk
  split
  · have remarked (l : List Entry) :
        (l.map fun e => if e.item = item then { e.remark w x with prompted := e.prompted || prompt } else e).filter keep =
          l.filter keep := by
      induction l with
      | nil => rfl
      | cons e l ih =>
        by_cases same : e.item = item
        · have gone := other { e.remark w x with prompted := e.prompted || prompt } same
          simp [same, other e same, gone, ih]
        · simp [same, List.filter_cons, ih]
    exact remarked q
  · split
    · rw [List.filter_append, List.filter_singleton, other _ rfl]
      simp
    · rfl

/-- R24, R25: a request marks no entry for a port that is not UP. -/
theorem snqAsk_unmarked (down : up side = false) (unmarked : ∀ e ∈ q, e.mark side = false) :
    ∀ e ∈ snqAsk item prompt (up .west) (up .east) q, e.mark side = false := by
  unfold snqAsk
  split
  · intro e mem
    obtain ⟨e, old, rfl⟩ := List.mem_map.mp mem
    split
    · rw [Entry.mark_remark, unmarked e old, down]; rfl
    · exact unmarked e old
  · split
    · intro e mem
      rcases List.mem_append.mp mem with old | new
      · exact unmarked e old
      · obtain rfl := List.mem_singleton.mp new
        cases side <;> exact down
    · exact unmarked

/-- R24, R25: after a request the item has an entry marked for each UP port. -/
theorem snqAsk_marked_up (isUp : up side = true) :
    ∃ e ∈ snqAsk item prompt (up .west) (up .east) q, e.item = item ∧ e.mark side = true := by
  unfold snqAsk
  split
  next found =>
    obtain ⟨e, old, same⟩ := List.any_eq_true.mp found
    refine ⟨_, List.mem_map_of_mem old, ?_⟩
    rw [if_pos (of_decide_eq_true same)]
    exact ⟨of_decide_eq_true same, by rw [Entry.mark_remark, isUp, Bool.or_true]⟩
  next =>
    have some_up : (up .west || up .east) = true := by cases side <;> simp [isUp]
    rw [if_pos some_up]
    refine ⟨_, List.mem_append_right _ (List.mem_singleton_self _), rfl, ?_⟩
    cases side <;> exact isUp

/-- R25: a request takes no mark from an entry of any item. -/
theorem snqAsk_keeps_mark {i : Item} (w x : Bool) (marked : ∃ e ∈ q, e.item = i ∧ e.mark side = true) :
    ∃ e ∈ snqAsk item prompt w x q, e.item = i ∧ e.mark side = true := by
  obtain ⟨e, old, same, mark⟩ := marked
  unfold snqAsk
  split
  · refine ⟨_, List.mem_map_of_mem old, ?_⟩
    split
    · exact ⟨same, by cases side <;> exact Bool.or_eq_true_iff.mpr (.inl mark)⟩
    · exact ⟨same, mark⟩
  · split
    · exact ⟨e, List.mem_append_left _ old, same, mark⟩
    · exact ⟨e, old, same, mark⟩

end

/-- R140: PATH notices asked for, one path after another, while the ports in `up` are UP. -/
def askPaths (up : Side → Bool) (paths : List (Fin 4)) (q : List Entry) : List Entry :=
  paths.foldl (fun q p => snqAsk (.notice (.path p)) false (up .west) (up .east) q) q

section
variable {up : Side → Bool} {side : Side} {paths : List (Fin 4)} {q : List Entry}

theorem askPaths_filter {keep : Entry → Bool} (other : ∀ p ∈ paths, ∀ e : Entry, e.item = .notice (.path p) → keep e = false) :
    (askPaths up paths q).filter keep = q.filter keep := by
  induction paths generalizing q with
  | nil => rfl
  | cons p paths ih =>
    obtain ⟨first, later⟩ := List.forall_mem_cons.mp other
    exact (ih later).trans (snqAsk_filter _ _ first)

theorem askPaths_unmarked (down : up side = false) (unmarked : ∀ e ∈ q, e.mark side = false) :
    ∀ e ∈ askPaths up paths q, e.mark side = false :=
  foldl_keeps (fun q => ∀ e ∈ q, e.mark side = false) _ (fun _ _ => snqAsk_unmarked down) paths q unmarked

theorem askPaths_marked_up {p : Fin 4} (isUp : up side = true) (asked : p ∈ paths) :
    ∃ e ∈ askPaths up paths q, e.item = .notice (.path p) ∧ e.mark side = true := by
  induction paths generalizing q with
  | nil => simp at asked
  | cons p' paths ih =>
    rcases List.mem_cons.mp asked with rfl | later
    · exact foldl_keeps (fun q : List Entry => ∃ e ∈ q, e.item = .notice (.path p) ∧ e.mark side = true) _
        (fun _ _ => snqAsk_keeps_mark _ _) paths _ (snqAsk_marked_up isUp)
    · exact ih later

end

/-! ### The verdicts that a link-down decides (R131, R134) -/

/-- R131, R134, R142: whether a link-down of the port on a side decides the verdict of path p. -/
def State.cutBy (s : State) (side : Side) (p : Fin 4) : Bool :=
  s.running && s.kind p = .span && upstreamSide p = side && (s.vde[p].verdict = .watch || s.vde[p].verdict = .unresolved)

theorem State.cutBy_iff (s : State) (side : Side) (p : Fin 4) :
    s.cutBy side p = true ↔
      s.running = true ∧ s.kind p = .span ∧ upstreamSide p = side ∧ (s.vde[p].verdict = .watch ∨ s.vde[p].verdict = .unresolved) := by
  simp [State.cutBy, and_assoc]

/-- R131, R134: the record of a path in WATCH or UNRESOLVED after a link-down of its upstream port. -/
def VerdictRec.cut (r : VerdictRec) : VerdictRec :=
  { r with
    verdict := .spanFault
    evidence := .lineCut
    late := decide (r.verdict = .unresolved)
    window := if r.verdict = .watch then .stopped else r.window }

theorem VerdictRec.cut_watch {r : VerdictRec} (h : r.verdict = .watch) :
    r.cut = { r with verdict := .spanFault, evidence := .lineCut, late := false, window := .stopped } := by
  simp [VerdictRec.cut, h]

theorem VerdictRec.cut_unresolved {r : VerdictRec} (h : r.verdict = .unresolved) :
    r.cut = { r with verdict := .spanFault, evidence := .lineCut, late := true } := by
  simp [VerdictRec.cut, h]

/-- R140: a verdict record replaced in RUNNING, with the notice of a change. -/
theorem State.setVerdict_eq {s : State} (running : s.running = true) (p : Fin 4) {r : VerdictRec} (changed : r.verdict ≠ s.vde[p].verdict) :
    s.setVerdict p r = { s with vde := s.vde.set p.val r p.isLt, snq := askPaths s.isUp [p] s.snq } := by
  unfold State.setVerdict
  dsimp only
  rw [if_neg changed, State.askNotice_eq _ _ _ (by exact running)]
  rfl

/-- R131, R134, R140: path p decided by a link-down in RUNNING, with its notice. -/
def State.cutPath (s : State) (p : Fin 4) : State :=
  { s with vde := s.vde.set p.val s.vde[p].cut p.isLt, snq := askPaths s.isUp [p] s.snq }

theorem State.cutPath_vde (s : State) (p q : Fin 4) : (s.cutPath p).vde[q] = if p = q then s.vde[p].cut else s.vde[q] :=
  upd_get s.vde p q VerdictRec.cut

theorem State.cutPath_cutBy {s : State} {p q : Fin 4} (other : p ≠ q) (side : Side) :
    (s.cutPath p).cutBy side q = s.cutBy side q := by
  unfold State.cutBy
  rw [State.cutPath_vde, if_neg other]
  rfl

/-- R131, R134: what a link-down does to one path in RUNNING. -/
theorem State.decideLoss_cut {s : State} (running : s.running = true) (side : Side) (p : Fin 4) :
    (if s.kind p = .span ∧ upstreamSide p = side then s.decideLoss p .spanFault .lineCut else s) =
      if s.cutBy side p then s.cutPath p else s := by
  by_cases cut : s.cutBy side p = true
  · obtain ⟨-, span, same, undecided⟩ := (s.cutBy_iff side p).mp cut
    rw [if_pos cut, if_pos ⟨span, same⟩, State.decideLoss]
    rcases undecided with watch | unresolved
    · rw [if_pos watch, State.setVerdict_eq running p (by rw [watch]; nofun), State.cutPath, VerdictRec.cut_watch watch]
    · rw [if_neg (by rw [unresolved]; decide), if_pos unresolved, State.setVerdict_eq running p (by rw [unresolved]; nofun),
        State.cutPath, VerdictRec.cut_unresolved unresolved]
  · rw [if_neg cut]
    split
    next upstream =>
      obtain ⟨span, same⟩ := upstream
      have decided := mt (s.cutBy_iff side p).mpr cut
      simp only [running, span, same, true_and, not_or] at decided
      rw [State.decideLoss, if_neg decided.1, if_neg decided.2]
    next => rfl

/-- R131, R134: what a link-down does in RUNNING to the paths of a list, in their order. -/
theorem State.foldl_cut (side : Side) (paths : List (Fin 4)) (nodup : paths.Nodup) (s : State) (running : s.running = true) :
    paths.foldl (fun s p => if s.kind p = .span ∧ upstreamSide p = side then s.decideLoss p .spanFault .lineCut else s) s =
      { s with
        vde := .ofFn fun p => if p ∈ paths ∧ s.cutBy side p = true then s.vde[p].cut else s.vde[p]
        snq := askPaths s.isUp (paths.filter (s.cutBy side)) s.snq } := by
  induction paths generalizing s with
  | nil => simp [askPaths]
  | cons p paths ih =>
    obtain ⟨fresh, nodup⟩ := List.nodup_cons.mp nodup
    rw [List.foldl_cons, State.decideLoss_cut running]
    split
    next cut =>
      have later (q : Fin 4) (mem : q ∈ paths) : (s.cutPath p).cutBy side q = s.cutBy side q :=
        State.cutPath_cutBy (fun (same : p = q) => fresh (same ▸ mem)) side
      have vde (q : Fin 4) :
          (if q ∈ paths ∧ (s.cutPath p).cutBy side q = true then (s.cutPath p).vde[q].cut else (s.cutPath p).vde[q]) =
            if q ∈ p :: paths ∧ s.cutBy side q = true then s.vde[q].cut else s.vde[q] := by
        rw [State.cutPath_vde]
        by_cases same : p = q
        · subst q
          simp [fresh, cut]
        · rw [State.cutPath_cutBy same side]
          simp [same, Ne.symm same]
      rw [ih nodup (s.cutPath p) running, funext vde, List.filter_congr later, List.filter_cons_of_pos cut]
      rfl
    next uncut =>
      have vde (q : Fin 4) :
          (if q ∈ paths ∧ s.cutBy side q = true then s.vde[q].cut else s.vde[q]) =
            if q ∈ p :: paths ∧ s.cutBy side q = true then s.vde[q].cut else s.vde[q] := by
        by_cases same : q = p
        · subst q
          simp [uncut]
        · simp [same]
      rw [ih nodup s running, funext vde, List.filter_cons_of_neg uncut]

/-- R131, R134, R140, R142: a link-down of the port on a side decides each path that it cuts, and asks for its notice. -/
theorem State.linkDownEvent_eq (s : State) (side : Side) :
    s.linkDownEvent side =
      { s with
        vde := .ofFn fun p => if s.cutBy side p = true then s.vde[p].cut else s.vde[p]
        snq := askPaths s.isUp ((List.finRange 4).filter (s.cutBy side)) s.snq } := by
  unfold State.linkDownEvent
  split
  next running =>
    rw [State.foldl_cut side _ (List.nodup_finRange 4) s running]
    simp only [List.mem_finRange, true_and]
  next resting =>
    have uncut : s.cutBy side = fun _ => false := by
      funext p
      simp [State.cutBy, resting]
    simp [uncut, askPaths]

/-! ### The marks of a port in the send queue (R29, R163) -/

theorem Entry.marked_unmark (e : Entry) (side : Side) : (e.unmark side).marked = e.mark (otherSide side) := by
  cases side <;> simp [Entry.marked, Entry.unmark, Entry.mark, otherSide]

theorem Entry.slot?_unmark (e : Entry) (side : Side) : (e.unmark side).slot? = e.slot? := by cases side <;> rfl

theorem Entry.mark_unmark (e : Entry) (side : Side) :
    (e.unmark side).mark side = false ∧ (e.unmark side).mark (otherSide side) = e.mark (otherSide side) := by
  cases side <;> exact ⟨rfl, rfl⟩

/-- R29: the send queue with a port's mark cleared everywhere; an entry left with no mark leaves. -/
def unmarkedQueue (side : Side) (q : List Entry) : List Entry := (q.map fun e => e.unmark side).filter (fun e => e.mark (otherSide side))

theorem unmarkedQueue_eq (side : Side) (q : List Entry) :
    (q.map fun e => e.unmark side).filter Entry.marked = unmarkedQueue side q := by
  refine List.filter_congr fun e mem => ?_
  obtain ⟨e, -, rfl⟩ := List.mem_map.mp mem
  rw [Entry.marked_unmark, (e.mark_unmark side).2]

/-- R29: nothing in the queue is marked for the port any longer. -/
theorem unmarkedQueue_unmarked (side : Side) (q : List Entry) : ∀ e ∈ unmarkedQueue side q, e.mark side = false := by
  intro e mem
  obtain ⟨e, -, rfl⟩ := List.mem_map.mp (List.mem_of_mem_filter mem)
  exact (e.mark_unmark side).1

/-- R29: the answer slots whose ANSWER entries leave the queue when a port's marks are cleared. -/
def slotsLeaving (side : Side) (q : List Entry) : List (Fin 6) :=
  ((q.map fun e => e.unmark side).filter (!·.marked)).filterMap Entry.slot?

theorem mem_slotsLeaving (side : Side) (q : List Entry) (k : Fin 6) :
    k ∈ slotsLeaving side q ↔ ∃ e ∈ q, e.slot? = some k ∧ (e.unmark side).marked = false := by
  simp only [slotsLeaving, List.mem_filterMap, List.mem_filter, List.mem_map, Bool.not_eq_true']
  constructor
  · rintro ⟨_, ⟨⟨e, mem, rfl⟩, gone⟩, slot⟩
    exact ⟨e, mem, by rwa [Entry.slot?_unmark] at slot, gone⟩
  · rintro ⟨e, mem, slot, gone⟩
    exact ⟨_, ⟨⟨e, mem, rfl⟩, gone⟩, by rwa [Entry.slot?_unmark]⟩

theorem State.clearMarks_eq (s : State) (side : Side) :
    s.clearMarks side = State.answersLeft (slotsLeaving side s.snq) { s with snq := unmarkedQueue side s.snq } := by
  rw [← unmarkedQueue_eq]
  rfl

/-! ### The entry to DOWN (R8) -/

/-- R8: the port of the table of R8 that enters DOWN at a hut clock value. -/
def Port.downed (p : Port) (now : Stamp) : Port :=
  { p with link := .down, lastDown := some now, aged := false, assembly := .empty, fwd := [] }

/-- R8: what the port and RLY do at the entry to DOWN. -/
def State.portDown (s : State) (side : Side) : State :=
  { s.setPort side ((s.port side).downed s.clk.hut) with
    rly := { s.rly with relayDrops := satAdd s.rly.relayDrops (s.port side).fwd.length } }

/-- R8: the owners act in the order of the table. -/
theorem State.entryToDown_eq (s : State) (side : Side) :
    s.entryToDown side =
      State.settleAlarms (State.linkDownEvent side (State.markCutOff side true ((s.portDown side).clearMarks side))) := by
  cases side <;> rfl

/-- R29, R163: the answer slots after the entries of the given slots have left. -/
def Rqh.freed (r : Rqh) (slots : List (Fin 6)) : Rqh :=
  { r with slots := .ofFn fun k => if k ∈ slots then Slot.reset else r.slots[k] }

/-- R8: the entry to DOWN of a port while no restart is pending. -/
theorem State.entryToDown_of_no_restart {s : State} (side : Side) (quiet : s.rqh.restartPending = none) :
    ∃ stu, s.entryToDown side =
      { (s.setPort side ((s.port side).downed s.clk.hut)).setNb side { s.nb side with cutOff := true } with
        rly := { s.rly with relayDrops := satAdd s.rly.relayDrops (s.port side).fwd.length }
        rqh := s.rqh.freed (slotsLeaving side s.snq)
        vde := .ofFn fun p => if s.cutBy side p = true then s.vde[p].cut else s.vde[p]
        snq := askPaths (s.portDown side).isUp ((List.finRange 4).filter (s.cutBy side)) (unmarkedQueue side s.snq)
        stu := stu } := by
  have quiet' : ({ s.portDown side with snq := unmarkedQueue side (s.portDown side).snq } : State).rqh.restartPending = none := by
    cases side <;> exact quiet
  obtain ⟨_, _, _, _, _, settled, -⟩ :=
    State.settleAlarms_changes (State.linkDownEvent side (State.markCutOff side true ((s.portDown side).clearMarks side)))
  rw [State.entryToDown_eq, settled, State.linkDownEvent_eq, State.clearMarks_eq, State.answersLeft_eq _ _ quiet']
  cases side <;> exact ⟨_, rfl⟩

/-- Settles O12: both events are one entry to DOWN, which acts on each owner once; the PATH notices it asks for come after R29's marks. -/
theorem entryToDownEffects : Obligations.EntryToDownEffects := by
  intro c side t decided s₀ s now awake linked quiet cut decides
  obtain ⟨pins, rstn, -, taken⟩ := exec_cut now cut awake linked
  have cuts (p : Fin 4) : ({ s with pins := pins } : State).cutBy side p = true ↔ decided p := by
    rw [State.cutBy_iff, decides, show ({ s with pins := pins } : State).running = s.running by simp [State.running, rstn]]
    rfl
  obtain ⟨stu, down⟩ := State.entryToDown_of_no_restart (s := { s with pins := pins }) side quiet
  have down' : (({ s with pins := pins } : State).portDown side).isUp side = false := by cases side <;> rfl
  refine ⟨_, unmarkedQueue side s.snq, taken, ?_⟩
  rw [down]
  refine ⟨?port, ?other, rfl, ?nb, ?otherNb, fun k => ?slots, rfl, fun none => ?quiet, fun keep drops => ?kept, fun p dec up => ?asked,
    ?unmarked, fun p => ?verdict, ?clk, ?tcr, ?plg, ?ttg, ?pmn, ?smp, ?cfl, ?timer⟩
  case slots =>
    simp only [Rqh.freed, ← mem_slotsLeaving, Fin.getElem_fin, Vector.getElem_ofFn]
  case quiet =>
    have empty : (List.finRange 4).filter (State.cutBy { s with pins := pins } side) = [] :=
      List.filter_eq_nil_iff.mpr fun p _ decided => none p ((cuts p).mp decided)
    simp only [empty]
    rfl
  case kept =>
    refine askPaths_filter fun p asked e item => (drops e).mpr ⟨p, (cuts p).mp ?_, item⟩
    exact (List.mem_filter.mp asked).2
  case asked =>
    refine askPaths_marked_up ?_ (List.mem_filter.mpr ⟨List.mem_finRange p, (cuts p).mpr dec⟩)
    cases side <;> exact decide_eq_true up
  case unmarked => exact askPaths_unmarked down' (unmarkedQueue_unmarked side s.snq)
  case verdict =>
    simp only [Fin.getElem_fin, Vector.getElem_ofFn]
    exact ⟨fun dec => if_pos ((cuts p).mpr dec), fun undecided => if_neg (mt (cuts p).mp undecided)⟩
  all_goals cases side <;> rfl

end Sys2Proof.Machine
end

section
/-! SUPPORT. The restart (R46): what it leaves, and the three ways in which its ANSWER entry leaves the send queue. It settles O54. -/

namespace Sys2Proof.Machine
open Sys2Proof

/-! ### What a restart leaves (R46) -/

/-- R46: the restart leaves at their values CFL's outcome, reason, settings and strap value, the step's counts, RLY's counters and the
clock, and so those of an earlier state that agrees in them. -/
theorem restarted_restart {s v : State} (cfl : v.cfl = s.cfl) (plg : v.plg = s.plg) (malformed : v.rly.malformed = s.rly.malformed)
    (ownOrigin : v.rly.ownOrigin = s.rly.ownOrigin) (clk : v.clk = s.clk) (hold : v.pins.sdaHold = s.pins.sdaHold) :
    restarted s v.restart := by
  have outcome := congrArg Cfl.outcome cfl
  have reason := congrArg Cfl.reason cfl
  have settings := congrArg Cfl.settings cfl
  have strap := congrArg Cfl.strap cfl
  have count := congrArg Plg.count plg
  refine ⟨rfl, rfl, outcome, reason, settings, strap, rfl, rfl, rfl, rfl, count, rfl, rfl, fun side => ?_, rfl, rfl, rfl, rfl, rfl, rfl,
    malformed, ownOrigin, clk, fun n held room => ?_, fun held => ?_⟩
  · cases side <;> rfl
  · change I2c.begin v.pins.sdaHold = _
    rw [hold, held]
    rcases I2c.begin_cases (some n) with ⟨m, same, -, begun⟩ | ⟨stuck, -⟩
    · rw [begun, Option.some.inj same]
    · exact absurd (stuck n rfl) (Nat.not_le.mpr room)
  · change I2c.begin v.pins.sdaHold = _
    rw [hold, held]
    rfl

/-- R168: the restart is taken when the slot that set the restart pending flag is among those whose ANSWER entries leave. -/
theorem State.answersLeft_restart {s : State} {k : Fin 6} {slots : List (Fin 6)} (pending : s.rqh.restartPending = some k)
    (leaves : k ∈ slots) : s.answersLeft slots = s.restart := by
  simp only [State.answersLeft, pending, leaves, if_true]
  rfl

theorem State.restart_not_running (s : State) : s.restart.running = false := by simp [State.running, State.restart, State.startLoad]

/-! ### At the entry to DOWN (R8, R29) -/

/-- R8, R46: the entry to DOWN of the last marked port of the ANSWER of a RESTART brings the restart. -/
theorem State.entryToDown_restart {s : State} {side : Side} {k : Fin 6} (pending : s.rqh.restartPending = some k)
    (leaves : k ∈ slotsLeaving side s.snq) : s.entryToDown side = (s.portDown side).restart := by
  have cleared : (s.portDown side).clearMarks side = (s.portDown side).restart := by
    rw [State.clearMarks_eq, State.answersLeft_restart (k := k)]
    · rfl
    · cases side <;> exact pending
    · cases side <;> exact leaves
  rw [State.entryToDown_eq, cleared, State.markCutOff_restart _ side (by cases side <;> rfl), State.linkDownEvent,
    if_neg (by rw [State.restart_not_running]; decide), State.settleAlarms, if_neg (by rw [State.restart_not_running]; decide)]

/-! ### At a grant (R28, R31) -/

/-- R33: with its forward queue empty or just served, a local source whose queue's head is marked for the port is granted that entry. -/
theorem State.choose_head {s : State} {side : Side} {e : Entry} {post : List Entry} (queue : s.snq = e :: post)
    (marked : e.mark side = true) (served : (s.port side).fwd = [] ∨ (s.port side).marker = .forward) (power : s.stu.dying = false) :
    s.choose side = some (.entry e) := by
  have work : s.localWork side = some e := by rw [State.localWork, queue, List.find?_cons_of_pos (p := fun x : Entry => x.mark side) marked]
  have quiet : s.dyingWork side = none := by simp [State.dyingWork, power]
  rw [State.choose, quiet, work]
  rcases served with empty | turn
  · rw [empty]
  · rw [turn]
    cases (s.port side).fwd <;> rfl

/-- R28, R46: the grant of the last mark of the ANSWER of a RESTART brings the restart. -/
theorem State.grantEntry_restart {s : State} {side : Side} {k : Fin 6} {e : Entry} {f : Frame} (pending : s.rqh.restartPending = some k)
    (queued : e ∈ s.snq) (item : e.item = .answer k f) (last : e.mark (otherSide side) = false) :
    s.grantEntry side e = (s.setPort side { s.port side with marker := .locally, tx := some f }).restart := by
  have frame : s.composeEntry e = f := by rw [State.composeEntry, item]
  have leaves : k ∈ ((s.snq.map fun x => if x = e then x.unmark side else x).filter (!·.marked)).filterMap Entry.slot? := by
    have slot : e.slot? = some k := by rw [Entry.slot?, item]
    have gone : (!(e.unmark side).marked) = true := by rw [Entry.marked_unmark, last]; rfl
    have mem : e.unmark side ∈ s.snq.map fun x => if x = e then x.unmark side else x :=
      List.mem_map.mpr ⟨e, queued, if_pos rfl⟩
    exact List.mem_filterMap.mpr ⟨_, List.mem_filter.mpr ⟨mem, gone⟩, by rw [Entry.slot?_unmark, slot]⟩
  rw [State.grantEntry, frame, State.takeMark, State.answersLeft_restart (k := k)]
  · rfl
  · cases side <;> exact pending
  · cases side <;> exact leaves

/-- R31, R33: an UP port with a free transmitter grants what its arbiter chooses. -/
theorem State.grant_eq {s : State} {side : Side} {e : Entry} (up : (s.port side).link = .up) (free : (s.port side).tx = none)
    (chosen : s.choose side = some (.entry e)) : s.grant side = s.grantEntry side e := by
  have up' : s.isUp side = true := decide_eq_true up
  simp only [State.grant, up', free, Option.isNone_none, Bool.and_self, if_true, chosen]

/-! ### A request in RUNNING (R161 to R163) -/

/-- R161: a request takes the lowest-numbered FREE slot. -/
theorem freeSlot_eq {slots : Vector Slot 6} {k : Fin 6} (free : slots[k].state = .free)
    (lowest : ∀ j : Fin 6, j < k → slots[j].state ≠ .free) : freeSlot slots = some k := by
  refine List.find?_eq_some_iff_getElem.mpr ⟨decide_eq_true free, k.val, by simp, by simp, fun j below => ?_⟩
  rw [List.getElem_finRange, Bool.not_eq_true', decide_eq_false_iff_not]
  exact lowest _ (Fin.lt_def.mpr below)

/-- R161: a state whose delivery of a request was taken and whose slot k holds it. -/
def State.requestIn (s : State) (k : Fin 6) (rq : RequestHead) (req : List Byte) : State := (s.requestTaken rq req).takeSlot k rq req

/-- R161 to R163: a request taken in RUNNING that is executed at once completes with its status and results. -/
theorem State.takeRequest_done {s u : State} {k : Fin 6} {rq : RequestHead} {req results : List Byte} {status : Status}
    {run : Fin 6 → State → State × Reply} (running : s.running = true) (stationed : s.station.isSome = true)
    (free : s.rqh.slots[k].state = .free) (lowest : ∀ j : Fin 6, j < k → s.rqh.slots[j].state ≠ .free)
    (ran : run k (s.requestIn k rq req) = (u, .done status results)) : s.takeRequest rq req run = u.complete k status results := by
  have phase : s.cfl.phase = .running := by simpa [State.running] using (Bool.and_eq_true_iff.mp running).2
  have takes : s.takesRequests = true := by simp [State.takesRequests, State.awake_of_running running, phase]
  have named : ¬ s.station.isNone = true := by simpa [Option.isSome_iff_ne_none] using stationed
  have loaded : ¬ s.cfl.phase = .loading := by rw [phase]; nofun
  have slot : freeSlot s.rqh.slots = some k := freeSlot_eq free lowest
  simp only [State.takeRequest, takes, if_true]
  change (if s.station.isNone = true then _ else match freeSlot s.rqh.slots with | none => _ | some k => _) = _
  rw [if_neg named, slot]
  change (if s.cfl.phase = .loading then _ else match run k (s.requestIn k rq req) with | (_, .done _ _) => _ | (_, .waiting) => _) = _
  rw [if_neg loaded, ran]

/-- R163: the completion of a request that its execution left in its slot, with a port UP. -/
theorem State.complete_requestIn {s : State} (k : Fin 6) (rq : RequestHead) (req results : List Byte) (status : Status)
    (up : s.isUp .west = true ∨ s.isUp .east = true) :
    (s.requestIn k rq req).complete k status results = s.answered k rq req (answerBody status req.head? results) := by
  have slots : upd (s.requestIn k rq req).rqh.slots k (fun r => { r with state := .ready }) =
      s.rqh.slots.set k.val
        { state := .ready, requester := rq.requester, tag := rq.tag, request := req.head?, broadcast := rq.broadcast } k.isLt := by
    simp [upd, State.requestIn, State.takeSlot, State.requestTaken]
  have record : (s.requestIn k rq req).rqh.slots[k] =
      { state := .waiting, requester := rq.requester, tag := rq.tag, request := req.head?, broadcast := rq.broadcast } := by
    simp [State.requestIn, State.takeSlot, State.requestTaken]
  rw [State.complete_eq _ _ _ _ (by exact up), slots, record]
  rfl

/-- R163, R168: with no port UP the ANSWER of an accepted RESTART leaves at its creation, and brings the restart. -/
theorem State.complete_restart {s : State} {k : Fin 6} (status : Status) (results : List Byte) (pending : s.rqh.restartPending = some k)
    (west : s.isUp .west = false) (east : s.isUp .east = false) : s.complete k status results = s.restart := by
  rw [State.complete, State.askAnswer, if_neg]
  · exact State.answersLeft_restart pending (List.mem_singleton_self k)
  · change ¬ (s.isUp .west || s.isUp .east) = true
    simp [west, east]

/-! ### RESTART (R167, R168) -/

/-- R167: an individual RESTART while no restart is pending. -/
theorem runRestart_accepted {s : State} (k : Fin 6) (clear : s.rqh.restartPending = none) :
    runRestart false [] k s = ({ s with rqh := { s.rqh with restartPending := some k } }, .done .ok []) := by
  simp [runRestart, clear]

/-- R167: an individual RESTART while one is pending. -/
theorem runRestart_busy {s : State} (k : Fin 6) (set : s.rqh.restartPending.isSome = true) :
    runRestart false [] k s = (s, .done .busy []) := by
  simp [runRestart, set]

theorem exec_restartRequest {rq : RequestHead} {t : Stamp} {s₀ s : State} (now : s = s₀.moment t) (individual : rq.broadcast = false) :
    exec (.restartRequest rq [] t) s₀ = .next (s.takeRequest rq [28] (runRestart false [])) := by
  rw [now, ← individual]
  rfl

/-- R31: both events that let a port's arbiter grant find its transmitter free, or free it first. -/
theorem exec_grants {c : Instr} {side : Side} {t : Stamp} {s₀ s : State} (now : s = s₀.moment t)
    (event : c = .grantAtSymbolBoundary side t ∧ (s.port side).tx = none ∨ c = .transmitDone side t ∧ (s.port side).tx ≠ none) :
    exec c s₀ = .next (State.grant side (s.setPort side { s.port side with tx := none })) := by
  rcases event with ⟨rfl, free⟩ | ⟨rfl, sends⟩
  · rw [← free, State.setPort_self, now]
    rfl
  · refine congrArg Host.Outcome.next ?_
    rw [← now, State.transmitDone, if_pos (Option.isSome_iff_ne_none.mpr sends)]

/-- Settles O54: an accepted RESTART leaves the flag set on its slot; each way in which that slot's ANSWER leaves is a call of
`State.answersLeft` with the slot, which is the restart, on a state that differs from s in ports, queue and pins. -/
theorem restartIsTakenWhenAnswerLeaves : Obligations.RestartIsTakenWhenAnswerLeaves := by
  refine ⟨fun rq t k s₀ s now able individual => ?asked,
    fun c side t k e f s₀ s now awake pending item marked last => ⟨fun event up queue served power => ?granted, fun cut linked queued => ?cut⟩,
    fun rq t k s₀ s now running stationed individual free lowest clear west east => ?created⟩
  case asked =>
    obtain ⟨running, stationed, free, lowest, up⟩ := able
    rw [exec_restartRequest now individual]
    refine ⟨fun clear => congrArg Host.Outcome.next ?_, fun set => congrArg Host.Outcome.next ?_⟩
    · have ran := runRestart_accepted (s := s.requestIn k rq [28]) k clear
      rw [State.takeRequest_done running stationed free lowest ran]
      exact State.complete_requestIn (s := { s with rqh := { s.rqh with restartPending := some k } }) k rq [28] [] .ok up
    · have ran := runRestart_busy (s := s.requestIn k rq [28]) k set
      rw [State.takeRequest_done running stationed free lowest ran]
      exact State.complete_requestIn k rq [28] [] .busy up
  case granted =>
    obtain ⟨post, queue⟩ := queue
    have free : ((s.setPort side { s.port side with tx := none }).port side).tx = none := by rw [State.port_setPort]
    have chosen : (s.setPort side { s.port side with tx := none }).choose side = some (.entry e) := by
      refine State.choose_head (post := post) (by rw [State.setPort_snq, queue]) marked ?_ (by rw [State.setPort_stu, power])
      rw [State.port_setPort]
      exact served
    have restarts : State.grant side (s.setPort side { s.port side with tx := none }) =
        (s.setPort side { s.port side with marker := .locally, tx := some f }).restart := by
      rw [State.grant_eq (by rw [State.port_setPort]; exact up) free chosen,
        State.grantEntry_restart (by rw [State.setPort_rqh, pending]) (by rw [State.setPort_snq, queue]; exact List.mem_cons_self) item last]
      cases side <;> rfl
    refine ⟨_, (exec_grants now event).trans (congrArg Host.Outcome.next restarts), restarted_restart ?_ ?_ ?_ ?_ ?_ ?_, ?_, ?_⟩ <;>
      cases side <;> rfl
  case cut =>
    obtain ⟨pins, -, hold, taken⟩ := exec_cut now cut awake linked
    have leaves : k ∈ slotsLeaving side s.snq :=
      (mem_slotsLeaving side s.snq k).mpr ⟨e, queued, by rw [Entry.slot?, item], by rw [Entry.marked_unmark, last]⟩
    rw [State.entryToDown_restart (s := { s with pins := pins }) pending leaves] at taken
    refine ⟨_, taken, restarted_restart ?cfl ?plg ?malformed ?ownOrigin ?clk ?hold, ?other, ?same⟩
    case hold => cases side <;> exact hold
    all_goals cases side <;> rfl
  case created =>
    have ran := runRestart_accepted (s := s.requestIn k rq [28]) k clear
    rw [exec_restartRequest now individual, State.takeRequest_done running stationed free lowest ran,
      State.complete_restart (k := k) .ok [] rfl (by exact west) (by exact east)]
    exact ⟨_, rfl, restarted_restart rfl rfl rfl rfl rfl rfl, rfl, rfl⟩

end Sys2Proof.Machine
end

section
/-! SUPPORT. What matches the send queue, the answer slots and the probe queue: the places of the entries, the entries that join and
leave, and the relation `LeavesAnswers`, with one lemma per shared operation. -/

namespace Sys2Proof.Machine
open Sys2Proof

/-! ### Items and their places (R23) -/

theorem Subject.code_lt (x : Subject) : x.code < 9 := by
  cases x with
  | path p => exact Nat.lt_trans p.isLt (by decide)
  | _ => decide

theorem Item.place_lt (i : Item) : i.place < 16 := by
  cases i with
  | state => decide
  | notice x => have := x.code_lt; simp only [Item.place]; omega
  | answer k f => have := k.isLt; simp only [Item.place]; omega

theorem Subject.code_injective {x y : Subject} (h : x.code = y.code) : x = y := by
  cases x <;> cases y <;> grind [Subject.code]

/-- R23: STATE and each notice subject has a place that no other item has. -/
theorem Item.eq_of_place {i j : Item} (h : i.place = j.place) (requested : ∀ k f, j ≠ .answer k f) : i = j := by
  cases j with
  | answer k f => exact absurd rfl (requested k f)
  | state =>
    cases i with
    | state => rfl
    | notice x => simp [Item.place] at h
    | answer k f => simp [Item.place] at h
  | notice y =>
    have bound := y.code_lt
    cases i with
    | state => simp [Item.place] at h; omega
    | notice x => exact congrArg _ (Subject.code_injective (by simpa [Item.place] using h))
    | answer k f => simp only [Item.place] at h; omega

/-- R23: the place of an answer slot is that of its ANSWER entry alone. -/
theorem Entry.slot?_of_place {e : Entry} {k : Fin 6} (h : e.item.place = 10 + k.val) : e.slot? = some k := by
  cases item : e.item with
  | state => rw [item] at h; simp [Item.place] at h; omega
  | notice x => have := x.code_lt; rw [item] at h; simp only [Item.place] at h; omega
  | answer j f =>
    rw [item] at h
    simp only [Item.place] at h
    rw [Entry.slot?, item, show j = k from Fin.ext (by omega)]

theorem Entry.slot?_eq_of_item {e d : Entry} (h : e.item = d.item) : e.slot? = d.slot? := by rw [Entry.slot?, Entry.slot?, h]

/-- R23: `State.queueSound` of the list. -/
def queueSoundOf (q : List Entry) : Prop := (∀ e ∈ q, e.marked = true) ∧ (q.map (·.item.place)).Nodup

theorem State.queueSound_iff (s : State) : s.queueSound ↔ queueSoundOf s.snq := Iff.rfl

/-- R23: sixteen places hold at most sixteen entries. -/
theorem length_le_of_queueSoundOf {q : List Entry} (h : queueSoundOf q) : q.length ≤ 16 := by
  have within : q.map (·.item.place) ⊆ List.range 16 := by
    intro n mem
    obtain ⟨e, -, rfl⟩ := List.mem_map.mp mem
    exact List.mem_range.mpr e.item.place_lt
  simpa using (h.2.subperm within).length_le

/-! ### Requests for STATE and NOTICE (R24 to R27) -/

/-- What a request for a STATE or a NOTICE makes of a send queue: sound it stays sound, and its ANSWER entries keep their order. -/
def Reasked (q q' : List Entry) : Prop := (queueSoundOf q → queueSoundOf q') ∧ answerSlots q' = answerSlots q

theorem Reasked.trans {q q' q'' : List Entry} (h : Reasked q q') (h' : Reasked q' q'') : Reasked q q'' :=
  ⟨h'.1 ∘ h.1, h'.2.trans h.2⟩

/-- The ANSWER entries are a matter of the items alone. -/
theorem answerSlots_eq (q : List Entry) :
    answerSlots q = (q.map (·.item)).filterMap fun i => match i with | .answer k _ => some k | _ => none := by
  rw [List.filterMap_map]
  rfl

/-- R24 to R26: a request coalesces with the entry of its item, or takes a place that was empty. -/
theorem Reasked.ask {item : Item} (requested : ∀ k f, item ≠ .answer k f) (prompt w x : Bool) (q : List Entry) :
    Reasked q (snqAsk item prompt w x q) := by
  have places (l : List Entry) : l.map (·.item.place) = (l.map (·.item)).map Item.place := by rw [List.map_map]; rfl
  rcases snqAsk_items item prompt w x q with same | ⟨fresh, joined⟩
  · refine ⟨fun ⟨marked, distinct⟩ => ⟨snqAsk_marked item prompt w x q marked, ?_⟩, ?_⟩
    · rw [places, same, ← places]; exact distinct
    · rw [answerSlots_eq, same, ← answerSlots_eq]
  · refine ⟨fun ⟨marked, distinct⟩ => ⟨snqAsk_marked item prompt w x q marked, ?_⟩, ?_⟩
    · rw [places, joined, List.map_append, ← places]
      refine List.nodup_append.mpr ⟨distinct, List.nodup_singleton _, fun n old m new same => ?_⟩
      obtain ⟨e, mem, rfl⟩ := List.mem_map.mp old
      obtain rfl : m = item.place := by simpa using new
      exact fresh (Item.eq_of_place same requested ▸ List.mem_map_of_mem mem)
    · rw [answerSlots_eq, joined, List.filterMap_append, ← answerSlots_eq]
      cases item with
      | answer k f => exact absurd rfl (requested k f)
      | state => exact List.append_nil _
      | notice y => exact List.append_nil _

theorem Reasked.askNotice (y : Subject) (prompt w x : Bool) (q : List Entry) : Reasked q (snqAsk (.notice y) prompt w x q) :=
  .ask (by simp) prompt w x q

theorem Reasked.askState (w x : Bool) (q : List Entry) : Reasked q (snqAsk .state false w x q) := .ask (by simp) false w x q

/-- R27: the POWER entry moves to the head and STATE leaves; the others stay. -/
theorem Reasked.dying (w x : Bool) (q : List Entry) : Reasked q (snqDying w x q) := by
  have rest : answerSlots (q.filter fun e => e.item ≠ .notice .power ∧ e.item ≠ .state) = answerSlots q := by
    unfold answerSlots
    rw [List.filterMap_filter]
    refine List.filterMap_congr fun e _ => ?_
    unfold Entry.slot?
    cases e.item <;> simp
  have headed {e : Entry} (power : e.item = .notice .power) (marked : queueSoundOf q → e.marked = true) :
      Reasked q (e :: q.filter fun e => e.item ≠ .notice .power ∧ e.item ≠ .state) := by
    refine ⟨fun sound => ⟨?_, ?_⟩, ?_⟩
    · exact List.forall_mem_cons.mpr ⟨marked sound, fun d mem => sound.1 d (List.mem_of_mem_filter mem)⟩
    · refine List.nodup_cons.mpr ⟨fun mem => ?_, sound.2.sublist (List.filter_sublist.map _)⟩
      obtain ⟨d, kept, place⟩ := List.mem_map.mp mem
      have same : d.item = .notice .power := (Item.eq_of_place place (by simp [power])).trans power
      simpa [same] using (List.mem_filter.mp kept).2
    · rw [← rest]
      simp [answerSlots, Entry.slot?, power]
  unfold snqDying
  dsimp only
  split
  next e found =>
    have power : e.item = .notice .power := by simpa using List.find?_some found
    exact headed (e := e.remark w x) power fun sound => e.remark_marked w x (sound.1 e (List.mem_of_find?_eq_some found))
  next =>
    split
    next up => exact headed rfl fun _ => up
    next =>
      exact ⟨fun sound => ⟨fun d mem => sound.1 d (List.mem_of_mem_filter mem), sound.2.sublist (List.filter_sublist.map _)⟩, rest⟩

/-! ### Queue, slots and probes matched (R161, R163) -/

/-- `State.slotsSound` and `State.queueSound` with the answer slots taken to stand in the given states. -/
def State.matchedAs (s : State) (st : Fin 6 → SlotState) : Prop :=
  s.queueSound ∧
  (∀ k : Fin 6,
    (answerSlots s.snq).count k = (if st k = .ready then 1 else 0) ∧
    (s.smp.probes.map (·.slot)).count k = (if st k = .waiting then 1 else 0)) ∧
  (s.running = false → s.smp.probes = []) ∧ s.smp.probes.length ≤ 4

/-- What every step is to keep: the send queue is sound, and the answer slots are matched by it and by the probe queue. -/
def State.matched (s : State) : Prop := s.queueSound ∧ s.slotsSound

theorem State.matched_iff (s : State) : s.matched ↔ s.matchedAs fun k => s.rqh.slots[k].state := Iff.rfl

theorem State.matched_of_matchedAs {s : State} {st : Fin 6 → SlotState} (h : s.matchedAs st)
    (states : ∀ k : Fin 6, s.rqh.slots[k].state = st k) : s.matched := by
  rw [State.matched_iff, show (fun k : Fin 6 => s.rqh.slots[k].state) = st from funext states]
  exact h

/-- A state with nothing queued and every slot FREE. -/
theorem State.matched_of_empty {s : State} (snq : s.snq = []) (probes : s.smp.probes = [])
    (slots : s.rqh.slots = .replicate 6 .reset) : s.matched := by
  refine ⟨⟨by simp [snq], by simp [snq]⟩, fun k => ?_, fun _ => probes, by simp [probes]⟩
  simp [snq, probes, slots, answerSlots, Slot.reset]

theorem State.restart_matched (s : State) : s.restart.matched := State.matched_of_empty rfl rfl rfl

theorem State.held_matched (pins : Pins) (straps : BitVec 6) (ended : Option I2cEnd) (n : Nat) (q : List Instr) :
    (State.held pins straps ended n q).matched := State.matched_of_empty rfl rfl rfl

/-- R163: slots whose ANSWER entries have left become FREE, or the restart is taken. -/
theorem State.answersLeft_matched {s : State} {st : Fin 6 → SlotState} {slots : List (Fin 6)} (h : s.matchedAs st)
    (left : ∀ k ∈ slots, st k = .free) (others : ∀ k ∉ slots, s.rqh.slots[k].state = st k) : (s.answersLeft slots).matched := by
  have freed : ({ s with rqh := s.rqh.freed slots } : State).matched := by
    refine State.matched_of_matchedAs (st := st) h fun k => ?_
    simp only [Rqh.freed, Fin.getElem_fin, Vector.getElem_ofFn]
    split
    next mem => rw [left k mem]; rfl
    next mem => exact others k mem
  unfold State.answersLeft
  dsimp only
  split
  · split
    · exact State.restart_matched _
    · exact freed
  · exact freed

/-- R28, R29: the queue with the marks of its entries changed, and the entries left without a mark gone, with their slots. -/
theorem State.sift_matched {s : State} (f : Entry → Entry) (same : ∀ e, (f e).item = e.item) (h : s.matched) :
    (State.answersLeft (((s.snq.map f).filter (!·.marked)).filterMap Entry.slot?)
      { s with snq := (s.snq.map f).filter Entry.marked }).matched := by
  obtain ⟨⟨_, distinct⟩, matching, idle, room⟩ := h
  have places : (s.snq.map f).map (·.item.place) = s.snq.map (·.item.place) := by simp [same]
  have parted (k : Fin 6) :
      (answerSlots ((s.snq.map f).filter Entry.marked)).count k +
        (((s.snq.map f).filter (!·.marked)).filterMap Entry.slot?).count k = (answerSlots s.snq).count k := by
    have slots : answerSlots (s.snq.map f) = answerSlots s.snq := by
      rw [answerSlots, List.filterMap_map]
      exact List.filterMap_congr fun e _ => Entry.slot?_eq_of_item (same e)
    rw [← slots]
    simp only [answerSlots, List.count_filterMap]
    rw [List.countP_eq_countP_filter_add (s.snq.map f) _ Entry.marked]
  generalize ((s.snq.map f).filter (!·.marked)).filterMap Entry.slot? = leaving at parted ⊢
  refine State.answersLeft_matched (st := fun k => if k ∈ leaving then .free else s.rqh.slots[k].state)
    ⟨⟨fun e mem => (List.mem_filter.mp mem).2, ?_⟩, fun k => ?_, idle, room⟩ (fun k mem => if_pos mem) fun k mem => (if_neg mem).symm
  · exact (places ▸ distinct).sublist (List.filter_sublist.map _)
  · obtain ⟨answers, probes⟩ := matching k
    have parted := parted k
    dsimp only
    by_cases mem : k ∈ leaving
    · have some_left : 0 < leaving.count k := List.count_pos_iff.mpr mem
      have ready : s.rqh.slots[k].state = .ready := by
        by_contra other
        rw [if_neg other] at answers
        omega
      simp only [ready, if_true] at answers probes
      simp only [mem, if_true]
      exact ⟨by simp; omega, by simpa using probes⟩
    · have none_left : leaving.count k = 0 := List.count_eq_zero.mpr mem
      simp only [mem, if_false]
      exact ⟨by omega, probes⟩

theorem State.clearMarks_matched {s : State} (side : Side) (h : s.matched) : (s.clearMarks side).matched :=
  State.sift_matched (·.unmark side) (fun e => by cases side <;> rfl) h

theorem State.takeMark_matched {s : State} (side : Side) (e : Entry) (h : s.matched) : (s.takeMark side e).matched := by
  refine State.sift_matched (fun x => if x = e then x.unmark side else x) (fun x => ?_) h
  split
  · cases side <;> rfl
  · rfl

/-- R163: the request in a slot that no ANSWER entry and no probe stands for completes. -/
theorem State.complete_matched {s : State} {st : Fin 6 → SlotState} {k : Fin 6} (status : Status) (results : List Byte)
    (h : s.matchedAs st) (free : st k = .free) (others : ∀ j, j ≠ k → s.rqh.slots[j].state = st j) :
    (s.complete k status results).matched := by
  have others' (j : Fin 6) (other : j ≠ k) (g : Slot → Slot) : (upd s.rqh.slots k g)[j].state = st j := by
    rw [upd_get, if_neg (Ne.symm other)]; exact others j other
  unfold State.complete State.askAnswer
  dsimp only
  split
  next up =>
    obtain ⟨⟨marked, distinct⟩, matching, idle, room⟩ := h
    have absent : k ∉ answerSlots s.snq := by
      rw [← List.count_eq_zero, (matching k).1, free]; rfl
    refine ⟨⟨?_, ?_⟩, fun j => ?_, idle, room⟩
    · intro e mem
      rcases List.mem_append.mp mem with old | new
      · exact marked e old
      · obtain rfl := List.mem_singleton.mp new
        exact up
    · rw [List.map_append]
      refine List.nodup_append.mpr ⟨distinct, List.nodup_singleton _, fun n old m new same => absent ?_⟩
      obtain ⟨e, mem, rfl⟩ := List.mem_map.mp old
      obtain rfl : m = 10 + k.val := by simpa [Item.place] using new
      exact List.mem_filterMap.mpr ⟨e, mem, Entry.slot?_of_place same⟩
    · obtain ⟨answers, probes⟩ := matching j
      have joined : answerSlots (s.snq ++ [{ item := .answer k (s.originate .answer s.rqh.slots[k].requester s.rqh.slots[k].tag
          (answerBody status s.rqh.slots[k].request results)), west := s.isUp .west, east := s.isUp .east, prompted := false }]) =
          answerSlots s.snq ++ [k] := List.filterMap_append
      refine ⟨(congrArg (List.count j) joined).trans ?_, probes.trans ?_⟩
      · by_cases same : j = k
        · subst same
          rw [List.count_append, answers, free, upd_get, if_pos rfl]
          simp
        · rw [List.count_append, answers, others' j same, List.count_eq_zero.mpr (by simpa using same)]
          rfl
      · by_cases same : j = k
        · subst same
          rw [free, upd_get, if_pos rfl]
          rfl
        · rw [others' j same]
  next =>
    refine State.answersLeft_matched (st := st) h (fun j mem => ?_) fun j mem => ?_
    · rw [List.mem_singleton.mp mem, free]
    · exact others' j (by simpa using mem) _

end Sys2Proof.Machine
end

section
/-! SUPPORT. What each block's events leave of the answers: the relation `LeavesAnswers`, and one lemma per operation, in the order of the
model's files. -/

namespace Sys2Proof.Machine
open Sys2Proof

/-! ### The relation -/

/-- From s to u a sound send queue stays sound, and the ANSWER entries, the answer slots, the probe queue, and whether the part is in
RUNNING all stand. -/
structure LeavesAnswers (s u : State) : Prop where
  queue   : Reasked s.snq u.snq
  slots   : u.rqh.slots = s.rqh.slots
  probes  : u.smp.probes = s.smp.probes
  running : u.running = s.running

/-- An operation that asks for no STATE and no NOTICE. -/
theorem LeavesAnswers.silent {s u : State} (queue : u.snq = s.snq) (slots : u.rqh.slots = s.rqh.slots)
    (probes : u.smp.probes = s.smp.probes) (running : u.running = s.running) : LeavesAnswers s u :=
  ⟨queue ▸ ⟨id, rfl⟩, slots, probes, running⟩

theorem LeavesAnswers.refl (s : State) : LeavesAnswers s s := .silent rfl rfl rfl rfl

theorem LeavesAnswers.trans {s u v : State} (h : LeavesAnswers s u) (h' : LeavesAnswers u v) : LeavesAnswers s v where
  queue := h.queue.trans h'.queue
  slots := h'.slots.trans h.slots
  probes := h'.probes.trans h.probes
  running := h'.running.trans h.running

/-- `LeavesAnswers.trans` with the later operation first, as the model writes it. -/
theorem LeavesAnswers.after {s u v : State} (h' : LeavesAnswers u v) (h : LeavesAnswers s u) : LeavesAnswers s v := h.trans h'

theorem LeavesAnswers.foldl {α : Type} (f : State → α → State) (hf : ∀ s a, LeavesAnswers s (f s a)) (l : List α) (s : State) :
    LeavesAnswers s (l.foldl f s) :=
  foldl_keeps (LeavesAnswers s) f (fun u a h => h.trans (hf u a)) l s (.refl s)

/-- What leaves the answers leaves queue, slots and probes matched. -/
theorem LeavesAnswers.matchedAs {s u : State} {st : Fin 6 → SlotState} (h : LeavesAnswers s u) (sound : s.matchedAs st) :
    u.matchedAs st := by
  obtain ⟨queue, matching, idle, room⟩ := sound
  refine ⟨h.queue.1 queue, ?_, ?_, ?_⟩
  · rw [h.queue.2, h.probes]; exact matching
  · rw [h.running, h.probes]; exact idle
  · rw [h.probes]; exact room

theorem LeavesAnswers.matched {s u : State} (h : LeavesAnswers s u) (sound : s.matched) : u.matched :=
  State.matched_of_matchedAs (h.matchedAs sound) fun k => by rw [h.slots]

/-! ### The shared operations -/

theorem LeavesAnswers.setPort (s : State) (side : Side) (p : Port) : LeavesAnswers s (s.setPort side p) :=
  .silent (by simp) (by simp) (by simp) (by simp [State.running])

theorem LeavesAnswers.setNb (s : State) (side : Side) (r : NbRec) : LeavesAnswers s (s.setNb side r) :=
  .silent (by simp) (by simp) (by simp) (by simp [State.running])

theorem LeavesAnswers.elapse (s : State) (d n : Nat) : LeavesAnswers s (s.elapse d n) :=
  .silent (by simp) (by simp) (by simp) (by simp [State.running])

theorem LeavesAnswers.moment (s : State) (t : Stamp) : LeavesAnswers s (s.moment t) :=
  .silent (by simp) (by simp) (by simp) (by simp)

theorem LeavesAnswers.idle (s : State) : LeavesAnswers s s.idle := by
  unfold State.idle; split
  · exact .elapse s _ _
  · exact .refl s

theorem LeavesAnswers.millisecondTick (s : State) : LeavesAnswers s s.millisecondTick := by
  unfold State.millisecondTick; split
  · exact .elapse s _ _
  · exact .refl s

theorem LeavesAnswers.askNotice (s : State) (x : Subject) (prompt : Bool) : LeavesAnswers s (s.askNotice x prompt) := by
  unfold State.askNotice; split
  · exact ⟨.askNotice .., rfl, rfl, rfl⟩
  · exact .refl s

theorem LeavesAnswers.askState (s : State) : LeavesAnswers s s.askState := by
  unfold State.askState; split
  · exact ⟨.askState .., rfl, rfl, rfl⟩
  · exact .refl s

theorem LeavesAnswers.settleAlarms (s : State) : LeavesAnswers s s.settleAlarms := by
  obtain ⟨_, _, _, _, _, h, -⟩ := s.settleAlarms_changes
  exact h ▸ .silent rfl rfl rfl rfl

/-! ### VDE (Chapter 9) -/

theorem LeavesAnswers.setVde (s : State) {v : Vector VerdictRec 4} : LeavesAnswers s { s with vde := v } := .silent rfl rfl rfl rfl

theorem LeavesAnswers.setVerdict (s : State) (p : Fin 4) (r : VerdictRec) : LeavesAnswers s (s.setVerdict p r) := by
  unfold State.setVerdict; dsimp only; split
  · exact .setVde s
  · exact .after (.askNotice _ _ _) (.setVde s)

theorem LeavesAnswers.lightEvaluation (s : State) (p : Fin 4) : LeavesAnswers s (s.lightEvaluation p) := by
  unfold State.lightEvaluation; dsimp only; split
  · exact .setVerdict s p _
  · exact .refl s

theorem LeavesAnswers.laneResult (s : State) (p : Fin 4) (normal fill : Bool) : LeavesAnswers s (s.laneResult p normal fill) := by
  unfold State.laneResult; dsimp only; split
  · exact .after (.lightEvaluation _ p) (.setVde s)
  · exact .setVde s

theorem LeavesAnswers.lossEvent (s : State) (p : Fin 4) (loss : Stamp) : LeavesAnswers s (s.lossEvent p loss) := by
  unfold State.lossEvent; split
  · exact .setVerdict s p _
  · split
    · exact .setVerdict s p _
    · exact .refl s

theorem LeavesAnswers.restoreEvent (s : State) (p : Fin 4) : LeavesAnswers s (s.restoreEvent p) := by
  unfold State.restoreEvent; dsimp only; split
  · exact .setVerdict s p _
  · exact .refl s

theorem LeavesAnswers.decideLoss (s : State) (p : Fin 4) (v : Verdict) (e : Evidence) : LeavesAnswers s (s.decideLoss p v e) := by
  unfold State.decideLoss; dsimp only; split
  · exact .setVerdict s p _
  · split
    · exact .setVerdict s p _
    · exact .refl s

theorem LeavesAnswers.linkDownEvent (s : State) (side : Side) : LeavesAnswers s (s.linkDownEvent side) := by
  unfold State.linkDownEvent; split
  · refine .foldl _ (fun s p => ?_) _ s
    split
    · exact .decideLoss s p _ _
    · exact .refl s
  · exact .refl s

theorem LeavesAnswers.upstreamReport (s : State) (p : Fin 4) (low prompted : Bool) :
    LeavesAnswers s (s.upstreamReport p low prompted) := by
  unfold State.upstreamReport; split
  · exact .decideLoss s p _ _
  · split
    · exact .decideLoss s p _ _
    · exact .refl s

theorem LeavesAnswers.recheckPath (s : State) (p : Fin 4) : LeavesAnswers s (s.recheckPath p) := by
  unfold State.recheckPath; dsimp only; split
  · exact .setVerdict s p _
  · split
    · exact .lightEvaluation s p
    · exact .refl s

theorem LeavesAnswers.windowExpiry (s : State) (p : Fin 4) : LeavesAnswers s (s.windowExpiry p) := by
  unfold State.windowExpiry; dsimp only; split
  · exact .after (.settleAlarms _) (.setVerdict s p _)
  · exact .refl s

theorem LeavesAnswers.holdOffExpiry (s : State) (p : Fin 4) : LeavesAnswers s (s.holdOffExpiry p) := by
  unfold State.holdOffExpiry; dsimp only; split
  · exact .after (.settleAlarms _) (.after (.lightEvaluation _ p) (.setVde s))
  · exact .refl s

/-! ### The line ports and RLY (Chapters 1 and 2) -/

theorem LeavesAnswers.setRly (s : State) {r : Rly} : LeavesAnswers s { s with rly := r } := .silent rfl rfl rfl rfl

theorem LeavesAnswers.symbolReceived (s : State) (side : Side) (sym : Symbol) (t : Stamp) :
    LeavesAnswers s (s.symbolReceived side sym t) := by
  unfold State.symbolReceived; split
  · exact .after (.setRly _) (.setPort s side _)
  · exact .refl s

theorem LeavesAnswers.setSignal (s : State) (side : Side) (level : Bool) : LeavesAnswers s (s.setSignal side level) :=
  .silent (by simp) (by simp) (by simp) (by simp [State.running])

theorem LeavesAnswers.linkUp (s : State) (side : Side) : LeavesAnswers s (s.linkUp side) := by
  unfold State.linkUp; split
  · exact .after (.setNb _ side _) (.setPort s side _)
  · exact .refl s

theorem LeavesAnswers.agedMark (s : State) (side : Side) : LeavesAnswers s (s.agedMark side) := by
  unfold State.agedMark; split
  · exact .setPort s side _
  · exact .refl s

theorem LeavesAnswers.receivedFrame (s : State) (r : ReceivedFrame) : LeavesAnswers s (s.receivedFrame r) := by
  unfold State.receivedFrame; split
  · dsimp only; split
    · exact .setRly s
    · split
      · exact .setRly s
      · rw [State.relay_eq]
        exact .silent (by simp) rfl (by simp) (by simp [State.running])
  · exact .refl s

/-! ### NBV (Chapter 8) -/

theorem LeavesAnswers.handReport (s : State) (side : Side) (i : Fin 4) (low prompted : Bool) :
    LeavesAnswers s (s.handReport side i low prompted) := by
  unfold State.handReport
  refine .foldl _ (fun s p => ?_) _ s
  split
  · exact .upstreamReport s p _ _
  · exact .refl s

theorem LeavesAnswers.handDying (s : State) (side : Side) : LeavesAnswers s (s.handDying side) := by
  unfold State.handDying
  refine .foldl _ (fun s p => ?_) _ s
  split
  · exact .decideLoss s p _ _
  · exact .refl s

theorem LeavesAnswers.promptReply (s : State) (side : Side) (r : PathReport) : LeavesAnswers s (s.promptReply side r) := by
  unfold State.promptReply; split
  · dsimp only; split
    · exact .askNotice s _ _
    · exact .refl s
  · exact .refl s

theorem LeavesAnswers.useState (s : State) (side : Side) (m : Vector Summary 4) : LeavesAnswers s (s.useState side m) := by
  unfold State.useState
  exact .after (.foldl _ (fun s i => .handReport s side i _ _) _ _) (.setNb s side _)

theorem LeavesAnswers.usePath (s : State) (side : Side) (r : PathReport) : LeavesAnswers s (s.usePath side r) := by
  unfold State.usePath
  exact .after (.promptReply _ side r) (.after (.handReport _ side _ _ _) (.setNb s side _))

theorem LeavesAnswers.usePower (s : State) (side : Side) (dying : Bool) : LeavesAnswers s (s.usePower side dying) := by
  unfold State.usePower; dsimp only; split
  · exact .after (.handDying _ side) (.setNb s side _)
  · exact .setNb s side _

theorem LeavesAnswers.useFrame (s : State) (d : Delivery) : LeavesAnswers s (s.useFrame d) := by
  unfold State.useFrame
  cases d.kind with
  | state =>
    dsimp only; split
    · exact .useState s _ _
    · exact .refl s
  | notice =>
    dsimp only; split
    · exact .usePath s _ _
    · exact .usePower s _ _
    · exact .refl s
    · exact .refl s
  | request => exact .refl s
  | answer => exact .refl s

theorem LeavesAnswers.neighbourFrame (s : State) (d : Delivery) : LeavesAnswers s (s.neighbourFrame d) := by
  have taken : LeavesAnswers s { s with nbv := { s.nbv with deliveries := s.nbv.deliveries.erase d } } := .silent rfl rfl rfl rfl
  unfold State.neighbourFrame; split
  · dsimp only; split
    · split
      · exact taken.trans (.setNb _ _ _)
      · split
        · exact taken.trans (.trans (.useFrame _ d) (.settleAlarms _))
        · exact taken
    · exact taken
  · exact .refl s

theorem LeavesAnswers.staleExpiry (s : State) (side : Side) : LeavesAnswers s (s.staleExpiry side) := by
  unfold State.staleExpiry; split
  · exact .setNb s side _
  · exact .refl s

/-! ### The test generator (Chapter 6) and the pool (Chapter 5) -/

theorem LeavesAnswers.pilotStep (s : State) : LeavesAnswers s s.pilotStep := by
  unfold State.pilotStep; split
  · exact .silent rfl rfl rfl rfl
  · exact .refl s

theorem LeavesAnswers.testExpiry (s : State) : LeavesAnswers s s.testExpiry := by
  unfold State.testExpiry; split
  · exact .after (.askNotice _ _ _) (.silent rfl rfl rfl rfl)
  · exact .refl s

theorem LeavesAnswers.freeWatch (s : State) (i : Fin 16) : LeavesAnswers s (s.freeWatch i) :=
  .after (.askNotice _ _ _) (.silent rfl rfl rfl rfl)

theorem LeavesAnswers.toneWatch (s : State) (requester : Byte) (a : WatchArgs) : LeavesAnswers s (s.toneWatch requester a).1 := by
  unfold State.toneWatch; split
  · exact .silent rfl rfl rfl rfl
  · split
    · exact .after (.askNotice _ _ _) (.silent rfl rfl rfl rfl)
    · exact .refl s

theorem LeavesAnswers.watchExpiry (s : State) (i : Fin 16) : LeavesAnswers s (s.watchExpiry i) := by
  unfold State.watchExpiry; split
  · exact .freeWatch s i
  · exact .refl s

/-! ### STU (Chapter 10) -/

theorem LeavesAnswers.setStu (s : State) {stu : Stu} : LeavesAnswers s { s with stu := stu } := .silent rfl rfl rfl rfl

theorem LeavesAnswers.settleStall (s : State) : LeavesAnswers s s.settleStall := by
  unfold State.settleStall; dsimp only; split
  · exact .after (.askNotice _ _ _) (.setStu s)
  · exact .setStu s

theorem LeavesAnswers.enterDying (s : State) : LeavesAnswers s s.enterDying := by
  unfold State.enterDying; split
  · exact .refl s
  · exact ⟨.dying _ _ _, rfl, rfl, rfl⟩

theorem LeavesAnswers.returnToNormal (s : State) : LeavesAnswers s s.returnToNormal := by
  have asked : Reasked s.snq s.returnToNormal.snq := by
    unfold State.returnToNormal; dsimp only; split
    · exact .trans (.askState ..) (.askNotice ..)
    · exact .trans (.askNotice ..) (.askState ..)
  exact ⟨asked, rfl, rfl, rfl⟩

theorem LeavesAnswers.judgeRevival (s : State) : LeavesAnswers s s.judgeRevival := by
  unfold State.judgeRevival; split
  · exact .returnToNormal s
  · exact .refl s

theorem LeavesAnswers.judgeBattery (s : State) (v : Nat) : LeavesAnswers s (s.judgeBattery v) := by
  unfold State.judgeBattery; split
  · exact .judgeRevival s
  · split
    · exact .enterDying s
    · exact .refl s

theorem LeavesAnswers.statePeriodExpiry (s : State) : LeavesAnswers s s.statePeriodExpiry := by
  unfold State.statePeriodExpiry; split
  · exact .after (.askState _) (.silent rfl rfl rfl rfl)
  · exact .refl s

theorem LeavesAnswers.judgeHot (s : State) (v : Nat) : LeavesAnswers s (s.judgeHot v) := by
  unfold State.judgeHot; dsimp only; split
  · exact .refl s
  · exact .after (.settleStall _) (.after (.askNotice _ _ _) (.setStu s))

theorem LeavesAnswers.judgeFilter (s : State) (v : Nat) : LeavesAnswers s (s.judgeFilter v) := by
  unfold State.judgeFilter; dsimp only; split
  · exact .refl s
  · exact .after (.askNotice _ _ _) (.setStu s)

theorem LeavesAnswers.inputChange (s : State) (n : Fin 12) (level : Bool) : LeavesAnswers s (s.inputChange n level) := by
  unfold State.inputChange; dsimp only; split
  · exact .after (.askNotice _ _ _) (.setStu s)
  · exact .setStu s

theorem LeavesAnswers.powerGoodChange (s : State) (n : Fin 12) (level : Bool) : LeavesAnswers s (s.powerGoodChange n level) := by
  unfold State.powerGoodChange; dsimp only; split
  · exact .after (.judgeRevival _) (.setStu s)
  · exact .after (.enterDying _) (.setStu s)

theorem LeavesAnswers.lineEvent (s : State) (n : Fin 12) (level : Bool) (t : Stamp) : LeavesAnswers s (s.lineEvent n level t) := by
  unfold State.lineEvent
  cases s.stu.lines[n].fn with
  | inp => exact .inputChange s n level
  | tacho => exact .after (.settleStall _) (.setStu s)
  | powerGood => exact .powerGoodChange s n level
  | out => exact .refl s
  | fan => exact .refl s
  | alarm => exact .refl s

theorem LeavesAnswers.hutLineChange (s : State) (n : Fin 12) (level : Bool) (t : Stamp) :
    LeavesAnswers s (s.hutLineChange n level t) := by
  have moved : LeavesAnswers s { s with pins := { s.pins with lines := s.pins.lines.set n.val level n.isLt } } := .silent rfl rfl rfl rfl
  unfold State.hutLineChange; dsimp only; split
  · exact .after (.settleAlarms _) (.after (.lineEvent _ n level t) moved)
  · exact moved

theorem LeavesAnswers.edgeTimerExpiry (s : State) (n : Fin 12) : LeavesAnswers s (s.edgeTimerExpiry n) := by
  unfold State.edgeTimerExpiry; split
  · exact .after (.settleAlarms _) (.after (.settleStall _) (.setStu s))
  · exact .refl s

theorem LeavesAnswers.stallTimerExpiry (s : State) (n : Fin 12) : LeavesAnswers s (s.stallTimerExpiry n) := by
  unfold State.stallTimerExpiry; split
  · exact .after (.settleAlarms _) (.after (.askNotice _ _ _) (.setStu s))
  · exact .refl s

/-! ### The sampler (Chapters 4, 5 and 7) -/

theorem LeavesAnswers.setPmn (s : State) {v : Vector PathRec 4} : LeavesAnswers s { s with pmn := v } := .silent rfl rfl rfl rfl

theorem LeavesAnswers.setOsc (s : State) (p : Fin 4) (o : Osc) : LeavesAnswers s (s.setOsc p o) := by
  unfold State.setOsc; dsimp only; split
  · exact .silent rfl rfl rfl rfl
  · exact .after (.askNotice _ _ _) (.silent rfl rfl rfl rfl)

theorem LeavesAnswers.lossInput (s : State) (p : Fin 4) (v : Bool) : LeavesAnswers s (s.lossInput p v) := .setOsc s p _

theorem LeavesAnswers.blockStart (s : State) : LeavesAnswers s s.blockStart := by
  unfold State.blockStart; split
  · exact .silent rfl rfl rfl rfl
  · exact .refl s

theorem LeavesAnswers.enterLoss (s : State) (p : Fin 4) (stamp : Stamp) : LeavesAnswers s (s.enterLoss p stamp) := by
  have lost : LeavesAnswers s (State.lossInput p true
      (State.askNotice (.path p) false { s with pmn := upd s.pmn p fun r => { r with input := .loss, lossStamp := some stamp } })) :=
    .after (.lossInput _ p true) (.after (.askNotice _ _ _) (.setPmn s))
  unfold State.enterLoss; dsimp only; split
  · exact .after (.lossEvent _ p stamp) lost
  · exact lost

theorem LeavesAnswers.compareLoss (s : State) (p : Fin 4) (code : Nat) (t : Stamp) : LeavesAnswers s (s.compareLoss p code t) := by
  unfold State.compareLoss; split
  · dsimp only
    generalize (if code < s.settings.paths[p].loss then satAdd s.pmn[p].lossRun 1 else 0) = run
    split
    · exact .after (.enterLoss _ p t) (.setPmn s)
    · exact .setPmn s
  · exact .refl s

theorem LeavesAnswers.tapSample (s : State) (ch : Fin 8) (code : Code) (t : Stamp) : LeavesAnswers s (s.tapSample ch code t) := by
  have sampled : LeavesAnswers s { s with
      smp := { s.smp with slot := ch.succ }
      tcr := each (Lane.accumulate ch code.toNat) s.tcr
      pmn := addSample ch code.toNat s.pmn } := .silent rfl rfl rfl rfl
  unfold State.tapSample; split
  · refine .after (.settleAlarms _) ?_
    split
    · exact .after (.compareLoss _ _ _ t) sampled
    · exact sampled
  · exact .refl s

theorem LeavesAnswers.handLaneResult (s : State) (before : Vector Lane 16) (p : Fin 4) :
    LeavesAnswers s (s.handLaneResult before p) := by
  unfold State.handLaneResult; split
  · refine .after (.laneResult _ p _ _) ?_
    split
    · exact .refl s
    · exact .setOsc s p _
  · exact .refl s

theorem LeavesAnswers.tcrBlockEnd (s : State) : LeavesAnswers s s.tcrBlockEnd := by
  unfold State.tcrBlockEnd
  refine .after (.foldl _ (fun u p => .handLaneResult u s.tcr p) _ _) ?_
  dsimp only; split
  · exact .after (.askNotice _ _ _) (.silent rfl rfl rfl rfl)
  · exact .silent rfl rfl rfl rfl

theorem LeavesAnswers.judgeInput (s : State) (p : Fin 4) (m : Nat) (t : Stamp) : LeavesAnswers s (s.judgeInput p m t) := by
  have taken (st : InputState) :
      LeavesAnswers s (State.askNotice (.path p) false { s with pmn := upd s.pmn p fun r => { r with input := st } }) :=
    .after (.askNotice _ _ _) (.setPmn s)
  unfold State.judgeInput; dsimp only; split
  · split
    · have restored := LeavesAnswers.after (.lossInput _ p false) (taken (lightState s.settings.paths[p] m))
      split
      · exact .after (.restoreEvent _ p) restored
      · exact restored
    · exact .refl s
  · split
    · exact .enterLoss s p t
    · exact taken _
  · split
    · exact .refl s
    · exact taken _

theorem LeavesAnswers.judgeOutput (s : State) (p : Fin 4) (n : Nat) : LeavesAnswers s (s.judgeOutput p n) := by
  unfold State.judgeOutput; dsimp only; split
  · exact .refl s
  · exact .after (.askNotice _ _ _) (.setPmn s)

theorem LeavesAnswers.pmnBlockEnd (s : State) (t : Stamp) : LeavesAnswers s (s.pmnBlockEnd t) := by
  refine .foldl _ (fun s p => ?_) _ s
  unfold State.pmnPathEnd; dsimp only; split
  · exact .after (.judgeOutput _ p _) (.after (.judgeInput _ p _ t) (.setPmn s))
  · exact .setPmn s

theorem LeavesAnswers.blockEnd (s : State) (pmnFirst : Bool) (t : Stamp) : LeavesAnswers s (s.blockEnd pmnFirst t) := by
  have due : LeavesAnswers s { s with smp := { s.smp with block := .startDue } } := .silent rfl rfl rfl rfl
  unfold State.blockEnd; split
  · refine .after (.settleAlarms _) ?_
    split
    · exact .after (.tcrBlockEnd _) (.after (.pmnBlockEnd _ t) due)
    · exact .after (.pmnBlockEnd _ t) (.after (.tcrBlockEnd _) due)
  · exact .refl s

theorem LeavesAnswers.judgeBias (s : State) (p : Fin 4) (v : Nat) : LeavesAnswers s (s.judgeBias p v) := by
  unfold State.judgeBias; dsimp only; split
  · exact .after (.askNotice _ _ _) (.setPmn s)
  · exact .refl s

theorem LeavesAnswers.offerReading (s : State) (i : Fin 10) (v : Nat) : LeavesAnswers s (s.offerReading i v) := by
  unfold State.offerReading; split
  · exact .judgeBias s _ v
  · split
    · exact .judgeHot s v
    · split
      · exact .judgeBattery s v
      · split
        · exact .judgeFilter s v
        · exact .refl s

theorem LeavesAnswers.slowConversion (s : State) (code : Nat) : LeavesAnswers s (s.slowConversion code) := by
  unfold State.slowConversion; dsimp only; split
  · exact .after (.offerReading _ _ _) (.silent rfl rfl rfl rfl)
  · exact .silent rfl rfl rfl rfl

/-! ### The entry to RUNNING (R43) -/

theorem LeavesAnswers.enterSite (s : State) : LeavesAnswers s s.enterSite := by
  unfold State.enterSite; dsimp only; split
  · exact .after (.askNotice _ _ _) (.setStu s)
  · exact .setStu s

end Sys2Proof.Machine
end

section
/-! SUPPORT. That every command, and so every step, keeps the send queue, the answer slots and the probe queue matched: ports, requests,
the shared slot, arbiter, loads and the dispatch. It settles O56. -/

namespace Sys2Proof.Machine
open Sys2Proof

/-! ### The entry of a port to DOWN (R8, R29) -/

theorem State.entryToDown_matched {s : State} (side : Side) (h : s.matched) : (s.entryToDown side).matched := by
  have down : LeavesAnswers s (s.portDown side) := .after (.setRly _) (.setPort s side _)
  rw [State.entryToDown_eq]
  have cleared := State.clearMarks_matched side (down.matched h)
  exact (LeavesAnswers.after (.settleAlarms _) (.after (.linkDownEvent _ side) (.setNb _ side _))).matched cleared

theorem State.signalDetectChange_matched {s : State} (side : Side) (level : Bool) (h : s.matched) :
    (s.signalDetectChange side level).matched := by
  have moved := (LeavesAnswers.setSignal s side level).matched h
  unfold State.signalDetectChange; dsimp only; split
  · exact State.entryToDown_matched side moved
  · exact moved

theorem State.silenceExpiry_matched {s : State} (side : Side) (h : s.matched) : (s.silenceExpiry side).matched := by
  unfold State.silenceExpiry; split
  · exact State.entryToDown_matched side h
  · exact h

/-! ### The arbiter (R31 to R34) -/

theorem State.grant_matched {s : State} (side : Side) (h : s.matched) : (s.grant side).matched := by
  unfold State.grant; split
  · split
    · exact (LeavesAnswers.setPort s side _).matched h
    · exact State.takeMark_matched side _ ((LeavesAnswers.setPort s side _).matched h)
    · exact h
  · exact h

theorem State.transmitDone_matched {s : State} (side : Side) (h : s.matched) : (s.transmitDone side).matched := by
  unfold State.transmitDone; split
  · exact State.grant_matched side ((LeavesAnswers.setPort s side _).matched h)
  · exact h

/-! ### RQH (Chapter 11) -/

theorem free_of_freeSlot {slots : Vector Slot 6} {k : Fin 6} (h : freeSlot slots = some k) : slots[k].state = .free := by
  unfold freeSlot at h
  simpa using List.find?_some h

/-- What executing a request may do: it is done with at once, and leaves the answers alone. -/
def Executes (s : State) (ran : State × Reply) : Prop := LeavesAnswers s ran.1 ∧ ran.2 ≠ .waiting

/-- R56: a request that joins the probe queue for its slot, and waits. -/
def Waits (s : State) (k : Fin 6) (ran : State × Reply) : Prop :=
  ∃ ch, s.smp.probes.length < 4 ∧
    ran = ({ s with smp := { s.smp with probes := s.smp.probes ++ [{ channel := ch, slot := k }] } }, .waiting)

/-- A request that is answered as the state stands. -/
theorem Executes.answer (s : State) {status : Status} {results : List Byte} : Executes s (s, .done status results) := ⟨.refl s, nofun⟩

/-- R56, R163: a probe joins for a WAITING slot that no probe and no ANSWER entry stands for. -/
theorem Waits.matched {s : State} {st : Fin 6 → SlotState} {k : Fin 6} {ran : State × Reply} (h : Waits s k ran)
    (sound : s.matchedAs st) (running : s.running = true) (free : st k = .free) (taken : s.rqh.slots[k].state = .waiting)
    (others : ∀ j, j ≠ k → s.rqh.slots[j].state = st j) : ran.1.matched := by
  obtain ⟨ch, room, rfl⟩ := h
  obtain ⟨queue, matching, idle, -⟩ := sound
  refine ⟨queue, fun j => ?_, fun stopped => absurd (running.symm.trans stopped) (by decide), by simp; omega⟩
  obtain ⟨answers, probes⟩ := matching j
  simp only [List.map_append, List.map_singleton, List.count_append, probes, answers]
  by_cases same : j = k
  · subst same
    simp only [free, taken]
    simp
  · rw [others j same, List.count_eq_zero.mpr (by simpa using same)]
    exact ⟨rfl, rfl⟩

/-- R161 to R163: RQH takes a request into a FREE slot, and its execution answers or waits. -/
theorem State.takeRequest_matched {s : State} (rq : RequestHead) (body : List Byte) {run : Fin 6 → State → State × Reply}
    (hrun : ∀ k u, Executes u (run k u) ∨ Waits u k (run k u)) (h : s.matched) : (s.takeRequest rq body run).matched := by
  unfold State.takeRequest; split
  next taken =>
    obtain ⟨awake, repeater⟩ := Bool.and_eq_true_iff.mp taken
    dsimp only; split
    next => exact h
    next =>
      split
      next => exact h
      next k found =>
        have free : s.rqh.slots[k].state = .free := free_of_freeSlot found
        have inSlot : (s.requestIn k rq body).matchedAs fun j => s.rqh.slots[j].state := h
        have others (j : Fin 6) (other : j ≠ k) : (s.requestIn k rq body).rqh.slots[j].state = s.rqh.slots[j].state := by
          have : k.val ≠ j.val := fun e => other (Fin.ext e.symm)
          simp [State.requestIn, State.takeSlot, State.requestTaken, this]
        split
        next => exact State.complete_matched _ _ inSlot free others
        next loaded =>
          have running : (s.requestIn k rq body).running = true :=
            State.running_of_phase awake loaded (bne_iff_ne.mp repeater)
          have ran := hrun k (s.requestIn k rq body)
          split
          next u status results done =>
            rw [show run k (s.requestIn k rq body) = (u, .done status results) from done] at ran
            rcases ran with ⟨left, -⟩ | ⟨_, _, waits⟩
            · refine State.complete_matched _ _ (left.matchedAs inSlot) free fun j other => ?_
              rw [left.slots]
              exact others j other
            · simp at waits
          next u waiting =>
            rw [show run k (s.requestIn k rq body) = (u, .waiting) from waiting] at ran
            rcases ran with ⟨-, waits⟩ | waits
            · exact absurd rfl waits
            · refine waits.matched inSlot running free ?_ others
              simp [State.requestIn, State.takeSlot, State.requestTaken]
  next => exact h

/-- R164: a query is answered at once. -/
theorem answering_executes {reply : State → Reply} (answered : ∀ s, reply s ≠ .waiting) (k : Fin 6) (s : State) :
    Executes s (answering reply k s) := ⟨.refl s, answered s⟩

theorem replyQueryPath_ne_waiting (args : List Byte) (s : State) : replyQueryPath args s ≠ .waiting := by
  unfold replyQueryPath; split
  · nofun
  · nofun

theorem replyQuerySite_ne_waiting (args : List Byte) (s : State) : replyQuerySite args s ≠ .waiting := by
  unfold replyQuerySite; split
  · nofun
  · nofun

theorem replyQueryLane_ne_waiting (args : List Byte) (s : State) : replyQueryLane args s ≠ .waiting := by
  unfold replyQueryLane; split
  · nofun
  · nofun

theorem replyQueryNeighbour_ne_waiting (args : List Byte) (s : State) : replyQueryNeighbour args s ≠ .waiting := by
  unfold replyQueryNeighbour; split
  · nofun
  · nofun

theorem runProbe_executes (args : List Byte) (k : Fin 6) (s : State) :
    Executes s (runProbe args k s) ∨ Waits s k (runProbe args k s) := by
  unfold runProbe; split
  next ch _ =>
    split
    next room => exact .inr ⟨ch, room, rfl⟩
    next => exact .inl (.answer s)
  next => exact .inl (.answer s)

theorem runToneWatch_executes (requester : Byte) (args : List Byte) (k : Fin 6) (s : State) :
    Executes s (runToneWatch requester args k s) := by
  unfold runToneWatch; split
  next a _ =>
    have taken := LeavesAnswers.toneWatch s requester a
    split
    next h => rw [h] at taken; exact ⟨taken, nofun⟩
    next h => rw [h] at taken; exact ⟨taken, nofun⟩
  next => exact .answer s

theorem runToneDrop_executes (requester : Byte) (args : List Byte) (k : Fin 6) (s : State) :
    Executes s (runToneDrop requester args k s) := by
  unfold runToneDrop; split
  next i _ =>
    split
    · exact .answer s
    · split
      · exact .answer s
      · split
        · exact ⟨.freeWatch s i, nofun⟩
        · exact .answer s
  next => exact .answer s

theorem LeavesAnswers.setTtg (s : State) {g : Ttg} : LeavesAnswers s { s with ttg := g } := .silent rfl rfl rfl rfl

theorem runGenClaim_executes (requester : Byte) (args : List Byte) (k : Fin 6) (s : State) :
    Executes s (runGenClaim requester args k s) := by
  unfold runGenClaim; split
  · split
    · exact .answer s
    · split
      · split
        · split
          · exact ⟨.setTtg s, nofun⟩
          · exact ⟨.setTtg s, nofun⟩
        · exact .answer s
      · exact ⟨.after (.askNotice _ _ _) (.setTtg s), nofun⟩
  · exact .answer s

theorem runGenRelease_executes (requester : Byte) (args : List Byte) (k : Fin 6) (s : State) :
    Executes s (runGenRelease requester args k s) := by
  unfold runGenRelease; split
  · split
    · split
      · exact ⟨.after (.askNotice _ _ _) (.setTtg s), nofun⟩
      · exact .answer s
    · exact .answer s
  · exact .answer s

theorem runLines_executes (level : Bool) (args : List Byte) (k : Fin 6) (s : State) : Executes s (runLines level args k s) := by
  unfold runLines; split
  · exact ⟨.after (.settleAlarms _) (.after (.settleStall _) (.setStu s)), nofun⟩
  · exact .answer s

theorem runLinesAck_executes (args : List Byte) (k : Fin 6) (s : State) : Executes s (runLinesAck args k s) := by
  unfold runLinesAck; split
  · exact ⟨.setStu s, nofun⟩
  · exact .answer s

theorem runRecheck_executes (args : List Byte) (k : Fin 6) (s : State) : Executes s (runRecheck args k s) := by
  unfold runRecheck; split
  next p _ =>
    split
    · exact .answer s
    · exact ⟨.after (.settleAlarms _) (.recheckPath s p), nofun⟩
  next => exact .answer s

theorem runRestart_executes (broadcast : Bool) (args : List Byte) (k : Fin 6) (s : State) :
    Executes s (runRestart broadcast args k s) := by
  unfold runRestart; split
  · split
    · exact .answer s
    · split
      · exact .answer s
      · exact ⟨.silent rfl rfl rfl rfl, nofun⟩
  · exact .answer s

/-! ### SHARED_SLOT (R52, R58) -/

/-- R52, R163: the oldest probe leaves its queue, and the request in its slot completes. -/
theorem State.sharedSlot_matched {s : State} (code : Code) (t : Stamp) (h : s.matched) : (s.sharedSlot code t).matched := by
  unfold State.sharedSlot; split
  next =>
    dsimp only; split
    next probe rest queued =>
      obtain ⟨queue, matching, idle, room⟩ := h
      change s.smp.probes = probe :: rest at queued
      rw [queued] at matching idle room
      refine State.complete_matched (st := fun k => if k = probe.slot then .free else s.rqh.slots[k].state) _ _
        ⟨queue, fun k => ?_, fun stopped => absurd (idle stopped) nofun, ?_⟩ (if_pos rfl) fun j other => (if_neg other).symm
      · obtain ⟨answers, probes⟩ := matching k
        dsimp only
        by_cases same : k = probe.slot
        · have waiting : s.rqh.slots[k].state = .waiting := by
            by_contra other
            rw [if_neg other, same] at probes
            simp at probes
          simp only [waiting, if_true] at answers probes
          rw [same] at answers probes ⊢
          simp only [List.map_cons, List.count_cons_self] at probes
          exact ⟨by simpa using answers, by simp; omega⟩
        · simp only [if_neg same]
          rw [List.map_cons, List.count_cons_of_ne (Ne.symm same)] at probes
          exact ⟨answers, probes⟩
      · rw [List.length_cons] at room
        exact Nat.le_of_succ_le room
    next =>
      have done : LeavesAnswers s { s with smp := s.smp.cycleDone } := .silent rfl rfl rfl rfl
      exact (LeavesAnswers.after (.settleAlarms _) (.after (.slowConversion _ _) done)).matched h
  next => exact h

/-! ### Loads (R36 to R44) -/

/-- R43, R59: at the entry to RUNNING no probe waits, so SMP starts with its queue as it was. -/
theorem State.blocksEntered_matched {s : State} (idle : s.running = false) (h : s.matched) : s.blocksEntered.matched := by
  obtain ⟨queue, matching, quiet, -⟩ := h
  rw [quiet idle] at matching
  exact ⟨queue, matching, fun _ => rfl, Nat.zero_le _⟩

theorem State.enterRunning_matched {s : State} (idle : s.running = false) (h : s.matched) : s.enterRunning.matched := by
  have timed (u : State) : LeavesAnswers u { u with stateTimer := .seconds s.settings.statePeriod } := .silent rfl rfl rfl rfl
  have asked : LeavesAnswers s.blocksEntered
      (State.askState { s.blocksEntered.enterSite with stateTimer := .seconds s.settings.statePeriod }) :=
    .after (.askState _) (.after (timed _) (.enterSite _))
  rw [State.enterRunning_eq]
  refine LeavesAnswers.matched (.after (.settleAlarms _) ?_) (State.blocksEntered_matched idle h)
  split
  · exact asked
  · exact .after (.enterDying _) asked

/-- R42, R64: outside RUNNING settings are taken, with thresholds for the lanes. -/
theorem LeavesAnswers.settle (s : State) (idle : s.running = false) {cfl : Cfl} (still : cfl.phase ≠ .running) {tcr : Vector Lane 16} :
    LeavesAnswers s { s with cfl := cfl, tcr := tcr } := by
  refine .silent rfl rfl rfl ?_
  rw [idle]
  simp [State.running, still]

theorem State.loadEnd_matched {s : State} (outcome : StartOutcome) (reason : StartReason) (c : Settings) (loading : s.loading = true)
    (h : s.matched) : (s.loadEnd outcome reason c).matched := by
  have phase : s.cfl.phase = .loading := of_decide_eq_true (Bool.and_eq_true_iff.mp loading).2
  have idle : s.running = false := by simp [State.running, phase]
  unfold State.loadEnd; dsimp only; split
  · refine State.enterRunning_matched ?_ ((LeavesAnswers.settle s idle (by simp [phase])).matched h)
    simp [State.running, phase]
  · exact (LeavesAnswers.settle s idle (by simp)).matched h

theorem State.loadTimerExpiry_matched {s : State} (h : s.matched) : s.loadTimerExpiry.matched := by
  unfold State.loadTimerExpiry; split
  next due =>
    have loading : s.loading = true := (Bool.and_eq_true_iff.mp due).1
    exact State.loadEnd_matched _ _ _ (by exact loading) h
  next => exact h

theorem State.i2cNack_matched {s : State} (h : s.matched) : (if s.transacting then s.loadFailed else s).matched := by
  split
  next transacting => exact State.loadEnd_matched _ _ _ (State.loading_of_transacting transacting) h
  next => exact h

theorem State.imageReadDone_matched {s : State} (image : List Byte) (h : s.matched) : (s.imageReadDone image).matched := by
  unfold State.imageReadDone; split
  next read => exact State.loadEnd_matched _ _ _ (State.loading_of_transacting (Bool.and_eq_true_iff.mp read).1) h
  next => exact h

/-- R36: a release finds a part that is not in RUNNING, and begins a load. -/
theorem State.rstnRelease_matched {s : State} (straps : BitVec 6) (sdaHold : Option Nat) (h : s.matched) :
    (s.rstnRelease straps sdaHold).matched := by
  unfold State.rstnRelease; split
  next => exact h
  next asleep =>
    have idle : s.running = false := State.running_of_asleep (by simpa using asleep)
    refine LeavesAnswers.matched (s := s) (.silent rfl rfl rfl ?_) h
    rw [idle]
    simp [State.running, State.startLoad]

/-! ### Every command and every step -/

/-- Every command keeps the send queue, the answer slots and the probe queue matched. -/
theorem exec_matched (c : Instr) {s : State} (h : s.matched) : ∃ u, exec c s = .next u ∧ u.matched := by
  have at_moment (t : Stamp) : (s.moment t).matched := (LeavesAnswers.moment s t).matched h
  have request (rq : RequestHead) (body : List Byte) (t : Stamp) {run : Fin 6 → State → State × Reply}
      (hrun : ∀ k u, Executes u (run k u)) : ((s.moment t).takeRequest rq body run).matched :=
    State.takeRequest_matched rq body (fun k u => .inl (hrun k u)) (at_moment t)
  cases c with
  | powerOnReset straps => exact ⟨_, rfl, State.held_matched _ _ _ _ _⟩
  | rstnRelease straps sdaHold => exact ⟨_, rfl, State.rstnRelease_matched straps sdaHold h⟩
  | millisecondTick => exact ⟨_, rfl, (LeavesAnswers.millisecondTick s).matched h⟩
  | symbolReceived side sym t => exact ⟨_, rfl, (LeavesAnswers.symbolReceived _ side sym t).matched (at_moment t)⟩
  | signalDetectChange side level t => exact ⟨_, rfl, State.signalDetectChange_matched side level (at_moment t)⟩
  | silenceExpiry side t => exact ⟨_, rfl, State.silenceExpiry_matched side (at_moment t)⟩
  | linkUp side t => exact ⟨_, rfl, (LeavesAnswers.linkUp _ side).matched (at_moment t)⟩
  | agedMark side t => exact ⟨_, rfl, (LeavesAnswers.agedMark _ side).matched (at_moment t)⟩
  | receivedFrame f => exact ⟨_, rfl, (LeavesAnswers.receivedFrame s f).matched h⟩
  | transmitDone side t => exact ⟨_, rfl, State.transmitDone_matched side (at_moment t)⟩
  | i2cNack stage => exact ⟨_, rfl, State.i2cNack_matched h⟩
  | loadTimerExpiry => exact ⟨_, rfl, State.loadTimerExpiry_matched h⟩
  | imageReadDone image => exact ⟨_, rfl, State.imageReadDone_matched image h⟩
  | blockStart => exact ⟨_, rfl, (LeavesAnswers.blockStart s).matched h⟩
  | tapSample channel code t => exact ⟨_, rfl, (LeavesAnswers.tapSample _ channel code t).matched (at_moment t)⟩
  | blockEnd pmnFirst t => exact ⟨_, rfl, (LeavesAnswers.blockEnd _ pmnFirst t).matched (at_moment t)⟩
  | sharedSlot code t => exact ⟨_, rfl, State.sharedSlot_matched code t (at_moment t)⟩
  | pilotStep => exact ⟨_, rfl, (LeavesAnswers.pilotStep s).matched h⟩
  | neighbourFrame d t => exact ⟨_, rfl, (LeavesAnswers.neighbourFrame _ d).matched (at_moment t)⟩
  | staleExpiry side => exact ⟨_, rfl, (LeavesAnswers.staleExpiry s side).matched h⟩
  | windowExpiry path => exact ⟨_, rfl, (LeavesAnswers.windowExpiry s path).matched h⟩
  | holdOffExpiry path => exact ⟨_, rfl, (LeavesAnswers.holdOffExpiry s path).matched h⟩
  | watchExpiry lane => exact ⟨_, rfl, (LeavesAnswers.watchExpiry s lane).matched h⟩
  | testExpiry => exact ⟨_, rfl, (LeavesAnswers.testExpiry s).matched h⟩
  | statePeriodExpiry => exact ⟨_, rfl, (LeavesAnswers.statePeriodExpiry s).matched h⟩
  | hutLineChange line level t => exact ⟨_, rfl, (LeavesAnswers.hutLineChange _ line level t).matched (at_moment t)⟩
  | edgeTimerExpiry line => exact ⟨_, rfl, (LeavesAnswers.edgeTimerExpiry s line).matched h⟩
  | stallTimerExpiry line => exact ⟨_, rfl, (LeavesAnswers.stallTimerExpiry s line).matched h⟩
  | unknownRequest rq body t =>
    refine ⟨_, rfl, ?_⟩
    split
    · exact at_moment t
    · exact request rq body t (answering_executes fun _ => nofun)
  | queryPath rq args t => exact ⟨_, rfl, request rq _ t (answering_executes (replyQueryPath_ne_waiting args))⟩
  | querySite rq args t => exact ⟨_, rfl, request rq _ t (answering_executes (replyQuerySite_ne_waiting args))⟩
  | queryLane rq args t => exact ⟨_, rfl, request rq _ t (answering_executes (replyQueryLane_ne_waiting args))⟩
  | queryNeighbour rq args t => exact ⟨_, rfl, request rq _ t (answering_executes (replyQueryNeighbour_ne_waiting args))⟩
  | probe rq args t => exact ⟨_, rfl, State.takeRequest_matched rq _ (runProbe_executes args) (at_moment t)⟩
  | toneWatch rq args t => exact ⟨_, rfl, request rq _ t (runToneWatch_executes _ args)⟩
  | toneDrop rq args t => exact ⟨_, rfl, request rq _ t (runToneDrop_executes _ args)⟩
  | genClaim rq args t => exact ⟨_, rfl, request rq _ t (runGenClaim_executes _ args)⟩
  | genRelease rq args t => exact ⟨_, rfl, request rq _ t (runGenRelease_executes _ args)⟩
  | linesSet rq args t => exact ⟨_, rfl, request rq _ t (runLines_executes true args)⟩
  | linesClear rq args t => exact ⟨_, rfl, request rq _ t (runLines_executes false args)⟩
  | linesAck rq args t => exact ⟨_, rfl, request rq _ t (runLinesAck_executes args)⟩
  | recheck rq args t => exact ⟨_, rfl, request rq _ t (runRecheck_executes args)⟩
  | restartRequest rq args t => exact ⟨_, rfl, request rq _ t (runRestart_executes _ args)⟩
  | grantAtSymbolBoundary side t => exact ⟨_, rfl, State.grant_matched side (at_moment t)⟩

/-- Settles O56: a step is the idle microsecond or the front command on the queue's rest, and either keeps queue, slots and probes
matched; a sound queue has at most one entry for each of sixteen places. -/
theorem everyStepKeepsQueueAndSlots : Obligations.EveryStepKeepsQueueAndSlots := by
  intro s u queue slots h
  have kept : u.matched := by
    unfold step at h; split at h
    next =>
      obtain rfl := Host.Outcome.next.inj h
      exact (LeavesAnswers.idle s).matched ⟨queue, slots⟩
    next c rest _ =>
      obtain ⟨v, taken, sound⟩ := exec_matched c (s := { s with pending := rest }) ⟨queue, slots⟩
      obtain rfl := Host.Outcome.next.inj (taken.symm.trans h)
      exact sound
  exact ⟨kept.1, kept.2, length_le_of_queueSoundOf kept.1⟩

end Sys2Proof.Machine
end

section
/-! SUPPORT. Requests taken by the send queue, and the grants of a port's arbiter: what it chooses, and what the entry it grants leaves. It
settles O19, O20 and O21. -/

namespace Sys2Proof.Machine
open Sys2Proof

/-! ### A request for a STATE or a NOTICE (R24 to R26) -/

section
variable {item : Item} {q : List Entry} (prompt w x : Bool)

/-- R25: a request coalesces with the entry of its item. -/
theorem snqAsk_of_found (found : ∃ e ∈ q, e.item = item) :
    snqAsk item prompt w x q =
      q.map fun e => if e.item = item then { e.remark w x with prompted := e.prompted || prompt } else e := by
  obtain ⟨e, mem, same⟩ := found
  exact if_pos (List.any_eq_true.mpr ⟨e, mem, decide_eq_true same⟩)

/-- R24: a request with no entry of its item joins the tail, or is lost. -/
theorem snqAsk_of_absent (absent : ∀ e ∈ q, e.item ≠ item) :
    snqAsk item prompt w x q = if w || x then q ++ [{ item := item, west := w, east := x, prompted := prompt }] else q := by
  refine if_neg fun found => ?_
  obtain ⟨e, mem, same⟩ := List.any_eq_true.mp found
  exact absent e mem (of_decide_eq_true same)

end

/-- Settles O19: a NOTICE request is `snqAsk`, which coalesces, joins the tail, or is lost. -/
theorem sendQueueTakesRequest : Obligations.SendQueueTakesRequest := by
  intro subject prompt s running _
  rw [s.askNotice_eq subject prompt running]
  refine ⟨fun found => ?_, fun absent up => ?_, fun absent west east => ?_⟩
  · dsimp only
    rw [snqAsk_of_found _ _ _ found]
    refine ⟨List.length_map _, fun i e at_i => ?_⟩
    rw [List.getElem?_map, at_i]
    rfl
  · exact (snqAsk_of_absent _ _ _ absent).trans (if_pos (by simpa using up))
  · exact (snqAsk_of_absent _ _ _ absent).trans (if_neg (by simp [west, east]))

/-! ### What the arbiter chooses (R33) -/

/-- R33: outside DYING, or with no POWER notice marked for the port, the first case of R33 does not apply. -/
theorem State.dyingWork_eq_none {s : State} {side : Side}
    (quiet : s.stu.dying = true → ∀ e ∈ s.snq, e.item = .notice .power → e.mark side = false) : s.dyingWork side = none := by
  unfold State.dyingWork
  split
  next dying =>
    refine List.find?_eq_none.mpr fun e mem => ?_
    by_cases power : e.item = .notice .power
    · simp [quiet dying e mem power]
    · simp [power]
  next => rfl

theorem State.localWork_eq_none {s : State} {side : Side} (unmarked : ∀ e ∈ s.snq, e.mark side = false) : s.localWork side = none :=
  List.find?_eq_none.mpr fun e mem => by simp [unmarked e mem]

/-- R33: the forward source is granted when the local source has no work or was served last. -/
theorem State.choose_forward {s : State} {side : Side} {f : Frame} {rest : List Frame} (queue : (s.port side).fwd = f :: rest)
    (quiet : s.stu.dying = true → ∀ e ∈ s.snq, e.item = .notice .power → e.mark side = false)
    (turn : (s.port side).marker = .locally ∨ ∀ e ∈ s.snq, e.mark side = false) : s.choose side = some (.forward f) := by
  rw [State.choose, State.dyingWork_eq_none quiet, queue]
  rcases turn with marker | unmarked
  · rw [marker]
    cases s.localWork side <;> rfl
  · rw [State.localWork_eq_none unmarked]

/-- R33: neither source has work. -/
theorem State.choose_none {s : State} {side : Side} (empty : (s.port side).fwd = []) (unmarked : ∀ e ∈ s.snq, e.mark side = false) :
    s.choose side = none := by
  rw [State.choose, State.dyingWork_eq_none fun _ e mem _ => unmarked e mem, empty, State.localWork_eq_none unmarked]

/-- R33: the local source is granted its entry nearest the head when the forward source has no work or was served last. -/
theorem State.choose_local {s : State} {side : Side} {pre post : List Entry} {e : Entry} (queue : s.snq = pre ++ e :: post)
    (marked : e.mark side = true) (first : ∀ x ∈ pre, x.mark side = false)
    (turn : (s.port side).fwd = [] ∨ (s.port side).marker = .forward)
    (quiet : s.stu.dying = true → ∀ x ∈ s.snq, x.item = .notice .power → x.mark side = false) :
    s.choose side = some (.entry e) := by
  have work : s.localWork side = some e := by
    rw [State.localWork, queue]
    exact List.find?_eq_some_iff_append.mpr ⟨marked, pre, post, rfl, fun x mem => by simp [first x mem]⟩
  rw [State.choose, State.dyingWork_eq_none quiet, work]
  rcases turn with empty | marker
  · rw [empty]
  · rw [marker]
    cases (s.port side).fwd <;> rfl

/-- R27, R33: while DYING the POWER notice is granted before all else. -/
theorem State.choose_dying {s : State} {side : Side} {pre post : List Entry} {e : Entry} (queue : s.snq = pre ++ e :: post)
    (marked : e.mark side = true) (dying : s.stu.dying = true) (power : e.item = .notice .power)
    (first : ∀ x ∈ pre, x.item ≠ .notice .power) : s.choose side = some (.entry e) := by
  have work : s.dyingWork side = some e := by
    rw [State.dyingWork, if_pos dying, queue]
    exact List.find?_eq_some_iff_append.mpr ⟨by simp [power, marked], pre, post, rfl, fun x mem => by simp [first x mem]⟩
  rw [State.choose, work]

/-! ### A grant of the forward source (R21, R32) -/

theorem State.grant_of_not_up {s : State} {side : Side} (down : (s.port side).link ≠ .up) : s.grant side = s := by
  have down' : s.isUp side = false := decide_eq_false down
  simp [State.grant, down']

/-- R31, R33: an UP port with a free transmitter grants the forward source where its arbiter chooses it. -/
theorem State.grant_forward {s : State} {side : Side} {f : Frame} (up : (s.port side).link = .up) (free : (s.port side).tx = none)
    (chosen : s.choose side = some (.forward f)) : s.grant side = s.grantForward side f := by
  have up' : s.isUp side = true := decide_eq_true up
  simp only [State.grant, up', free, Option.isNone_none, Bool.and_self, if_true, chosen]

/-- R31, R33: a port whose arbiter has nothing to choose grants nothing. -/
theorem State.grant_idle {s : State} {side : Side} (chosen : s.choose side = none) : s.grant side = s := by
  simp only [State.grant, chosen, ite_self]

@[simp] theorem State.setPort_setPort (s : State) (side : Side) (p p' : Port) : (s.setPort side p).setPort side p' = s.setPort side p' := by
  cases side <;> rfl

/-- Settles O20: both events are a grant with the transmitter free, and the arbiter chooses the forward source, or nothing. -/
theorem grantOfForwardSource : Obligations.GrantOfForwardSource := by
  intro c side t s₀ s now _ event
  rw [exec_grants now event]
  refine ⟨fun f rest up queue quiet turn => congrArg Host.Outcome.next ?_, fun rests => congrArg Host.Outcome.next ?_⟩
  · have chosen : (s.setPort side { s.port side with tx := none }).choose side = some (.forward f) := by
      refine State.choose_forward (rest := rest) ?_ ?_ ?_
      · rw [State.port_setPort]; exact queue
      · simpa using quiet
      · simpa using turn
    rw [State.grant_forward (by simpa using up) (by simp) chosen]
    simp only [State.grantForward, State.port_setPort, State.setPort_setPort, queue, List.tail_cons]
  · rcases rests with down | ⟨empty, unmarked⟩
    · exact State.grant_of_not_up (by simpa using down)
    · exact State.grant_idle (State.choose_none (by simpa using empty) (by simpa using unmarked))

/-! ### A grant of the local source (R28, R32) -/

section
variable {pre post : List Entry} {e : Entry}

/-- R23: in a sound queue no other entry stands for the item of an entry. -/
theorem item_ne_of_queueSoundOf (sound : queueSoundOf (pre ++ e :: post)) : ∀ x ∈ pre ++ post, x.item ≠ e.item := by
  intro x mem same
  have distinct := sound.2
  rw [List.map_append, List.map_cons, List.nodup_middle, ← List.map_append] at distinct
  refine (List.nodup_cons.mp distinct).1 (List.mem_map.mpr ⟨x, mem, ?_⟩)
  rw [same]

/-- R28: in a sound queue the mark of one entry is cleared. -/
theorem map_unmark_entry (side : Side) (sound : queueSoundOf (pre ++ e :: post)) :
    ((pre ++ e :: post).map fun x => if x = e then x.unmark side else x) = pre ++ e.unmark side :: post := by
  have other (x : Entry) (mem : x ∈ pre ++ post) : (if x = e then x.unmark side else x) = x :=
    if_neg fun same => item_ne_of_queueSoundOf sound x mem (congrArg Entry.item same)
  have pre' := List.map_congr_left (g := id) fun x mem => other x (List.mem_append_left post mem)
  have post' := List.map_congr_left (g := id) fun x mem => other x (List.mem_append_right pre mem)
  rw [List.map_append, List.map_cons, pre', post', if_pos rfl, List.map_id, List.map_id]

/-- R28: the entry stays while it has a mark left. -/
theorem filter_marked_unmark (side : Side) (sound : queueSoundOf (pre ++ e :: post)) :
    (pre ++ e.unmark side :: post).filter Entry.marked =
      pre ++ (if (e.unmark side).marked = true then [e.unmark side] else []) ++ post := by
  obtain ⟨pre_marked, -, post_marked⟩ : (∀ x ∈ pre, x.marked = true) ∧ e.marked = true ∧ ∀ x ∈ post, x.marked = true := by
    simpa [or_imp, forall_and] using sound.1
  rw [List.filter_append, List.filter_cons, List.filter_eq_self.mpr pre_marked, List.filter_eq_self.mpr post_marked, List.append_assoc]
  split <;> rfl

/-- R28, R163: the slot that leaves is that of an ANSWER entry with no mark left. -/
theorem mem_leaving_unmark (side : Side) (sound : queueSoundOf (pre ++ e :: post)) (k : Fin 6) :
    k ∈ ((pre ++ e.unmark side :: post).filter (!·.marked)).filterMap Entry.slot? ↔
      e.slot? = some k ∧ (e.unmark side).marked = false := by
  simp only [List.mem_filterMap, List.mem_filter, Bool.not_eq_true']
  constructor
  · rintro ⟨x, ⟨mem, gone⟩, slot⟩
    have x_eq : x = e.unmark side := by
      by_contra other
      have marked : x.marked = true := sound.1 x (by simp only [List.mem_append, List.mem_cons] at mem ⊢; tauto)
      exact absurd (marked.symm.trans gone) (by decide)
    subst x_eq
    exact ⟨by rwa [Entry.slot?_unmark] at slot, gone⟩
  · rintro ⟨slot, gone⟩
    exact ⟨e.unmark side, ⟨by simp, gone⟩, by rwa [Entry.slot?_unmark]⟩

end

/-- R28, R163: with no restart pending a grant's entry loses its mark, and its slot when it leaves. -/
theorem State.takeMark_eq {s : State} (side : Side) {pre post : List Entry} {e : Entry} (queue : s.snq = pre ++ e :: post)
    (sound : s.queueSound) (clear : s.rqh.restartPending = none) :
    ∃ slots : Vector Slot 6,
      s.takeMark side e =
        { s with
          snq := pre ++ (if (e.unmark side).marked = true then [e.unmark side] else []) ++ post
          rqh := { s.rqh with slots := slots } } ∧
      ∀ k : Fin 6, slots[k] = if e.slot? = some k ∧ (e.unmark side).marked = false then Slot.reset else s.rqh.slots[k] := by
  have sound' : queueSoundOf (pre ++ e :: post) := queue ▸ sound
  refine ⟨(s.rqh.freed (((pre ++ e.unmark side :: post).filter (!·.marked)).filterMap Entry.slot?)).slots, ?_, fun k => ?_⟩
  · unfold State.takeMark
    dsimp only
    rw [queue, map_unmark_entry side sound', filter_marked_unmark side sound', State.answersLeft_eq _ _ (by exact clear)]
    rfl
  · simp only [Rqh.freed, Fin.getElem_fin, Vector.getElem_ofFn, mem_leaving_unmark side sound']

/-- R10, R22, R28: what the frame of an entry that is no ANSWER carries in its header. -/
theorem State.composeEntry_header (s : State) {e : Entry} (composed : ∀ k fixed, e.item ≠ .answer k fixed) :
    (s.composeEntry e).origin = BitVec.ofNat 8 (s.station.getD 0) ∧ (s.composeEntry e).target = 63 ∧
      (s.composeEntry e).hopsLeft = BitVec.ofNat 8 s.reach ∧ (s.composeEntry e).hopsDone = 0 ∧
      (s.composeEntry e).stamp = s.clk.hut ∧ (s.composeEntry e).tag = 0 := by
  unfold State.composeEntry
  split
  next => exact ⟨rfl, rfl, rfl, rfl, rfl, rfl⟩
  next => exact ⟨rfl, rfl, rfl, rfl, rfl, rfl⟩
  next k fixed item => exact absurd item (composed k fixed)

/-- R158: of the ports a STATE body holds the link states alone. -/
theorem State.stateBody_setPort (s : State) (side : Side) {p : Port} (link : p.link = (s.port side).link) :
    (s.setPort side p).stateBody = s.stateBody := by
  have west : (s.setPort side p).west.link = s.west.link := by cases side <;> [exact link; rfl]
  have east : (s.setPort side p).east.link = s.east.link := by cases side <;> [rfl; exact link]
  unfold State.stateBody
  rw [west, east]
  cases side <;> rfl

theorem State.composeEntry_setPort (s : State) (side : Side) {p : Port} (link : p.link = (s.port side).link) (e : Entry) :
    (s.setPort side p).composeEntry e = s.composeEntry e := by
  unfold State.composeEntry
  rw [State.stateBody_setPort s side link]
  cases side <;> rfl

/-- Settles O21: both events are a grant with the transmitter free, the arbiter chooses the entry, and the grant takes its mark. -/
theorem grantOfLocalSource : Obligations.GrantOfLocalSource := by
  intro c side t pre post e s₀ s now _ event up sound clear queue marked turn
  have chosen : (s.setPort side { s.port side with tx := none }).choose side = some (.entry e) := by
    have queue' : (s.setPort side { s.port side with tx := none }).snq = pre ++ e :: post := by simpa using queue
    rcases turn with ⟨dying, power⟩ | ⟨first, turn, quiet⟩
    · refine State.choose_dying queue' marked (by simpa using dying) power fun x mem => power ▸ ?_
      exact item_ne_of_queueSoundOf (queue ▸ sound) x (List.mem_append_left post mem)
    · exact State.choose_local queue' marked first (by simpa using turn) (by simpa using quiet)
  obtain ⟨slots, taken, freed⟩ :=
    State.takeMark_eq (s := s.setPort side { s.port side with marker := .locally, tx := some (s.composeEntry e) }) side
      (by simpa using queue) (by simpa [State.queueSound] using sound) (by simpa using clear)
  have granted : State.grant side (s.setPort side { s.port side with tx := none }) =
      State.takeMark side e (s.setPort side { s.port side with marker := .locally, tx := some (s.composeEntry e) }) := by
    have composed : (s.setPort side { s.port side with tx := none }).composeEntry e = s.composeEntry e :=
      s.composeEntry_setPort side (p := { s.port side with tx := none }) rfl e
    rw [State.grant_eq (by simpa using up) (by simp) chosen]
    simp only [State.grantEntry, composed, State.port_setPort, State.setPort_setPort]
  refine ⟨_, s.composeEntry e, (exec_grants now event).trans (congrArg Host.Outcome.next (granted.trans taken)), ?port, ?other, ?snq,
    ?answer, s.composeEntry_header, ?state, ?notice, ?slots, ?frame⟩
  case slots => simpa using freed
  case answer => intro k fixed item; rw [State.composeEntry, item]
  case state => intro item; rw [State.composeEntry, item]; exact ⟨rfl, rfl⟩
  case notice => intro x item; rw [State.composeEntry, item]; exact ⟨rfl, rfl⟩
  all_goals cases side <;> rfl

end Sys2Proof.Machine
end

section
/-! SUPPORT. Requests that RQH turns away: what each command carries to the common path of R161 to R163, and the arguments that are out of
their ranges. It settles O46. -/

namespace Sys2Proof.Machine
open Sys2Proof

/-! ### The common path of a request (R161 to R163) -/

/-- R161: the execution in RUNNING of the request that a command carries. -/
def runOf : Instr → Fin 6 → State → State × Reply
  | .queryPath _ args _ => answering (replyQueryPath args)
  | .querySite _ args _ => answering (replyQuerySite args)
  | .queryLane _ args _ => answering (replyQueryLane args)
  | .queryNeighbour _ args _ => answering (replyQueryNeighbour args)
  | .probe _ args _ => runProbe args
  | .toneWatch rq args _ => runToneWatch rq.requester args
  | .toneDrop rq args _ => runToneDrop rq.requester args
  | .genClaim rq args _ => runGenClaim rq.requester args
  | .genRelease rq args _ => runGenRelease rq.requester args
  | .linesSet _ args _ => runLines true args
  | .linesClear _ args _ => runLines false args
  | .linesAck _ args _ => runLinesAck args
  | .recheck _ args _ => runRecheck args
  | .restartRequest rq args _ => runRestart rq.broadcast args
  | _ => answering fun _ => .done .unknownRequest []

/-- R162: a body that names no request is the UNKNOWN_REQUEST command's. -/
theorem head_notRequestCode {body : List Byte} (h : namesNoRequest body = true) : (body.head?.map isRequestCode).getD false = false := by
  cases body with
  | nil => rfl
  | cons b rest =>
    simp only [namesNoRequest, Bool.or_eq_true, decide_eq_true_eq] at h
    simp only [List.head?_cons, Option.map_some, Option.getD_some, isRequestCode, Bool.and_eq_false_iff, decide_eq_false_iff_not]
    omega

/-- Every request takes the common path, with its own execution. -/
theorem exec_request {c : Instr} {rq : RequestHead} {body : List Byte} {t : Stamp} (h : requestOf c = some (rq, body, t)) (s₀ : State) :
    exec c s₀ = .next ((s₀.moment t).takeRequest rq body (runOf c)) := by
  unfold requestOf at h
  split at h
  case h_1 rq' body' t' =>
    split at h
    next unnamed =>
      cases h
      exact congrArg Host.Outcome.next (if_neg (by simp [head_notRequestCode unnamed]))
    next => cases h
  case h_16 => cases h
  all_goals
    cases h
    rfl

section
variable {s : State} {k : Fin 6} {rq : RequestHead} {body : List Byte} {run : Fin 6 → State → State × Reply}

/-- R161: what RQH does with a request that reaches it, in RUNNING or in LOADING. -/
theorem State.takeRequest_eq (awake : s.awake = true) (reached : s.cfl.phase ≠ .repeaterOnly) :
    s.takeRequest rq body run =
      if s.station.isNone then s.requestTaken rq body
      else
        match freeSlot s.rqh.slots with
        | none => { s.requestTaken rq body with
            rqh := { (s.requestTaken rq body).rqh with dropped := satAdd s.rqh.dropped 1 } }
        | some k =>
          if s.cfl.phase = .loading then (s.requestIn k rq body).complete k .notReady []
          else
            match run k (s.requestIn k rq body) with
            | (u, .done status results) => u.complete k status results
            | (u, .waiting) => u := by
  have takes : s.takesRequests = true := by simp [State.takesRequests, awake, reached]
  unfold State.takeRequest
  exact if_pos takes

/-- R161: a part with no station number takes a request and leaves no trace of it. -/
theorem State.takeRequest_unstationed (awake : s.awake = true) (reached : s.cfl.phase ≠ .repeaterOnly) (unstationed : s.station = none) :
    s.takeRequest rq body run = s.requestTaken rq body := by
  rw [State.takeRequest_eq awake reached, if_pos (by rw [unstationed]; rfl)]

theorem freeSlot_eq_none {slots : Vector Slot 6} (full : ∀ k : Fin 6, slots[k].state ≠ .free) : freeSlot slots = none :=
  List.find?_eq_none.mpr fun k _ => by simpa using full k

/-- R161: with no slot FREE a request is counted as dropped. -/
theorem State.takeRequest_full (awake : s.awake = true) (reached : s.cfl.phase ≠ .repeaterOnly) (stationed : s.station.isSome = true)
    (full : ∀ k : Fin 6, s.rqh.slots[k].state ≠ .free) :
    s.takeRequest rq body run =
      { s.requestTaken rq body with
        rqh := { (s.requestTaken rq body).rqh with dropped := satAdd s.rqh.dropped 1 } } := by
  rw [State.takeRequest_eq awake reached, if_neg (by simpa [Option.isSome_iff_ne_none] using stationed), freeSlot_eq_none full]

/-- R162: in LOADING a request is answered NOT_READY. -/
theorem State.takeRequest_loading (awake : s.awake = true) (loading : s.cfl.phase = .loading) (stationed : s.station.isSome = true)
    (free : s.rqh.slots[k].state = .free) (lowest : ∀ j : Fin 6, j < k → s.rqh.slots[j].state ≠ .free) :
    s.takeRequest rq body run = (s.requestIn k rq body).complete k .notReady [] := by
  rw [State.takeRequest_eq awake (by simp [loading]), if_neg (by simpa [Option.isSome_iff_ne_none] using stationed),
    freeSlot_eq free lowest]
  exact if_pos loading

end

/-! ### Answers without results -/

/-- R162, 12.4: the body of an ANSWER without results is its status, and the request code as received. -/
theorem answerBody_bare (status : Status) (body : List Byte) :
    answerBody status body.head? [] = BitVec.ofNat 8 status.code :: body.take 1 := by
  cases body with
  | nil => rfl
  | cons b rest => simp [answerBody]

/-- R163: while the slot that set the restart pending flag is not among them, slots whose ANSWER entries leave become FREE. -/
theorem State.answersLeft_freed {s : State} {slots : List (Fin 6)} (other : ∀ k ∈ slots, s.rqh.restartPending ≠ some k) :
    s.answersLeft slots = { s with rqh := s.rqh.freed slots } := by
  unfold State.answersLeft
  dsimp only
  split
  next k pending =>
    rw [if_neg fun mem => other k mem pending]
    rfl
  next => rfl

/-- R24, R163: with no port UP an answer is discarded at its creation, and its slot is FREE again. -/
theorem State.complete_discarded {s : State} {k : Fin 6} {rq : RequestHead} {body : List Byte} (status : Status) (results : List Byte)
    (west : s.isUp .west = false) (east : s.isUp .east = false) (other : s.rqh.restartPending ≠ some k) :
    (s.requestIn k rq body).complete k status results =
      { s.requestTaken rq body with
        rqh := { (s.requestTaken rq body).rqh with slots := s.rqh.slots.set k.val Slot.reset k.isLt } } := by
  have down : ¬ ((s.requestIn k rq body).isUp .west || (s.requestIn k rq body).isUp .east) = true := by
    change ¬ (s.isUp .west || s.isUp .east) = true
    simp [west, east]
  have slots (g : Slot → Slot) :
      (.ofFn fun j : Fin 6 => if j ∈ [k] then Slot.reset else (upd (s.requestIn k rq body).rqh.slots k g)[j] : Vector Slot 6) =
        s.rqh.slots.set k.val Slot.reset k.isLt := by
    ext j within
    by_cases same : k.val = j
    · simp [← same]
    · have other' : ¬ (⟨j, within⟩ : Fin 6) = k := fun h => same (congrArg Fin.val h).symm
      simp [State.requestIn, State.takeSlot, State.requestTaken, upd, same, other']
  unfold State.complete State.askAnswer
  rw [if_neg (by exact down), State.answersLeft_freed fun j mem => by rw [List.mem_singleton.mp mem]; exact other]
  simp only [Rqh.freed, slots]
  rfl

/-! ### Arguments out of their ranges (R162, 12.4) -/

theorem byteArg_eq_none {n : Nat} {args : List Byte} (bad : badByte n args) : byteArg n args = none := by
  unfold byteArg
  split
  next b =>
    have high : n ≤ b.toNat := by simpa [badByte] using bad
    exact dif_neg (Nat.not_lt.mpr high)
  next => rfl

theorem sideArg_eq_none {args : List Byte} (bad : badByte 2 args) : sideArg args = none := by
  unfold sideArg
  split
  next b =>
    have high : 2 ≤ b.toNat := by simpa [badByte] using bad
    rw [if_neg (by rintro rfl; exact absurd high (by decide)), if_neg (by rintro rfl; exact absurd high (by decide))]
  next => rfl

theorem maskArg_eq_none {args : List Byte} (bad : args.length ≠ 2 ∨ 4096 ≤ argWord args 0) : maskArg args = none := by
  unfold maskArg
  split
  next hi lo =>
    have high : 4096 ≤ val16 hi lo := by simpa [argWord, val16] using bad
    exact if_neg (Nat.not_lt.mpr high)
  next => rfl

/-- R91: an accepted GEN_CLAIM has five bytes of arguments, which give path, bin and seconds. -/
theorem claimArgs_fields {args : List Byte} {a : ClaimArgs} (h : claimArgs args = some a) :
    args.length = 5 ∧ a.path.val = (args.getD 0 0).toNat ∧ a.bin = argWord args 1 ∧ a.secs = argWord args 3 := by
  unfold claimArgs at h
  split at h
  · split at h
    · dsimp only at h
      split at h
      · cases h
        exact ⟨rfl, rfl, rfl, rfl⟩
      · cases h
    · cases h
  · cases h

theorem runGenClaim_badArgument {requester : Byte} {rq : RequestHead} {args : List Byte} {t : Stamp} (k : Fin 6) {s : State}
    (bad : s.badArguments (.genClaim rq args t)) : runGenClaim requester args k s = (s, .done .badArgument []) := by
  unfold runGenClaim
  split
  next a accepted =>
    obtain ⟨length, path, bin, secs⟩ := claimArgs_fields accepted
    obtain ⟨lowBin, highBin, plan, lowSecs, highSecs⟩ := claimArgs_bounds accepted
    have pathBound := a.path.isLt
    simp only [inPilotPlan, Bool.and_eq_false_iff, decide_eq_false_iff_not] at plan
    refine if_pos ?_
    rcases bad with short | high | ⟨p, same, unused⟩ | ranges
    · exact absurd length short
    · omega
    · rwa [show a.path = p from Fin.ext (path.trans same.symm)]
    · omega
  next => rfl

theorem watchCommon_eq_none {c : Byte} {bin secs : Nat}
    (bad : 8 ≤ c.toNat ∨ bin = 0 ∨ 512 ≤ bin ∨ secs < 10 ∨ 3600 < secs) : watchCommon c bin secs = none := by
  unfold watchCommon
  split
  · exact if_neg (by omega)
  · rfl

theorem Combine.ofCode_eq_none {n : Nat} (h : 3 ≤ n) : Combine.ofCode n = none := by
  obtain ⟨m, rfl⟩ := Nat.exists_eq_add_of_le' h
  rfl

theorem watchArgs_eq_none {rq : RequestHead} {args : List Byte} {t : Stamp} {s : State} (bad : s.badArguments (.toneWatch rq args t)) :
    watchArgs args = none := by
  unfold watchArgs
  split
  next c b1 b0 s1 s0 =>
    have ranges : 8 ≤ c.toNat ∨ val16 b1 b0 = 0 ∨ 512 ≤ val16 b1 b0 ∨ val16 s1 s0 < 10 ∨ 3600 < val16 s1 s0 := by
      simpa [State.badArguments, argWord, val16] using bad
    rw [watchCommon_eq_none ranges]
    rfl
  next c b1 b0 d1 d0 m s1 s0 =>
    have ranges : (8 ≤ c.toNat ∨ val16 b1 b0 = 0 ∨ 512 ≤ val16 b1 b0 ∨ val16 s1 s0 < 10 ∨ 3600 < val16 s1 s0) ∨ 3 ≤ m.toNat ∨
        ¬ (1 ≤ val16 d1 d0 ∧ val16 d1 d0 ≤ 511 ∧ val16 d1 d0 ≠ val16 b1 b0) := by
      simp only [State.badArguments, argWord, List.length_cons, List.length_nil, List.getD_cons_zero, List.getD_cons_succ] at bad
      simp only [val16]
      omega
    rcases ranges with common | mode | second
    · rw [watchCommon_eq_none common]
      rfl
    · rw [Combine.ofCode_eq_none mode]
      cases watchCommon c (val16 b1 b0) (val16 s1 s0) <;> rfl
    · simp only [if_neg second]
      cases watchCommon c (val16 b1 b0) (val16 s1 s0) with
      | none => rfl
      | some ch => cases Combine.ofCode m.toNat <;> rfl
  next => rfl

/-- R162: in RUNNING a request with bad arguments is answered BAD_ARGUMENT, and changes nothing. -/
theorem runOf_badArguments {c : Instr} (k : Fin 6) {s : State} (bad : s.badArguments c) : runOf c k s = (s, .done .badArgument []) := by
  unfold runOf
  split
  next => rw [answering, replyQueryPath, byteArg_eq_none bad]
  next => rw [answering, replyQuerySite]; exact bad
  next => rw [answering, replyQueryLane, byteArg_eq_none bad]
  next => rw [answering, replyQueryNeighbour, sideArg_eq_none bad]
  next => rw [runProbe, byteArg_eq_none bad]
  next => rw [runToneWatch, watchArgs_eq_none bad]
  next => rw [runToneDrop, byteArg_eq_none bad]
  next => exact runGenClaim_badArgument k bad
  next => rw [runGenRelease]; exact bad
  next => rw [runLines, maskArg_eq_none bad]
  next => rw [runLines, maskArg_eq_none bad]
  next => rw [runLinesAck, maskArg_eq_none bad]
  next => rw [runRecheck, byteArg_eq_none bad]
  next => rw [runRestart]; exact bad
  next => exact absurd bad (by cases c <;> simp_all [State.badArguments])

/-- The arguments of a request are judged by the settings alone. -/
theorem State.badArguments_requestIn {s : State} {c : Instr} (k : Fin 6) (rq : RequestHead) (body : List Byte) (bad : s.badArguments c) :
    (s.requestIn k rq body).badArguments c := by
  cases c <;> exact bad

/-! ### RequestsTurnedAway -/

section
variable {c : Instr} {rq : RequestHead} {body : List Byte} {t : Stamp} {s₀ s : State} {k : Fin 6}

/-- R162: the status with which a request is turned away that takes slot k. -/
def State.turnsAway (s : State) (k : Fin 6) (c : Instr) (rq : RequestHead) (body : List Byte) (status : Status) : Prop :=
  s.cfl.phase = .loading ∧ status = .notReady ∨
    s.cfl.phase = .running ∧ runOf c k (s.requestIn k rq body) = (s.requestIn k rq body, .done status [])

/-- R161 to R163: a request turned away completes at once, without results. -/
theorem exec_turnedAway {status : Status} (request : requestOf c = some (rq, body, t)) (now : s = s₀.moment t) (awake : s.awake = true)
    (stationed : s.station.isSome = true) (free : s.rqh.slots[k].state = .free)
    (lowest : ∀ j : Fin 6, j < k → s.rqh.slots[j].state ≠ .free) (turned : s.turnsAway k c rq body status) :
    exec c s₀ = .next ((s.requestIn k rq body).complete k status []) := by
  rw [exec_request request s₀, ← now]
  rcases turned with ⟨loading, rfl⟩ | ⟨running, ran⟩
  · rw [State.takeRequest_loading awake loading stationed free lowest]
  · have running' : s.running = true := State.running_of_phase awake (by simp [running]) (by simp [running])
    rw [State.takeRequest_done running' stationed free lowest ran]

/-- R163: with a port UP its answer is its status and the request code. -/
theorem exec_turnedAway_answered {status : Status} (request : requestOf c = some (rq, body, t)) (now : s = s₀.moment t)
    (awake : s.awake = true) (slot : s.slotFor k) (turned : s.turnsAway k c rq body status) :
    exec c s₀ = .next (s.answered k rq body (BitVec.ofNat 8 status.code :: body.take 1)) := by
  obtain ⟨stationed, free, lowest, up⟩ := slot
  rw [exec_turnedAway request now awake stationed free lowest turned, State.complete_requestIn k rq body [] status up, answerBody_bare]

theorem turnsAway_badArguments (running : s.cfl.phase = .running) (bad : s.badArguments c) : s.turnsAway k c rq body .badArgument :=
  .inr ⟨running, runOf_badArguments k (s.badArguments_requestIn k rq body bad)⟩

theorem turnsAway_unknown (running : s.cfl.phase = .running) (unknown : c = .unknownRequest rq body t) :
    s.turnsAway k c rq body .unknownRequest := by
  subst unknown
  exact .inr ⟨running, rfl⟩

theorem turnsAway_broadcastRestart (running : s.cfl.phase = .running) (restart : c = .restartRequest rq [] t)
    (broadcast : rq.broadcast = true) : s.turnsAway k c rq body .notApplicable := by
  subst restart
  refine .inr ⟨running, ?_⟩
  simp [runOf, runRestart, broadcast]

end

/-- Settles O46: every request takes the common path; RQH drops it, or it is turned away with a status, and its answer is sent or
discarded. -/
theorem requestsTurnedAway : Obligations.RequestsTurnedAway := by
  intro c rq body t s₀ s request now awake reached
  have phase : s.cfl.phase = .loading ∨ s.cfl.phase = .running := by cases h : s.cfl.phase <;> simp_all
  refine ⟨fun unstationed => ?_, fun stationed full => ?_,
    fun k slot => ⟨fun loading => ?notReady, fun running => ⟨fun unknown => ?unknown, fun bad => ?bad, fun restart broadcast => ?restart⟩⟩,
    fun k stationed free lowest west east other reason => ?discarded⟩
  · rw [exec_request request s₀, ← now, State.takeRequest_unstationed awake reached unstationed]
  · rw [exec_request request s₀, ← now, State.takeRequest_full awake reached stationed full]
    rfl
  case notReady => exact exec_turnedAway_answered request now awake slot (.inl ⟨loading, rfl⟩)
  case unknown => exact exec_turnedAway_answered request now awake slot (turnsAway_unknown running unknown)
  case bad => exact exec_turnedAway_answered request now awake slot (turnsAway_badArguments running bad)
  case restart =>
    have body_eq : body = [28] := by rw [restart] at request; cases request; rfl
    have answered := exec_turnedAway_answered request now awake slot (turnsAway_broadcastRestart running restart broadcast)
    rw [answered, body_eq]
    rfl
  case discarded =>
    obtain ⟨status, turned⟩ : ∃ status, s.turnsAway k c rq body status := by
      rcases phase with loading | running
      · exact ⟨_, .inl ⟨loading, rfl⟩⟩
      · rcases reason with loading | unknown | bad | ⟨restart, broadcast⟩
        · exact ⟨_, .inl ⟨loading, rfl⟩⟩
        · exact ⟨_, turnsAway_unknown running unknown⟩
        · exact ⟨_, turnsAway_badArguments running bad⟩
        · exact ⟨_, turnsAway_broadcastRestart running restart broadcast⟩
    rw [exec_turnedAway request now awake stationed free lowest turned, State.complete_discarded status [] west east other]

end Sys2Proof.Machine
end

section
/-! SUPPORT. The release of RSTN, the invariants of the reset state, and the seven cases in which settings are inconsistent. It settles
O4, O7 and O55. -/

namespace Sys2Proof.Machine
open Sys2Proof

/-! ### RSTN_RELEASE (R36, R37) -/

/-- Settles O4: the release is one start of a load, whose recovery is the operand's where the load has time for it. -/
theorem releaseBeginsLoad : Obligations.ReleaseBeginsLoad := by
  intro straps hold freed s asleep rfl
  refine congrArg Host.Outcome.next ?_
  rw [State.rstnRelease, asleep, if_neg Bool.false_ne_true]
  rfl

/-! ### The invariants after power-on reset (R35) -/

section
variable (pins : Pins) (straps : BitVec 6) (ended : Option I2cEnd) (n : Nat) (q : List Instr)

/-- R64: every lane of a held part stands at its reset record. -/
theorem State.held_lane (i : Fin 16) : (State.held pins straps ended n q).tcr[i] = Lane.reset i := by
  simp [State.held, lanesReset]

theorem State.held_lanesSound : (State.held pins straps ended n q).lanesSound := by
  intro i
  simp only [State.held_lane]
  refine ⟨fun automatic => ?_, fun pool => ?_, ⟨fun _ => rfl, fun _ => rfl⟩, nofun⟩
  · simp [Lane.reset, Lane.resetChannel, automatic]
  · have pooled : ¬ i.val < 8 := Nat.not_lt.mpr pool
    simp [Lane.reset, pooled]

/-- R60, R74: no block has begun, and every accumulator and sum is empty. -/
theorem State.held_sumsSound : (State.held pins straps ended n q).sumsSound := by
  refine ⟨Nat.zero_lt_succ _, fun _ => ⟨rfl, rfl⟩, fun _ => rfl, fun i => ?_, fun p => ?_⟩
  · rw [State.held_lane]
    exact ⟨Nat.zero_le _, Nat.zero_le _, Nat.zero_lt_succ _, fun _ => ⟨rfl, rfl⟩⟩
  · simp [State.held, PathRec.reset]

theorem State.held_verdictsSound : (State.held pins straps ended n q).verdictsSound := by
  intro p
  refine ⟨nofun, fun watch => ?_⟩
  simp [State.held, VerdictRec.reset] at watch

theorem State.held_pilotsSound : (State.held pins straps ended n q).pilotsSound := by
  intro p
  have normal : (normalLane p).val < 8 := by simp only [normalLane]; omega
  have fill : (fillLane p).val < 8 := by simp only [fillLane]; omega
  simp only [State.held_lane]
  simp [State.held, Lane.reset, Plg.reset, Osc.reset, PathRec.reset, normal, fill]

/-- R156: every line stands at its reset record, an input without a pair, so no stall condition holds. -/
theorem State.held_siteSound : (State.held pins straps ended n q).siteSound := by
  refine ⟨nofun, fun i => ?_, nofun, nofun⟩
  simp [State.held, Stu.stalled, Stu.reset, LineRec.reset]

end

/-- Settles O55: the reset state is a part held in reset, where nothing is queued and every record stands at its reset value. -/
theorem resetMeetsInvariants : Obligations.ResetMeetsInvariants :=
  ⟨(State.held_matched ..).1, (State.held_matched ..).2, State.held_portsSound _ _ _ _ _, State.held_countsSound ..,
    State.held_configSound .., State.testSound_of_free rfl, State.held_lanesSound _ _ _ _ _, State.held_sumsSound ..,
    State.held_verdictsSound _ _ _ _ _, State.held_pilotsSound _ _ _ _ _, State.held_siteSound ..⟩

/-! ### Consistency (R41) -/

/-- R41: the cases of one path. -/
theorem pathConsistent_eq_false_iff (c : Settings) (p : Fin 4) :
    pathConsistent c p = false ↔
      (c.paths[p].kind = .span ∧ (if p.val % 2 = 0 then c.west else c.east) = 0) ∨ c.paths[p].upstream.val % 2 ≠ p.val % 2 ∨
        c.paths[p].toneOff ≥ c.paths[p].toneOn ∨
        (c.paths[p].degrade ≤ c.paths[p].loss ∨ c.paths[p].overload ≤ c.paths[p].degrade) := by
  simp only [pathConsistent, Bool.and_eq_false_iff, Bool.not_eq_false', Bool.and_eq_true, decide_eq_true_eq, decide_eq_false_iff_not,
    Nat.not_lt, or_assoc]

/-- R41: the cases of one FAN line. -/
theorem pairConsistent_eq_false_iff (c : Settings) (n : Fin 12) :
    pairConsistent c n = false ↔
      ∃ m : Fin 12, c.lines[n].fn = .fan ∧ c.lines[n].paired = some m ∧
        (c.lines[m].fn ≠ .tacho ∨ ∃ k : Fin 12, n ≠ k ∧ c.lines[k].fn = .fan ∧ c.lines[k].paired = some m) := by
  unfold pairConsistent
  split
  next m fan paired =>
    simp only [fan, paired, Option.some.injEq, true_and, exists_eq_left', Bool.and_eq_false_iff, decide_eq_false_iff_not,
      List.all_eq_false, List.mem_finRange, Bool.or_eq_true, Bool.not_eq_true', Bool.and_eq_false_iff, decide_eq_true_eq, not_or,
      not_not, ne_comm (a := n)]
  next other =>
    refine iff_of_false Bool.true_eq_false.mp ?_
    rintro ⟨m, fan, paired, -⟩
    exact other m fan paired

/-- R41: settings are inconsistent in a path, in their thresholds and times, or in a FAN line. -/
theorem consistent_eq_false_iff (c : Settings) :
    consistent c = false ↔
      (∃ p, pathConsistent c p = false) ∨ c.poolOff ≥ c.poolOn ∨ (c.dyingLevel ≠ 0 ∧ c.reviveLevel ≤ c.dyingLevel) ∨
        c.staleTime < 2 * c.statePeriod ∨ ∃ n, pairConsistent c n = false := by
  simp only [consistent, Bool.and_eq_false_iff, List.all_eq_false, List.mem_finRange, true_and, Bool.not_eq_true,
    decide_eq_false_iff_not, Nat.not_lt, Nat.not_le, Bool.not_eq_false', Bool.and_eq_true, bne_iff_ne, decide_eq_true_eq, or_assoc]

/-- R41: fan pairing fails by a pair that is no TACHO line, or by two FAN lines that name one pair. -/
theorem exists_pairConsistent_eq_false_iff (c : Settings) :
    (∃ n, pairConsistent c n = false) ↔
      (∃ n m : Fin 12, c.lines[n].fn = .fan ∧ c.lines[n].paired = some m ∧ c.lines[m].fn ≠ .tacho) ∨
        ∃ n k m : Fin 12, n ≠ k ∧ c.lines[n].fn = .fan ∧ c.lines[n].paired = some m ∧ c.lines[k].fn = .fan ∧
          c.lines[k].paired = some m := by
  simp only [pairConsistent_eq_false_iff]
  constructor
  · rintro ⟨n, m, fan, paired, other | ⟨k, ne, fan', paired'⟩⟩
    · exact .inl ⟨n, m, fan, paired, other⟩
    · exact .inr ⟨n, k, m, ne, fan, paired, fan', paired'⟩
  · rintro (⟨n, m, fan, paired, other⟩ | ⟨n, k, m, ne, fan, paired, fan', paired'⟩)
    · exact ⟨n, m, fan, paired, .inl other⟩
    · exact ⟨n, m, fan, paired, .inr ⟨k, ne, fan', paired'⟩⟩

/-- Settles O7: consistency is judged path by path and FAN line by FAN line, and each judgement's cases are known. -/
theorem inconsistencyCases : Obligations.InconsistencyCases := by
  intro c
  rw [consistent_eq_false_iff, exists_pairConsistent_eq_false_iff]
  simp only [pathConsistent_eq_false_iff, exists_or, or_assoc]
  simp only [or_left_comm (b := c.poolOff ≥ c.poolOn)]

end Sys2Proof.Machine
end

section
/-! SUPPORT. The entry to RUNNING (R43): how STU takes its lines, the owned alarms, and the first STATE or DYING. -/

namespace Sys2Proof.Machine
open Sys2Proof

/-! ### STU at the entry to RUNNING (R143, R144, R156) -/

section
variable (c : LineSettings) (pin : Bool)

@[simp] theorem LineRec.entered_fn : (LineRec.entered c pin).fn = c.fn := by
  unfold LineRec.entered; split <;> simp [*]

@[simp] theorem LineRec.entered_fanStall : (LineRec.entered c pin).fanStall = false := by
  unfold LineRec.entered; split <;> rfl

/-- R143: an output is driven at its start level. -/
theorem LineRec.entered_driven (driven : c.fn = .out ∨ c.fn = .fan) :
    (LineRec.entered c pin).level = c.startHigh ∧ (LineRec.entered c pin).requested = c.startHigh := by
  rcases driven with out | fan
  · simp [LineRec.entered, out]
  · simp [LineRec.entered, fan]

/-- R156: an input takes the level on its pin. -/
theorem LineRec.entered_read (read : c.fn = .inp ∨ c.fn = .tacho ∨ c.fn = .powerGood) : (LineRec.entered c pin).level = pin := by
  rcases read with inp | tacho | powerGood
  · simp [LineRec.entered, inp]
  · simp [LineRec.entered, tacho]
  · simp [LineRec.entered, powerGood]

/-- R144: a flag is set at once where an IN line's pin holds its trigger. -/
theorem LineRec.entered_flag_iff :
    (LineRec.entered c pin).flag = true ↔
      c.fn = .inp ∧ (c.trigger = .high ∧ pin = true ∨ c.trigger = .low ∧ pin = false) := by
  unfold LineRec.entered
  split
  next inp => cases trigger : c.trigger <;> simp [Trigger.heldBy, inp]
  all_goals simp [LineRec.reset, *]

end

/-- R149: settling a line whose FAN_STALL is clear moves its stall timer alone. -/
theorem LineRec.stallSettled_of_clear {r : LineRec} (clear : r.fanStall = false) (stalled : Bool) :
    ∃ timer, r.stallSettled stalled = { r with stallTimer := timer } := by
  unfold LineRec.stallSettled
  split
  · split
    · exact ⟨_, rfl⟩
    · exact ⟨r.stallTimer, rfl⟩
  · exact ⟨.stopped, by rw [← clear]⟩

/-- R156: STU with its lines as the settings and the pins give them. -/
def State.siteEntered (s : State) : Stu :=
  Stu.settleStall { Stu.reset with lines := .ofFn fun n => LineRec.entered s.settings.lines[n] s.pins.lines[n] }

/-- R156: STU's entry replaces its records, and asks for a LINES notice or not. -/
theorem State.enterSite_changes (s : State) : ∃ q, s.enterSite = { s with stu := s.siteEntered, snq := q } := by
  unfold State.enterSite; dsimp only; split
  · obtain ⟨q, asked⟩ := State.askNotice_changes { s with stu := s.siteEntered } .lines false
    exact ⟨q, asked⟩
  · exact ⟨s.snq, rfl⟩

theorem State.siteEntered_line (s : State) (n : Fin 12) :
    ∃ timer, s.siteEntered.lines[n] = { LineRec.entered s.settings.lines[n] s.pins.lines[n] with stallTimer := timer } := by
  simp only [State.siteEntered, Stu.settleStall, Fin.getElem_fin, Vector.getElem_ofFn]
  exact LineRec.stallSettled_of_clear (LineRec.entered_fanStall _ _) _

theorem State.siteEntered_fanStall (s : State) (n : Fin 12) : s.siteEntered.lines[n].fanStall = false := by
  obtain ⟨timer, line⟩ := s.siteEntered_line n
  rw [line]
  dsimp only
  exact LineRec.entered_fanStall _ _

/-- R152: POWER_GOOD is judged by the levels on the pins. -/
theorem State.siteEntered_allPowerGood (s : State) :
    s.siteEntered.allPowerGood = true ↔ ∀ n : Fin 12, s.settings.lines[n].fn = .powerGood → s.pins.lines[n] = true := by
  simp only [Stu.allPowerGood, List.all_eq_true, List.mem_finRange, true_implies]
  refine forall_congr' fun n => ?_
  obtain ⟨timer, line⟩ := s.siteEntered_line n
  rw [line, Bool.or_eq_true, bne_iff_ne, LineRec.entered_fn, ne_eq, ← imp_iff_not_or]
  refine imp_congr_right fun powerGood => ?_
  rw [LineRec.entered_read _ _ (.inr (.inr powerGood))]

/-! ### The owned alarms at the entry (R154) -/

theorem countFin_eq_zero {n : Nat} {f : Fin n → Bool} (never : ∀ i, f i = false) : countFin n f = 0 := by
  simp [countFin, never]

/-- R124: no verdict that the entry gives is an owned alarm. -/
theorem State.blocksEntered_vdeCount {s u : State} (vde : u.vde = s.blocksEntered.vde) : u.vdeCount = 0 := by
  refine countFin_eq_zero fun p => ?_
  simp only [vde, State.blocksEntered, Fin.getElem_fin, Vector.getElem_ofFn]
  split <;> rfl

/-- R108: no path record at its reset value holds an owned alarm. -/
theorem State.pmnCount_of_reset {u : State} (pmn : u.pmn = .replicate 4 .reset) : u.pmnCount = 0 := by
  simp [State.pmnCount, State.pmnPathCount, pmn, PathRec.reset]

/-- R151: with HOT, FILTER and every FAN_STALL clear STU holds no climate alarm. -/
theorem Stu.climateCount_of_clear {u : Stu} (hot : u.hot = false) (filter : u.filter = false)
    (stalls : ∀ n : Fin 12, u.lines[n].fanStall = false) : u.climateCount = 0 := by
  rw [Stu.climateCount, hot, filter, countFin_eq_zero stalls]
  rfl

/-- R154: in RUNNING the total is the sum of the contributions. -/
theorem State.settleAlarms_total {s : State} (running : s.running = true) :
    s.settleAlarms.stu.total = s.vdeCount + s.pmnCount + s.stu.climateCount + s.stu.dying.toNat := by
  rw [State.settleAlarms, if_pos running]

/-- R154: settling the alarms changes STU alone. -/
theorem State.settleAlarms_eq (s : State) : s.settleAlarms = { s with stu := s.settleAlarms.stu } := by
  unfold State.settleAlarms; split <;> rfl

@[simp] theorem State.settleAlarms_dying (s : State) : s.settleAlarms.stu.dying = s.stu.dying := by
  unfold State.settleAlarms; split <;> rfl

/-- R154: of a line settling the alarms moves the level alone, and only that of an ALARM line. -/
theorem State.settleAlarms_line (s : State) (n : Fin 12) :
    ∃ level, s.settleAlarms.stu.lines[n] = { s.stu.lines[n] with level := level } ∧
      (s.stu.lines[n].fn ≠ .alarm → level = s.stu.lines[n].level) := by
  obtain ⟨_, _, _, _, lines, settled, same⟩ := s.settleAlarms_changes
  rw [settled]
  exact same n

/-! ### The first STATE, or DYING (R152, R157) -/

/-- R24, R25: after a request made with a port UP, its item has an entry marked for every UP port. -/
theorem snqAsk_marks_up {item : Item} {prompt w x : Bool} {q : List Entry} (up : w = true ∨ x = true) :
    ∃ e ∈ snqAsk item prompt w x q, e.item = item ∧ (w = true → e.west = true) ∧ (x = true → e.east = true) := by
  by_cases found : ∃ e ∈ q, e.item = item
  · rw [snqAsk_of_found _ _ _ found]
    obtain ⟨e, mem, same⟩ := found
    refine ⟨_, List.mem_map_of_mem mem, ?_⟩
    rw [if_pos same]
    exact ⟨same, fun west => by simp [Entry.remark, west], fun east => by simp [Entry.remark, east]⟩
  · rw [snqAsk_of_absent _ _ _ fun e mem same => found ⟨e, mem, same⟩, if_pos (by simpa using up)]
    exact ⟨_, List.mem_append_right _ (List.mem_singleton_self _), rfl, id, id⟩

/-- R27: the POWER notice in DYING form leaves no STATE entry. -/
theorem snqDying_no_state (w x : Bool) (q : List Entry) : ∀ e ∈ snqDying w x q, e.item ≠ .state := by
  have rest : ∀ e ∈ q.filter (fun e => e.item ≠ .notice .power ∧ e.item ≠ .state), e.item ≠ .state := fun e mem =>
    (of_decide_eq_true (List.mem_filter.mp mem).2).2
  unfold snqDying; dsimp only; split
  next power found =>
    refine List.forall_mem_cons.mpr ⟨?_, rest⟩
    have item : power.item = .notice .power := by simpa using List.find?_some found
    simp [Entry.remark, item]
  next =>
    split
    · exact List.forall_mem_cons.mpr ⟨nofun, rest⟩
    · exact rest

/-- R152, R157: at the entry to RUNNING from s, with every POWER_GOOD line HIGH the STATE period timer runs and a STATE is asked for;
otherwise the timer is stopped and no STATE waits. -/
structure FirstReport (s : State) (q : List Entry) (timer : Countdown) : Prop where
  dying : s.siteEntered.allPowerGood = false → timer = .stopped ∧ ∀ e ∈ q, e.item ≠ .state
  normal : s.siteEntered.allPowerGood = true →
    timer = .seconds s.settings.statePeriod ∧
      (s.isUp .west = true ∨ s.isUp .east = true →
        ∃ e ∈ q, e.item = .state ∧ (s.isUp .west = true → e.west = true) ∧ (s.isUp .east = true → e.east = true))

/-- R43, R152: the entry to RUNNING from s with the POWER_GOOD lines judged, before the alarms are settled. -/
def State.powerJudged (s : State) (q : List Entry) (timer : Countdown) : State :=
  { s.blocksEntered with
    stu := { s.siteEntered with dying := !s.siteEntered.allPowerGood }, snq := q, stateTimer := timer }

/-- R43: the entry to RUNNING is the blocks, the lines and the first report, and then the settling of the alarms. -/
theorem State.enterRunning_judged {s : State} (awake : s.awake = true) :
    ∃ q timer, s.enterRunning = (s.powerJudged q timer).settleAlarms ∧ FirstReport s q timer := by
  obtain ⟨q, site⟩ := s.blocksEntered.enterSite_changes
  have running : s.blocksEntered.running = true := by simpa [State.running, State.blocksEntered, State.awake] using awake
  have reported : State.askState { s.blocksEntered.enterSite with stateTimer := .seconds s.settings.statePeriod } =
      { s.blocksEntered with
        stu := s.siteEntered, stateTimer := .seconds s.settings.statePeriod
        snq := snqAsk .state false (s.isUp .west) (s.isUp .east) q } := by
    rw [site]
    exact if_pos (Bool.and_eq_true_iff.mpr ⟨running, rfl⟩)
  rw [State.enterRunning_eq]
  dsimp only
  rw [reported]
  cases good : s.siteEntered.allPowerGood with
  | true =>
    refine ⟨snqAsk .state false (s.isUp .west) (s.isUp .east) q, _, ?_, fun bad => ?_, fun _ => ⟨rfl, snqAsk_marks_up⟩⟩
    · rw [State.powerJudged, good]; rfl
    · exact absurd (good.symm.trans bad) Bool.true_eq_false.mp
  | false =>
    refine ⟨snqDying (s.isUp .west) (s.isUp .east) (snqAsk .state false (s.isUp .west) (s.isUp .east) q), _, ?_,
      fun _ => ⟨rfl, snqDying_no_state _ _ _⟩, fun bad => ?_⟩
    · rw [State.powerJudged, good]; rfl
    · exact absurd (good.symm.trans bad) Bool.false_ne_true

/-- R43: what the entry to RUNNING from s leaves of STU: its lines as they were entered, with the stall timers and the levels of the ALARM
lines that follow from them, and DYING, the one owned alarm there can be. -/
structure EnteredSite (s : State) (stu : Stu) : Prop where
  line (n : Fin 12) : ∃ level stall,
    stu.lines[n] = { LineRec.entered s.settings.lines[n] s.pins.lines[n] with level := level, stallTimer := stall } ∧
      (s.settings.lines[n].fn ≠ .alarm → level = (LineRec.entered s.settings.lines[n] s.pins.lines[n]).level)
  dying : stu.dying = !s.siteEntered.allPowerGood
  total : stu.total = stu.dying.toNat

/-- R154: settling the alarms of a part that enters RUNNING. -/
theorem State.powerJudged_settled {s : State} (awake : s.awake = true) (q : List Entry) (timer : Countdown) :
    ∃ stu, (s.powerJudged q timer).settleAlarms = { s.blocksEntered with stu := stu, snq := q, stateTimer := timer } ∧
      EnteredSite s stu := by
  have running : (s.powerJudged q timer).running = true := by
    simpa [State.running, State.powerJudged, State.blocksEntered, State.awake] using awake
  have dying : (s.powerJudged q timer).stu.dying = !s.siteEntered.allPowerGood := by simp only [State.powerJudged]
  have lines : (s.powerJudged q timer).stu.lines = s.siteEntered.lines := by simp only [State.powerJudged]
  have blocks (stu : Stu) :
      ({ s.powerJudged q timer with stu := stu } : State) = { s.blocksEntered with stu := stu, snq := q, stateTimer := timer } := by
    simp only [State.powerJudged]
  refine ⟨(s.powerJudged q timer).settleAlarms.stu, (State.settleAlarms_eq _).trans (blocks _), fun n => ?line,
    (State.settleAlarms_dying _).trans dying, ?total⟩
  case line =>
    obtain ⟨level, line, fixed⟩ := (s.powerJudged q timer).settleAlarms_line n
    obtain ⟨stall, entered⟩ := s.siteEntered_line n
    rw [lines, entered] at line fixed
    dsimp only at fixed
    rw [LineRec.entered_fn] at fixed
    exact ⟨level, stall, line, fixed⟩
  case total =>
    have vde : (s.powerJudged q timer).vdeCount = 0 := State.blocksEntered_vdeCount (s := s) (by simp only [State.powerJudged])
    have pmn : (s.powerJudged q timer).pmnCount = 0 :=
      State.pmnCount_of_reset (by simp only [State.powerJudged, State.blocksEntered])
    have climate : (s.powerJudged q timer).stu.climateCount = 0 :=
      Stu.climateCount_of_clear rfl rfl fun n => by rw [lines, s.siteEntered_fanStall]
    rw [State.settleAlarms_total running, vde, pmn, climate, Nat.zero_add, State.settleAlarms_dying]

/-- R43: the entry to RUNNING leaves the blocks as `blocksEntered` says, STU as `EnteredSite` says, and the first report. -/
theorem State.enterRunning_entered {s : State} (awake : s.awake = true) :
    ∃ stu q timer, s.enterRunning = { s.blocksEntered with stu := stu, snq := q, stateTimer := timer } ∧
      EnteredSite s stu ∧ FirstReport s q timer := by
  obtain ⟨q, timer, judged, report⟩ := State.enterRunning_judged awake
  obtain ⟨stu, settled, site⟩ := State.powerJudged_settled awake q timer
  exact ⟨stu, q, timer, judged.trans settled, site, report⟩

end Sys2Proof.Machine
end

section
/-! SUPPORT. The end of a load (R38 to R44): what it sets, what it leaves, and how an image is judged. It settles O5 and O6. -/

namespace Sys2Proof.Machine
open Sys2Proof

/-! ### What the end of a load sets and leaves (R42, R43) -/

/-- R42, R64: the part with the outcome, the reason and the settings of an ended load, before its phase follows the strap value. -/
def State.loadSettled (s : State) (outcome : StartOutcome) (reason : StartReason) (c : Settings) : State :=
  { s with
    cfl := { s.cfl with
      outcome := some outcome
      reason := some reason
      settings := some c
      loadTimer := .stopped
      i2c := { s.cfl.i2c with phase := .idle, ended := some .stop } }
    tcr := .ofFn fun i => s.tcr[i].withThresholds c i }

section
variable (s : State) (outcome : StartOutcome) (reason : StartReason) (c : Settings)

@[simp] theorem State.loadSettled_clk : (s.loadSettled outcome reason c).clk = s.clk := by rw [State.loadSettled]
@[simp] theorem State.loadSettled_pins : (s.loadSettled outcome reason c).pins = s.pins := by rw [State.loadSettled]
@[simp] theorem State.loadSettled_west : (s.loadSettled outcome reason c).west = s.west := by rw [State.loadSettled]
@[simp] theorem State.loadSettled_east : (s.loadSettled outcome reason c).east = s.east := by rw [State.loadSettled]
@[simp] theorem State.loadSettled_rly : (s.loadSettled outcome reason c).rly = s.rly := by rw [State.loadSettled]
@[simp] theorem State.loadSettled_settings : (s.loadSettled outcome reason c).settings = c := rfl

@[simp] theorem State.loadSettled_isUp (side : Side) : (s.loadSettled outcome reason c).isUp side = s.isUp side := by
  cases side
  · exact congrArg (fun p : Port => decide (p.link = .up)) (s.loadSettled_west outcome reason c)
  · exact congrArg (fun p : Port => decide (p.link = .up)) (s.loadSettled_east outcome reason c)

@[simp] theorem State.loadSettled_awake : (s.loadSettled outcome reason c).awake = s.awake := by simp [State.awake]

theorem State.loadSettled_lane (i : Fin 16) : (s.loadSettled outcome reason c).tcr[i] = s.tcr[i].withThresholds c i := by
  simp [State.loadSettled]

@[simp] theorem State.loadSettled_station : (s.loadSettled outcome reason c).station = s.station := by
  rw [State.station, State.loadSettled, State.station]

theorem State.loadEnd_eq :
    s.loadEnd outcome reason c =
      if (s.loadSettled outcome reason c).station.isSome then (s.loadSettled outcome reason c).enterRunning
      else { s.loadSettled outcome reason c with cfl := { (s.loadSettled outcome reason c).cfl with phase := .repeaterOnly } } := by
  unfold State.loadEnd State.loadSettled
  rfl

/-- R43: with a station number the end of a load is the entry to RUNNING. -/
theorem State.loadEnd_stationed (stationed : s.station.isSome = true) :
    s.loadEnd outcome reason c = (s.loadSettled outcome reason c).enterRunning := by
  rw [State.loadEnd_eq, State.loadSettled_station, if_pos stationed]

/-- R43: with none it is REPEATER_ONLY, and no more. -/
theorem State.loadEnd_unstationed (unstationed : s.station.isSome = false) :
    s.loadEnd outcome reason c =
      { s.loadSettled outcome reason c with cfl := { (s.loadSettled outcome reason c).cfl with phase := .repeaterOnly } } := by
  rw [State.loadEnd_eq, State.loadSettled_station, if_neg (ne_true_of_eq_false unstationed)]

end

/-- R42 to R44: the end of a load, the entry to RUNNING included, sets CFL's fields and leaves the clock, the ports and RLY. -/
theorem State.loadEnd_leaves {s : State} (awake : s.awake = true) (outcome : StartOutcome) (reason : StartReason) (c : Settings) :
    let u := s.loadEnd outcome reason c
    u.cfl = { (s.loadSettled outcome reason c).cfl with phase := if s.station.isSome then .running else .repeaterOnly } ∧
      u.clk = s.clk ∧ u.west = s.west ∧ u.east = s.east ∧ u.rly = s.rly := by
  cases stationed : s.station.isSome with
  | true =>
    obtain ⟨_, _, _, entered, -⟩ := State.enterRunning_entered ((s.loadSettled_awake outcome reason c).trans awake)
    simp [State.loadEnd_stationed _ _ _ _ stationed, entered, State.blocksEntered]
  | false => simp [State.loadEnd_unstationed _ _ _ _ stationed]

/-! ### LoadFailureTakesDefaults (R38, R42) -/

/-- R40, R42: the defaults have the values of the tables, at every station. -/
theorem defaultSettings_isDefault (station : Option Nat) : (defaultSettings station).isDefault station := by
  refine ⟨?_, ?_, rfl, rfl, rfl, rfl, rfl, rfl, rfl, rfl, rfl, rfl, rfl, rfl, rfl, rfl, fun p => ?_, fun n => ?_⟩
  · rintro n rfl; exact ⟨rfl, rfl⟩
  · rintro rfl; exact ⟨rfl, rfl⟩
  · simp [defaultSettings, defaultPath]
  · simp [defaultSettings, defaultLine]

/-- R37, R38: a missing acknowledge in the transaction, and the due load timer, end the load that is in progress. -/
theorem exec_loadFailed {c : Instr} {s : State} (awake : s.awake = true) (loading : s.cfl.phase = .loading)
    (failure : (∃ stage, c = .i2cNack stage) ∧ s.cfl.i2c.phase = .reading ∨ (c = .loadTimerExpiry ∧ s.cfl.loadTimer = .due)) :
    ∃ pins choices, pins.rstn = s.pins.rstn ∧
      exec c s = .next (State.loadEnd .defaulted .noMemory (defaultSettings s.station) { s with pins := pins, choices := choices }) := by
  rcases failure with ⟨⟨stage, rfl⟩, reading⟩ | ⟨rfl, due⟩
  · refine ⟨s.pins, s.choices, rfl, congrArg Host.Outcome.next (if_pos ?_)⟩
    simp [State.transacting, State.loading, awake, loading, reading]
  · refine ⟨_, _, ?_, congrArg Host.Outcome.next (if_pos ?_)⟩
    · rfl
    · simp [State.loading, awake, loading, due]

/-- R37: outside a transaction neither a missing acknowledge nor an image is taken. -/
theorem exec_of_not_transacting {c : Instr} {s : State} (idle : s.transacting = false)
    (event : (∃ stage, c = .i2cNack stage) ∨ ∃ img, c = .imageReadDone img) : exec c s = .next s := by
  rcases event with ⟨stage, rfl⟩ | ⟨img, rfl⟩
  · exact congrArg Host.Outcome.next (if_neg (by simp [idle]))
  · exact congrArg Host.Outcome.next (if_neg (by simp [idle]))

/-- Settles O5: either event is one end of the load on the defaults, and while the bus recovers there is no transaction. -/
theorem loadFailureTakesDefaults : Obligations.LoadFailureTakesDefaults := by
  refine ⟨fun c s awake loading failure => ?_, fun c s recovering event => ?_⟩
  · obtain ⟨pins, choices, rstn, taken⟩ := exec_loadFailed awake loading failure
    obtain ⟨cfl, clk, west, east, rly⟩ := State.loadEnd_leaves (s := { s with pins := pins, choices := choices }) (rstn.trans awake)
      .defaulted .noMemory (defaultSettings s.station)
    refine ⟨_, defaultSettings s.station, taken, ?_⟩
    rw [cfl]
    exact ⟨rfl, rfl, rfl, defaultSettings_isDefault _, rfl, rfl, rfl, rfl, rfl, clk, west, east, rly⟩
  · exact exec_of_not_transacting (by simp [State.transacting, recovering]) event

/-! ### ImageJudgedAndAdopted (R39 to R42) -/

theorem ranged_exact_eq_none {n v : Nat} (other : v ≠ n) : ranged n n v = none := if_neg fun bounds => other (by omega)

/-- R40: an image of another format or length has no fields. -/
theorem readFields_of_badFormat {img : List Byte} (bad : img.getD 0 0 ≠ 0x62 ∨ img.getD 1 0 ≠ 139) : readFields img = none := by
  unfold readFields
  rcases bad with format | length
  · have other : imageByte img 0 ≠ 0x62 := fun same => format (BitVec.eq_of_toNat_eq same)
    rw [ranged_exact_eq_none other]
    rfl
  · have other : imageByte img 1 ≠ 139 := fun same => length (BitVec.eq_of_toNat_eq same)
    cases ranged 0x62 0x62 (imageByte img 0) with
    | none => rfl
    | some _ =>
      rw [ranged_exact_eq_none other]
      rfl

section
variable {img : List Byte} {station : Option Nat}

/-- R39: an image that fails its check. -/
theorem judgeImage_badCheck (bad : crc img ≠ 0) : judgeImage station img = (.defaulted, .badCheck, defaultSettings station) := if_pos bad

/-- R40: an image with a field outside its range. -/
theorem judgeImage_badField (good : crc img = 0) (unread : readFields img = none) :
    judgeImage station img = (.defaulted, .badField, defaultSettings station) := by
  simp [judgeImage, good, unread]

/-- R41: an image whose settings are inconsistent. -/
theorem judgeImage_inconsistent {e : Settings} (good : crc img = 0) (read : readFields img = some e) (bad : consistent e = false) :
    judgeImage station img = (.defaulted, .badField, defaultSettings station) := by
  simp [judgeImage, good, read, bad]

/-- R42: an image that is adopted. -/
theorem judgeImage_adopted {e : Settings} (good : crc img = 0) (read : readFields img = some e) (sound : consistent e = true) :
    judgeImage station img = (.loaded, .none, e) := by
  simp [judgeImage, good, read, sound]

end

/-- R39: an image read whole in the transaction ends the load as it is judged. -/
theorem exec_imageReadDone {img : List Byte} {s : State} (awake : s.awake = true) (loading : s.cfl.phase = .loading)
    (reading : s.cfl.i2c.phase = .reading) (whole : img.length = 139) {outcome : StartOutcome} {reason : StartReason} {c : Settings}
    (judged : judgeImage s.station img = (outcome, reason, c)) : exec (.imageReadDone img) s = .next (s.loadEnd outcome reason c) := by
  refine congrArg Host.Outcome.next ((if_pos ?_).trans ?_)
  · simp [State.transacting, State.loading, awake, loading, reading, whole]
  · rw [judged]

/-- Settles O6: the image ends the load as it is judged, and each judgement is one case of `judgeImage`. -/
theorem imageJudgedAndAdopted : Obligations.ImageJudgedAndAdopted := by
  intro img s awake loading reading whole
  obtain ⟨outcome, reason, d, judged⟩ : ∃ o r d, judgeImage s.station img = (o, r, d) := ⟨_, _, _, rfl⟩
  obtain ⟨cfl, clk, west, east, rly⟩ := State.loadEnd_leaves awake outcome reason d
  refine ⟨_, d, exec_imageReadDone awake loading reading whole judged, ?settings, ?timer, ?phase, clk, west, east, rly, ?_⟩
  case settings => rw [cfl]; rfl
  case timer => rw [cfl]; rfl
  case phase => rw [cfl]
  have badField (same : judgeImage s.station img = (.defaulted, .badField, defaultSettings s.station)) :
      (s.loadEnd outcome reason d).cfl.outcome = some .defaulted ∧ (s.loadEnd outcome reason d).cfl.reason = some .badField ∧
        d.isDefault s.station := by
    obtain ⟨rfl, rfl, rfl⟩ := judged.symm.trans same
    rw [cfl]
    exact ⟨rfl, rfl, defaultSettings_isDefault _⟩
  refine ⟨fun bad => ?check, fun good format => ?format, fun good unread => badField (judgeImage_badField good unread),
    fun e good read bad => badField (judgeImage_inconsistent good read bad), fun e good read sound => ?adopted⟩
  case check =>
    obtain ⟨rfl, rfl, rfl⟩ := judged.symm.trans (judgeImage_badCheck bad)
    rw [cfl]
    exact ⟨rfl, rfl, defaultSettings_isDefault _⟩
  case format =>
    obtain ⟨outcome', reason', -⟩ := badField (judgeImage_badField good (readFields_of_badFormat format))
    exact ⟨outcome', reason'⟩
  case adopted =>
    obtain ⟨rfl, rfl, rfl⟩ := judged.symm.trans (judgeImage_adopted good read sound)
    rw [cfl]
    exact ⟨rfl, rfl, rfl⟩

end Sys2Proof.Machine
end

section
/-! SUPPORT. What the entry to RUNNING leaves in each line, lane, path and neighbour record (R43). It settles O9. -/

namespace Sys2Proof.Machine
open Sys2Proof

/-! ### Lines and lanes (R64, R65, R156) -/

/-- R143, R144, R156: how a line stands once the part has entered RUNNING. -/
theorem EnteredSite.line_stands {s : State} {stu : Stu} (site : EnteredSite s stu) (n : Fin 12) :
    let c := s.settings.lines[n]
    let pin := s.pins.lines[n]
    stu.lines[n].fn = c.fn ∧
      (c.fn = .out ∨ c.fn = .fan → stu.lines[n].level = c.startHigh ∧ stu.lines[n].requested = c.startHigh) ∧
      (c.fn = .inp ∨ c.fn = .tacho ∨ c.fn = .powerGood → stu.lines[n].level = pin) ∧
      (stu.lines[n].flag = true ↔ c.fn = .inp ∧ (c.trigger = .high ∧ pin = true ∨ c.trigger = .low ∧ pin = false)) := by
  obtain ⟨level, stall, line, fixed⟩ := site.line n
  dsimp only
  rw [line]
  dsimp only
  refine ⟨LineRec.entered_fn _ _, fun driven => ?_, fun read => ?_, LineRec.entered_flag_iff _ _⟩
  · obtain ⟨start, requested⟩ := LineRec.entered_driven _ s.pins.lines[n] driven
    exact ⟨(fixed (by rcases driven with fn | fn <;> rw [fn] <;> nofun)).trans start, requested⟩
  · exact (fixed (by rcases read with fn | fn | fn <;> rw [fn] <;> nofun)).trans (LineRec.entered_read _ _ read)

/-- R64, R65: an automatic lane of path p once settings are taken: it has its path's thresholds, and where the path is SPAN it is tuned to
the upstream neighbour's normal or fill bin. -/
theorem Lane.tuned_automatic (c : Settings) {i : Fin 16} {p : Fin 4} (own : i.val / 2 = p.val) (l : Lane) :
    (l.withThresholds c i).tuned c i =
      if c.paths[p].kind = .span then
        { l with
          on := c.paths[p].toneOn, off := c.paths[p].toneOff, state := .starting, limit := false
          bin := some (if i.val % 2 = 0 then normalBin (if p.val % 2 = 0 then c.west else c.east)
            else fillBin (if p.val % 2 = 0 then c.west else c.east)) }
      else { l with on := c.paths[p].toneOn, off := c.paths[p].toneOff } := by
  have automatic : i.val < 8 := by omega
  have place : i.val / 2 % 4 = p.val := by omega
  simp only [Lane.withThresholds, Lane.tuned, automatic, place, Fin.eta, if_true, true_and]

/-- R65: how an automatic lane of path p stands at the entry to RUNNING. -/
theorem lanesReset_tuned (c : Settings) {i : Fin 16} {p : Fin 4} (own : i.val / 2 = p.val) :
    let l := (lanesReset[i].withThresholds c i).tuned c i
    l.on = c.paths[p].toneOn ∧ l.off = c.paths[p].toneOff ∧
      (c.paths[p].kind = .span → l.state = .starting ∧ l.channel.val = p.val ∧
        l.bin = some (if i.val % 2 = 0 then normalBin (if p.val % 2 = 0 then c.west else c.east)
          else fillBin (if p.val % 2 = 0 then c.west else c.east))) ∧
      (c.paths[p].kind ≠ .span → l.state = .parked) := by
  have automatic : i.val < 8 := by omega
  have reset : lanesReset[i] = Lane.reset i := by simp [lanesReset]
  dsimp only
  rw [reset, Lane.tuned_automatic c own]
  by_cases span : c.paths[p].kind = .span
  · rw [if_pos span]
    exact ⟨rfl, rfl, fun _ => ⟨rfl, by simp [Lane.reset, Lane.resetChannel, automatic, own], rfl⟩, fun other => absurd span other⟩
  · rw [if_neg span]
    exact ⟨rfl, rfl, fun isSpan => absurd isSpan span, fun _ => if_pos automatic⟩

/-! ### The blocks of the entry, element by element (R43) -/

theorem State.blocksEntered_lane (s : State) (i : Fin 16) : s.blocksEntered.tcr[i] = s.tcr[i].tuned s.settings i := by
  simp [State.blocksEntered]

theorem State.blocksEntered_verdict (s : State) (p : Fin 4) :
    s.blocksEntered.vde[p].verdict = if s.settings.paths[p].kind = .span then .pending else .notApplicable := by
  simp [State.blocksEntered]

theorem State.blocksEntered_osc (s : State) (p : Fin 4) :
    s.blocksEntered.plg.osc[p] = { Osc.reset with on := s.settings.paths[p].kind != .unused } := by
  simp [State.blocksEntered]

theorem PathKind.bne_unused (k : PathKind) : (k != .unused) = decide (k ≠ .unused) := by cases k <;> rfl

theorem State.blocksEntered_west (s : State) :
    s.blocksEntered.nbv.west = .entered s.settings.west s.settings.staleTime (!s.isUp .west) := by
  simp only [State.blocksEntered]

theorem State.blocksEntered_east (s : State) :
    s.blocksEntered.nbv.east = .entered s.settings.east s.settings.staleTime (!s.isUp .east) := by
  simp only [State.blocksEntered]

/-! ### EntryToRunningStartsBlocks -/

/-- Settles O9: the image ends the load, its settings are taken, and the entry to RUNNING leaves the blocks, STU and the first report. -/
theorem entryToRunningStartsBlocks : Obligations.EntryToRunningStartsBlocks := by
  intro img c s awake loading reading stationed lanes whole good read sound
  have taken := exec_imageReadDone awake loading reading whole (judgeImage_adopted good read sound)
  rw [State.loadEnd_stationed _ _ _ _ stationed] at taken
  have awake' := (s.loadSettled_awake .loaded .none c).trans awake
  have settings := s.loadSettled_settings .loaded .none c
  have pins := s.loadSettled_pins .loaded .none c
  have isUp := s.loadSettled_isUp .loaded .none c
  have lane := s.loadSettled_lane .loaded .none c
  rw [lanes] at lane
  generalize s.loadSettled .loaded .none c = v at *
  obtain ⟨stu, q, timer, entered, site, report⟩ := State.enterRunning_entered awake'
  have power := v.siteEntered_allPowerGood
  rw [entered] at taken
  rw [settings, pins] at power
  refine ⟨_, taken, rfl, rfl, rfl, rfl, rfl, rfl, fun p => ?path, ?west, ?east, fun side => ?neighbour, fun n => ?line, fun low => ?dying,
    fun high => ?normal⟩
  case path =>
    dsimp only
    rw [State.blocksEntered_lane, State.blocksEntered_lane, lane, lane, settings, State.blocksEntered_verdict,
      State.blocksEntered_osc, settings]
    obtain ⟨on, off, span, other⟩ := lanesReset_tuned c (i := normalLane p) (p := p) (by simp only [normalLane]; omega)
    obtain ⟨on', off', span', other'⟩ := lanesReset_tuned c (i := fillLane p) (p := p) (by simp only [fillLane]; omega)
    rw [if_pos (by simp only [normalLane]; omega)] at span
    rw [if_neg (by simp only [fillLane]; omega)] at span'
    refine ⟨fun isSpan => ?_, fun notSpan => ?_, on, off, on', off', PathKind.bne_unused _, rfl, rfl⟩
    · obtain ⟨state, channel, bin⟩ := span isSpan
      obtain ⟨state', channel', bin'⟩ := span' isSpan
      exact ⟨state, state', channel, channel', bin, bin', if_pos isSpan⟩
    · exact ⟨other notSpan, other' notSpan, if_neg notSpan⟩
  case west =>
    dsimp only
    rw [State.blocksEntered_west, settings]
    rfl
  case east =>
    dsimp only
    rw [State.blocksEntered_east, settings]
    rfl
  case neighbour =>
    cases side with
    | west =>
      simp only [State.nb]
      rw [State.blocksEntered_west, settings, isUp]
      exact ⟨rfl, rfl, rfl⟩
    | east =>
      simp only [State.nb]
      rw [State.blocksEntered_east, settings, isUp]
      exact ⟨rfl, rfl, rfl⟩
  case line =>
    have line := site.line_stands n
    rw [settings, pins] at line
    exact line
  case dying =>
    have bad : v.siteEntered.allPowerGood = false := by
      rw [← Bool.not_eq_true, power]
      obtain ⟨n, fn, pin⟩ := low
      exact fun good => Bool.false_ne_true (pin.symm.trans (good n fn))
    have dying : stu.dying = true := by rw [site.dying, bad]; rfl
    obtain ⟨stopped, silent⟩ := report.dying bad
    exact ⟨dying, stopped, by rw [site.total, dying]; rfl, silent⟩
  case normal =>
    have good : v.siteEntered.allPowerGood = true := power.mpr high
    have normal := report.normal good
    rw [isUp, isUp, settings] at normal
    exact ⟨by rw [site.dying, good]; rfl, normal⟩

end Sys2Proof.Machine
end

section
/-! SUPPORT. The sampler (Chapter 4): where a block start, a tap and the shared slot act, what a slow conversion does to SMP, and what the
shared slot and the probe queue do with a PROBE. It settles O30, O48 and O22. -/

namespace Sys2Proof.Machine
open Sys2Proof

/-! ### The order of the slots (R49, R51) -/

/-- R49: a slot converts in RUNNING, while SMP scans and a block is in progress, where the cycle has come to it. -/
theorem State.atSlot_iff (s : State) (k : Fin 9) :
    s.atSlot k = true ↔ s.running = true ∧ s.smp.scanning = true ∧ s.smp.block = .inProgress ∧ s.smp.slot = k := by
  simp [State.atSlot, and_assoc]

theorem State.atSlot_elsewhere {s : State} {k : Fin 9} (elsewhere : s.smp.block ≠ .inProgress ∨ s.smp.slot.val ≠ k.val) :
    ¬ s.atSlot k = true := by
  rw [State.atSlot_iff]
  rintro ⟨-, -, block, slot⟩
  exact elsewhere.elim (· block) (· (congrArg Fin.val slot))

/-- R51: a block starts where one is due. -/
theorem State.blockStart_due {s : State} (running : s.running = true) (scanning : s.smp.scanning = true) (due : s.smp.block = .startDue) :
    s.blockStart = { s with
      smp := { s.smp with block := .inProgress, cycle := 0, slot := 0 }
      tcr := each Lane.atBlockStart s.tcr
      pmn := .ofFn fun p => s.pmn[p].atBlockStart (s.monitored p) } :=
  if_pos (by simp [running, scanning, due])

theorem State.blockStart_elsewhere {s : State} (elsewhere : s.smp.block ≠ .startDue) : s.blockStart = s :=
  if_neg (by simp [elsewhere])

theorem State.blockEnd_elsewhere {s : State} (pmnFirst : Bool) (t : Stamp) (elsewhere : s.smp.block ≠ .endDue) :
    s.blockEnd pmnFirst t = s :=
  if_neg (by simp [elsewhere])

/-- R97, R101: a monitored path notes at a block start whether it is in LOSS. -/
theorem PathRec.atBlockStart_kind (r : PathRec) (s : State) (p : Fin 4) :
    r.atBlockStart (s.monitored p) = { r with
      inSum := 0, outSum := 0
      lossAtStart := if s.kind p = .unused then r.lossAtStart else decide (r.input = .loss) } := by
  rw [PathRec.atBlockStart, State.monitored, PathKind.bne_unused]
  simp only [decide_eq_true_eq, ne_eq, ite_not]

/-- Settles O22: each command acts behind the guard of its place, and a block start is one replacement of SMP, TCR and PMN. -/
theorem blockStartStartsLanesAndSlotsComeInOrder : Obligations.BlockStartStartsLanesAndSlotsComeInOrder := by
  refine ⟨fun s running scanning due => ?started, fun s elsewhere => ?notDue, fun ch code pmnFirst t s₀ s now => ?order⟩
  case started =>
    refine ⟨_, congrArg Host.Outcome.next (State.blockStart_due running scanning due), fun i => ?_, fun p => ?_, rfl, rfl⟩
    · exact each_get _ _ i
    · rw [← PathRec.atBlockStart_kind]
      simp
  case notDue => exact congrArg Host.Outcome.next (State.blockStart_elsewhere elsewhere)
  case order =>
    subst now
    refine ⟨fun elsewhere => ?_, fun elsewhere => ?_, fun elsewhere => ?_⟩
    · exact congrArg Host.Outcome.next (if_neg (State.atSlot_elsewhere elsewhere))
    · exact congrArg Host.Outcome.next (if_neg (State.atSlot_elsewhere elsewhere))
    · exact congrArg Host.Outcome.next (State.blockEnd_elsewhere pmnFirst t elsewhere)

/-! ### A slow conversion (R53, R54) -/

/-- R53, R54: SMP after a slow conversion with a code: the channel under the pointer takes it, or forms its reading from 32 of them. -/
def Smp.slowConverted (code : Nat) (m : Smp) : Smp :=
  let i := m.slowPtr
  if m.slowCnt[i] < 31 then
    { m with slowPtr := i + 1, slowSum := upd m.slowSum i (· + code), slowCnt := upd m.slowCnt i (· + 1) }
  else
    { m with
      slowPtr := i + 1
      slowSum := upd m.slowSum i fun _ => 0
      slowCnt := upd m.slowCnt i fun _ => 0
      readings := upd m.readings i fun _ => some ((m.slowSum[i] + code) / 32) }

section
variable (m : Smp) (code : Nat)

/-- R53: a slow conversion is about the slow channels alone. -/
theorem Smp.slowConverted_frame :
    let m' := m.slowConverted code
    m' = { m with slowPtr := m'.slowPtr, slowSum := m'.slowSum, slowCnt := m'.slowCnt, readings := m'.readings } := by
  unfold Smp.slowConverted; dsimp only; split <;> rfl

theorem Smp.slowConverted_slowPtr : (m.slowConverted code).slowPtr = m.slowPtr + 1 := by
  unfold Smp.slowConverted; dsimp only; split <;> rfl

theorem Smp.slowConverted_other {i : Fin 10} (other : i ≠ m.slowPtr) :
    (m.slowConverted code).slowSum[i] = m.slowSum[i] ∧ (m.slowConverted code).slowCnt[i] = m.slowCnt[i] ∧
      (m.slowConverted code).readings[i] = m.readings[i] := by
  unfold Smp.slowConverted; dsimp only; split <;> simp only [upd_get, if_neg other.symm, and_self]

/-- R54: before the 32nd conversion the sum and the count rise. -/
theorem Smp.slowConverted_counting (few : m.slowCnt[m.slowPtr] < 31) :
    (m.slowConverted code).slowSum[m.slowPtr] = m.slowSum[m.slowPtr] + code ∧
      (m.slowConverted code).slowCnt[m.slowPtr] = m.slowCnt[m.slowPtr] + 1 ∧
      (m.slowConverted code).readings[m.slowPtr] = m.readings[m.slowPtr] := by
  rw [Smp.slowConverted, if_pos few]
  simp only [upd_get, if_true, and_self]

/-- R54: the 32nd conversion forms the reading, and the sum and the count begin again. -/
theorem Smp.slowConverted_reading (full : m.slowCnt[m.slowPtr] = 31) :
    (m.slowConverted code).slowSum[m.slowPtr] = 0 ∧ (m.slowConverted code).slowCnt[m.slowPtr] = 0 ∧
      (m.slowConverted code).readings[m.slowPtr] = some ((m.slowSum[m.slowPtr] + code) / 32) := by
  rw [Smp.slowConverted, if_neg (by omega)]
  simp only [upd_get, if_true, and_self]

end

/-! ### The blocks that a reading is offered to (R55) -/

/-- R55: what a reading can change: path records, STU, the send queue, the STATE period timer and the count of free values read. -/
def ReadingChange (s u : State) : Prop :=
  ∃ pmn stu snq timer choices, u = { s with pmn := pmn, stu := stu, snq := snq, stateTimer := timer, choices := choices }

theorem ReadingChange.refl (s : State) : ReadingChange s s := ⟨s.pmn, s.stu, s.snq, s.stateTimer, s.choices, rfl⟩

theorem ReadingChange.trans {s u v : State} (h : ReadingChange s u) (h' : ReadingChange u v) : ReadingChange s v := by
  obtain ⟨_, _, _, _, _, rfl⟩ := h
  obtain ⟨pmn, stu, snq, timer, choices, rfl⟩ := h'
  exact ⟨pmn, stu, snq, timer, choices, rfl⟩

theorem ReadingChange.askNotice (s : State) (x : Subject) (prompt : Bool) {pmn : Vector PathRec 4} {stu : Stu} :
    ReadingChange s (State.askNotice x prompt { s with pmn := pmn, stu := stu }) := by
  obtain ⟨q, asked⟩ := State.askNotice_changes { s with pmn := pmn, stu := stu } x prompt
  exact ⟨pmn, stu, q, s.stateTimer, s.choices, asked⟩

theorem ReadingChange.settleStall (s : State) : ReadingChange s s.settleStall := by
  obtain ⟨q, settled⟩ := s.settleStall_changes
  exact ⟨s.pmn, _, q, s.stateTimer, s.choices, settled⟩

theorem ReadingChange.settleAlarms (s : State) : ReadingChange s s.settleAlarms :=
  ⟨s.pmn, _, s.snq, s.stateTimer, s.choices, s.settleAlarms_eq⟩

theorem ReadingChange.judgeBias (s : State) (p : Fin 4) (v : Nat) : ReadingChange s (s.judgeBias p v) := by
  unfold State.judgeBias; dsimp only; split
  · exact .askNotice s _ _
  · exact .refl s

theorem ReadingChange.judgeHot (s : State) (v : Nat) : ReadingChange s (s.judgeHot v) := by
  unfold State.judgeHot; dsimp only; split
  · exact .refl s
  · exact .trans (.askNotice s _ _) (.settleStall _)

theorem ReadingChange.judgeFilter (s : State) (v : Nat) : ReadingChange s (s.judgeFilter v) := by
  unfold State.judgeFilter; dsimp only; split
  · exact .refl s
  · exact .askNotice s _ _

theorem ReadingChange.enterDying (s : State) : ReadingChange s s.enterDying := by
  unfold State.enterDying; split
  · exact .refl s
  · exact ⟨s.pmn, _, _, _, s.choices, rfl⟩

theorem ReadingChange.judgeRevival (s : State) : ReadingChange s s.judgeRevival := by
  unfold State.judgeRevival; split
  · exact ⟨s.pmn, _, _, _, _, rfl⟩
  · exact .refl s

theorem ReadingChange.judgeBattery (s : State) (v : Nat) : ReadingChange s (s.judgeBattery v) := by
  unfold State.judgeBattery; split
  · exact .judgeRevival s
  · split
    · exact .enterDying s
    · exact .refl s

theorem ReadingChange.offerReading (s : State) (i : Fin 10) (v : Nat) : ReadingChange s (s.offerReading i v) := by
  unfold State.offerReading; split
  · exact .judgeBias s _ v
  · split
    · exact .judgeHot s v
    · split
      · exact .judgeBattery s v
      · split
        · exact .judgeFilter s v
        · exact .refl s

/-- R53 to R55: a slow conversion converts in SMP, and a reading that it forms is offered to the block that decides on it. -/
theorem State.slowConversion_changes (s : State) (code : Nat) :
    ReadingChange { s with smp := s.smp.slowConverted code } (s.slowConversion code) := by
  by_cases few : s.smp.slowCnt[s.smp.slowPtr] < 31
  · have notFull : ¬ 32 ≤ s.smp.slowCnt[s.smp.slowPtr] + 1 := by omega
    simp only [State.slowConversion, Smp.slowConverted, few, notFull, upd, decide_false, if_true, if_false, Bool.false_eq_true]
    exact .refl _
  · have full : 32 ≤ s.smp.slowCnt[s.smp.slowPtr] + 1 := by omega
    simp only [State.slowConversion, Smp.slowConverted, few, full, upd, decide_true, if_true, if_false]
    exact .offerReading _ _ _

/-! ### The shared slot (R52, R58) -/

section
variable {s : State} {code : Code} {t : Stamp}

/-- R53: with no probe waiting the shared slot is a slow conversion and the end of its cycle. -/
theorem State.sharedSlot_slow (slot : s.atSlot 8 = true) (idle : s.smp.probes = []) :
    ReadingChange { s with smp := s.smp.cycleDone.slowConverted code.toNat } (s.sharedSlot code t) := by
  have eq : s.sharedSlot code t = State.settleAlarms (State.slowConversion code.toNat { s with smp := s.smp.cycleDone }) := by
    rw [State.sharedSlot, if_pos slot]
    dsimp only [Smp.cycleDone]
    rw [idle]
  rw [eq]
  exact .trans (State.slowConversion_changes { s with smp := s.smp.cycleDone } code.toNat) (.settleAlarms _)

/-- R52: else it completes the oldest probe. -/
theorem State.sharedSlot_probe {probe : Probe} {rest : List Probe} (slot : s.atSlot 8 = true) (queued : s.smp.probes = probe :: rest) :
    s.sharedSlot code t =
      State.complete probe.slot .ok (probeResults probe.channel code.toNat t) { s with smp := { s.smp.cycleDone with probes := rest } } := by
  rw [State.sharedSlot, if_pos slot]
  dsimp only [Smp.cycleDone]
  rw [queued]

end

/-- R49, R51: the cycle that completes in a block leaves SMP at slot 0 of the next, or with the block's end due. -/
theorem Smp.cycleDone_inProgress {m : Smp} (block : m.block = .inProgress) :
    m.cycleDone = { m with
      slot := 0
      cycle := (m.cycle + 1) % 1024
      block := if m.cycle = 1023 then .endDue else .inProgress } := by
  rw [Smp.cycleDone, block]

/-- A slot made READY and freed is a slot freed. -/
theorem freed_upd (slots : Vector Slot 6) (k : Fin 6) (f : Slot → Slot) :
    (.ofFn fun j : Fin 6 => if j ∈ [k] then Slot.reset else (upd slots k f)[j] : Vector Slot 6) =
      slots.set k.val Slot.reset k.isLt := by
  ext j within
  by_cases same : k.val = j
  · simp [← same]
  · have other : ¬ (⟨j, within⟩ : Fin 6) = k := fun h => same (congrArg Fin.val h).symm
    simp [upd, same, other]

/-- R24, R163: with no port UP the answer of a request that completes is discarded and its slot freed, and nothing else changes. -/
theorem State.complete_unsent {s : State} {k : Fin 6} (status : Status) (results : List Byte) (west : s.isUp .west = false)
    (east : s.isUp .east = false) (other : s.rqh.restartPending ≠ some k) :
    s.complete k status results =
      { s with rqh := { s.rqh with slots := s.rqh.slots.set k.val Slot.reset k.isLt } } := by
  have down : ¬ (s.isUp .west || s.isUp .east) = true := by simp [west, east]
  unfold State.complete State.askAnswer
  rw [if_neg (by exact down), State.answersLeft_freed fun j mem => by rw [List.mem_singleton.mp mem]; exact other]
  simp only [Rqh.freed, freed_upd]

/-- Settles O30: with no probe the slow channels' lemmas say what the conversion does, and `ReadingChange` what it leaves; a probe is
completed, and the ports decide whether its answer is sent. -/
theorem sharedSlotConverts : Obligations.SharedSlotConverts := by
  intro code t next s₀ s now running scanning block slot cycle
  have run : exec (.sharedSlot code t) s₀ = .next (s.sharedSlot code t) := by rw [now]; rfl
  have act := (State.atSlot_iff _ _).mpr ⟨running, scanning, block, slot⟩
  rw [← Smp.cycleDone_inProgress block] at cycle
  subst cycle
  refine ⟨fun idle => ?slow, fun ch k rest queued => ⟨fun request up => ?answered, fun west east other => ?discarded⟩⟩
  case slow =>
    obtain ⟨_, _, _, _, _, taken⟩ := State.sharedSlot_slow (code := code) (t := t) act idle
    have pointer := congrArg Fin.val (Smp.slowConverted_slowPtr s.smp.cycleDone code.toNat)
    exact ⟨_, run.trans (congrArg Host.Outcome.next taken), Smp.slowConverted_frame s.smp.cycleDone code.toNat,
      pointer.trans (Fin.val_add _ _), fun _ => Smp.slowConverted_other s.smp.cycleDone code.toNat,
      Smp.slowConverted_counting s.smp.cycleDone code.toNat, Smp.slowConverted_reading s.smp.cycleDone code.toNat,
      rfl, rfl, rfl, rfl, rfl, rfl, rfl, rfl, rfl, rfl, rfl⟩
  case answered =>
    have taken := (State.sharedSlot_probe (code := code) (t := t) act queued).trans (State.complete_eq _ k _ _ (by exact up))
    refine ⟨_, _, run.trans (congrArg Host.Outcome.next taken), rfl, rfl, rfl, rfl, rfl, ?_, ?_, fun j other => ?_, rfl, rfl⟩
    · exact congrArg (fun asked => answerBody .ok asked (probeResults ch code.toNat t)) request
    · exact (upd_get _ _ _ _).trans (if_pos rfl)
    · exact (upd_get _ _ _ _).trans (if_neg other.symm)
  case discarded =>
    have taken := (State.sharedSlot_probe (code := code) (t := t) act queued).trans
      (State.complete_unsent _ _ (by exact west) (by exact east) (by exact other))
    exact run.trans (congrArg Host.Outcome.next taken)

/-! ### PROBE (R56, R161 to R163) -/

/-- A one-byte argument reads back the number that it was made from. -/
theorem byteArg_ofNat {n : Nat} (small : n ≤ 256) (i : Fin n) : byteArg n [BitVec.ofNat 8 i.val] = some i := by
  have value : (BitVec.ofNat 8 i.val).toNat = i.val := by
    rw [BitVec.toNat_ofNat]
    exact Nat.mod_eq_of_lt (Nat.lt_of_lt_of_le i.isLt small)
  simp only [byteArg, value, i.isLt, dite_true, Fin.eta]

theorem exec_probe {rq : RequestHead} {args : List Byte} {t : Stamp} {s₀ s : State} (now : s = s₀.moment t) :
    exec (.probe rq args t) s₀ = .next (s.takeRequest rq (19 :: args) (runProbe args)) :=
  now ▸ exec_request rfl s₀

/-- R163: a request taken in RUNNING that waits stays in its slot. -/
theorem State.takeRequest_waiting {s u : State} {k : Fin 6} {rq : RequestHead} {body : List Byte} {run : Fin 6 → State → State × Reply}
    (running : s.running = true) (slot : s.slotFor k) (ran : run k (s.requestIn k rq body) = (u, .waiting)) :
    s.takeRequest rq body run = u := by
  obtain ⟨stationed, free, lowest, -⟩ := slot
  have phase : s.cfl.phase = .running := by simpa [State.running] using (Bool.and_eq_true_iff.mp running).2
  rw [State.takeRequest_eq (State.awake_of_running running) (by simp [phase]),
    if_neg (by simpa [Option.isSome_iff_ne_none] using stationed), freeSlot_eq free lowest]
  dsimp only
  rw [if_neg (by simp [phase]), ran]

section
variable {s : State} (ch : Fin 18) (k : Fin 6)

/-- R56: a queue of up to three probes takes another at its tail. -/
theorem runProbe_joins (room : s.smp.probes.length < 4) :
    runProbe [BitVec.ofNat 8 ch.val] k s =
      ({ s with smp := { s.smp with probes := s.smp.probes ++ [{ channel := ch, slot := k }] } }, .waiting) := by
  rw [runProbe, byteArg_ofNat (by decide)]
  exact if_pos room

/-- R56: a queue of four refuses another. -/
theorem runProbe_busy (full : 4 ≤ s.smp.probes.length) :
    runProbe [BitVec.ofNat 8 ch.val] k s = (s, .done .busy []) := by
  rw [runProbe, byteArg_ofNat (by decide)]
  exact if_neg (Nat.not_lt.mpr full)

end

/-- Settles O48: the request takes its slot, and the length of the probe queue decides whether it waits there or completes. -/
theorem probeJoinsQueue : Obligations.ProbeJoinsQueue := by
  intro rq ch t k s₀ s now able
  obtain ⟨running, slot⟩ := able
  rw [exec_probe now]
  refine ⟨fun room => congrArg Host.Outcome.next ?_, fun full => congrArg Host.Outcome.next ?_⟩
  · rw [State.takeRequest_waiting running slot (runProbe_joins ch k (by exact room))]
    rfl
  · obtain ⟨stationed, free, lowest, up⟩ := slot
    rw [State.takeRequest_done running stationed free lowest (runProbe_busy ch k (by exact full)), State.complete_requestIn k rq _ _ _ up]
    rfl

end Sys2Proof.Machine
end

section
/-! SUPPORT. What the events of the sampler do to one path: its path record, its pilot oscillator, its verdict record and its PATH notices,
one lemma per operation of TCR, PMN, PLG and VDE. -/

namespace Sys2Proof.Machine
open Sys2Proof

/-! ### A path's records replaced -/

theorem upd_const_self {α : Type} {n : Nat} (v : Vector α n) (i : Fin n) : (upd v i fun _ => v[i]) = v := by simp [upd]

theorem upd_const_upd {α : Type} {n : Nat} (v : Vector α n) (i : Fin n) (a : α) (f : α → α) :
    upd (upd v i fun _ => a) i f = upd v i fun _ => f a := by simp [upd]

theorem askPaths_append (up : Side → Bool) (ps qs : List (Fin 4)) (q : List Entry) :
    askPaths up (ps ++ qs) q = askPaths up qs (askPaths up ps q) := List.foldl_append

/-- The records of path p replaced, and its PATH notice asked for a number of times. -/
def State.withPath (s : State) (p : Fin 4) (r : PathRec) (o : Osc) (v : VerdictRec) (asks : Nat) : State :=
  { s with
    pmn := upd s.pmn p fun _ => r
    plg := { s.plg with osc := upd s.plg.osc p fun _ => o }
    vde := upd s.vde p fun _ => v
    snq := askPaths s.isUp (.replicate asks p) s.snq }

theorem State.withPath_self (s : State) (p : Fin 4) : s.withPath p s.pmn[p] s.plg.osc[p] s.vde[p] 0 = s := by
  simp only [State.withPath, upd_const_self]
  rfl

theorem State.withPath_withPath (s : State) (p : Fin 4) (r r' : PathRec) (o o' : Osc) (v v' : VerdictRec) (n n' : Nat) :
    (s.withPath p r o v n).withPath p r' o' v' n' = s.withPath p r' o' v' (n + n') := by
  simp only [State.withPath, upd_const_upd, List.replicate_add, askPaths_append]
  rfl

/-- From s to u the path record of path p becomes r and its verdict record v; beside them only its oscillator changes, and its PATH notice
is asked for. -/
def PathStep (p : Fin 4) (s u : State) (r : PathRec) (v : VerdictRec) : Prop := ∃ o asks, u = s.withPath p r o v asks

section
variable {p : Fin 4} {s u w : State} {r r' : PathRec} {v v' : VerdictRec}

theorem PathStep.refl (p : Fin 4) (s : State) : PathStep p s s s.pmn[p] s.vde[p] := ⟨_, 0, (s.withPath_self p).symm⟩

theorem PathStep.trans (h : PathStep p s u r v) (h' : PathStep p u w r' v') : PathStep p s w r' v' := by
  obtain ⟨o, n, rfl⟩ := h
  obtain ⟨o', n', rfl⟩ := h'
  exact ⟨o', n + n', s.withPath_withPath ..⟩

theorem PathStep.record (h : PathStep p s u r v) : u.pmn[p] = r := by
  obtain ⟨o, n, rfl⟩ := h
  exact (upd_get ..).trans (if_pos rfl)

theorem PathStep.verdict (h : PathStep p s u r v) : u.vde[p] = v := by
  obtain ⟨o, n, rfl⟩ := h
  exact (upd_get ..).trans (if_pos rfl)

theorem PathStep.settings (h : PathStep p s u r v) : u.settings = s.settings := by
  obtain ⟨o, n, rfl⟩ := h
  rfl

theorem PathStep.kind (h : PathStep p s u r v) (q : Fin 4) : u.kind q = s.kind q := by
  obtain ⟨o, n, rfl⟩ := h
  rfl

theorem PathStep.of_eq (h : PathStep p s u r v) (record : r = r') (verdict : v = v') : PathStep p s u r' v' := record ▸ verdict ▸ h

theorem PathStep.run_eq (h : PathStep p s u r v) (e : w = u) : PathStep p s w r v := e ▸ h

/-- A second operation that leaves the path record. -/
theorem PathStep.thenVerdict (h : PathStep p s u r v) (h' : PathStep p u w u.pmn[p] v') : PathStep p s w r v' :=
  h.trans (h.record ▸ h')

/-- A second operation that leaves the verdict record. -/
theorem PathStep.thenRecord (h : PathStep p s u r v) (h' : PathStep p u w r' u.vde[p]) : PathStep p s w r' v :=
  h.trans (h.verdict ▸ h')

/-- A second operation that leaves both. -/
theorem PathStep.thenSame (h : PathStep p s u r v) (h' : PathStep p u w u.pmn[p] u.vde[p]) : PathStep p s w r v :=
  h.thenVerdict (h.verdict ▸ h')

end

/-! ### Every path's records -/

/-- From s to u path records, oscillators and verdict records change, and PATH notices are asked for. -/
def PathsStep (s u : State) : Prop :=
  ∃ pmn osc vde paths,
    u = { s with pmn := pmn, plg := { s.plg with osc := osc }, vde := vde, snq := askPaths s.isUp paths s.snq }

theorem PathsStep.refl (s : State) : PathsStep s s := ⟨_, _, _, [], rfl⟩

theorem PathsStep.trans {s u w : State} (h : PathsStep s u) (h' : PathsStep u w) : PathsStep s w := by
  obtain ⟨_, _, _, paths, rfl⟩ := h
  obtain ⟨pmn, osc, vde, paths', rfl⟩ := h'
  refine ⟨pmn, osc, vde, paths ++ paths', ?_⟩
  rw [askPaths_append]
  rfl

theorem PathStep.paths {p : Fin 4} {s u : State} {r : PathRec} {v : VerdictRec} (h : PathStep p s u r v) : PathsStep s u := by
  obtain ⟨o, n, rfl⟩ := h
  exact ⟨_, _, _, _, rfl⟩

/-- R128, R137: the verdict record of path p after a loss event with the given stamp. -/
def State.lossJudged (s : State) (p : Fin 4) (loss : Stamp) : VerdictRec :=
  if s.vde[p].verdict.isLight then s.judgeLoss p loss
  else if s.vde[p].verdict = .restoring then s.returnToCause p loss
  else s.vde[p]

/-- R128, R137: a loss event looks at no path record, no oscillator and no send queue, and at no verdict record but its path's. -/
theorem PathsStep.lossJudged {s u : State} (h : PathsStep s u) {p : Fin 4} (same : u.vde[p] = s.vde[p]) (loss : Stamp) :
    u.lossJudged p loss = s.lossJudged p loss := by
  obtain ⟨_, _, _, _, rfl⟩ := h
  simp only [State.lossJudged, State.judgeLoss, State.returnToCause, same]
  rfl

/-- From s to u only the records of other paths than p change. -/
def BesidePath (p : Fin 4) (s u : State) : Prop := PathsStep s u ∧ u.pmn[p] = s.pmn[p] ∧ u.vde[p] = s.vde[p]

theorem PathStep.beside {p q : Fin 4} {s u : State} {r : PathRec} {v : VerdictRec} (h : PathStep q s u r v) (other : q ≠ p) :
    BesidePath p s u := by
  refine ⟨h.paths, ?_⟩
  obtain ⟨o, n, rfl⟩ := h
  exact ⟨(upd_get ..).trans (if_neg other), (upd_get ..).trans (if_neg other)⟩

section
variable {f : State → Fin 4 → State} (step : ∀ s q, ∃ r v, PathStep q s (f s q) r v)
include step

theorem foldl_paths (l : List (Fin 4)) (s : State) : PathsStep s (l.foldl f s) := by
  refine foldl_keeps (PathsStep s) f (fun u q h => ?_) l s (.refl s)
  obtain ⟨_, _, change⟩ := step u q
  exact h.trans change.paths

theorem foldl_beside {p : Fin 4} {l : List (Fin 4)} (others : p ∉ l) (s : State) : BesidePath p s (l.foldl f s) := by
  induction l generalizing s with
  | nil => exact ⟨.refl s, rfl, rfl⟩
  | cons q l ih =>
    obtain ⟨other, others⟩ := not_or.mp (mt List.mem_cons.mpr others)
    obtain ⟨_, _, change⟩ := step s q
    obtain ⟨paths, record, verdict⟩ := change.beside (Ne.symm other)
    obtain ⟨paths', record', verdict'⟩ := ih others (f s q)
    exact ⟨paths.trans paths', record'.trans record, verdict'.trans verdict⟩

/-- An operation run on the four paths in turn acts on path p once, beside the other paths. -/
theorem foldl_path (p : Fin 4) (s : State) :
    ∃ w, BesidePath p s w ∧ BesidePath p (f w p) ((List.finRange 4).foldl f s) := by
  obtain ⟨pre, post, split⟩ := List.append_of_mem (List.mem_finRange p)
  have nodup := List.nodup_finRange 4
  rw [split, List.nodup_middle, List.nodup_cons, List.mem_append, not_or] at nodup
  obtain ⟨⟨before, after⟩, -⟩ := nodup
  rw [split, List.foldl_append, List.foldl_cons]
  exact ⟨_, foldl_beside step before s, foldl_beside step after _⟩

end

/-! ### The operations -/

section
variable (s : State) (p : Fin 4)

theorem PathStep.setPmn (f : PathRec → PathRec) : PathStep p s { s with pmn := upd s.pmn p f } (f s.pmn[p]) s.vde[p] := by
  refine ⟨s.plg.osc[p], 0, ?_⟩
  simp only [State.withPath, upd_const_self]
  rfl

theorem PathStep.setVde (v : VerdictRec) : PathStep p s { s with vde := s.vde.set p.val v p.isLt } s.pmn[p] v := by
  refine ⟨s.plg.osc[p], 0, ?_⟩
  simp only [State.withPath, upd_const_self]
  rfl

theorem PathStep.askNotice : PathStep p s (s.askNotice (.path p) false) s.pmn[p] s.vde[p] := by
  unfold State.askNotice; split
  · refine ⟨s.plg.osc[p], 1, ?_⟩
    simp only [State.withPath, upd_const_self]
    rfl
  · exact .refl p s

/-- R140: a verdict record replaced. -/
theorem PathStep.setVerdict (v : VerdictRec) : PathStep p s (s.setVerdict p v) s.pmn[p] v := by
  unfold State.setVerdict; dsimp only; split
  · exact .setVde s p v
  · exact (PathStep.setVde s p v).thenSame (.askNotice _ p)

/-- R86, R88: an oscillator replaced. -/
theorem PathStep.setOsc (o : Osc) : PathStep p s (s.setOsc p o) s.pmn[p] s.vde[p] := by
  have set : PathStep p s { s with plg := { s.plg with osc := s.plg.osc.set p.val o p.isLt } } s.pmn[p] s.vde[p] := by
    refine ⟨o, 0, ?_⟩
    simp only [State.withPath, upd_const_self]
    rfl
  unfold State.setOsc; dsimp only; split
  · exact set
  · exact set.thenSame (.askNotice _ p)

theorem PathStep.lossInput (b : Bool) : PathStep p s (s.lossInput p b) s.pmn[p] s.vde[p] := .setOsc s p _

theorem PathStep.fillInput (b : Bool) : PathStep p s (s.fillInput p b) s.pmn[p] s.vde[p] := .setOsc s p _

/-- R126: a verdict record after a light evaluation, from the presence of the path's two lanes. -/
def VerdictRec.lightJudged (v : VerdictRec) (normal fill : Bool) (confirm : Nat) : VerdictRec :=
  match lightVerdict normal fill v.toneAbsent confirm with
  | some verdict => { v with verdict := verdict, evidence := .none, late := false, cause := none, holdOff := .stopped }
  | none => v

theorem PathStep.lightEvaluation :
    PathStep p s (s.lightEvaluation p) s.pmn[p]
      (s.vde[p].lightJudged s.tcr[normalLane p].present s.tcr[fillLane p].present s.settings.foreignConfirm) := by
  unfold State.lightEvaluation VerdictRec.lightJudged; dsimp only
  cases lightVerdict s.tcr[normalLane p].present s.tcr[fillLane p].present s.vde[p].toneAbsent s.settings.foreignConfirm with
  | some verdict => exact .setVerdict s p _
  | none => exact .refl p s

/-- R125: a verdict record with its tone-absent count after a lane result; in LOSS the count stands. -/
def VerdictRec.counted (v : VerdictRec) (lost : Prop) [Decidable lost] (tone : Bool) : VerdictRec :=
  { v with toneAbsent := if lost then v.toneAbsent else if tone then 0 else satAdd v.toneAbsent 1 }

/-- R126, R136: whether a lane result brings a light evaluation. -/
def VerdictRec.judgesLight (v : VerdictRec) : Bool := v.verdict.isLight || (v.verdict = .restoring && v.holdOff = .stopped)

/-- R125 to R127, R136: a verdict record after a lane result. -/
def VerdictRec.laneJudged (v : VerdictRec) (lost : Prop) [Decidable lost] (normal fill : Bool) (confirm : Nat) : VerdictRec :=
  if v.judgesLight then (v.counted lost (normal || fill)).lightJudged normal fill confirm else v.counted lost (normal || fill)

theorem PathStep.laneResult :
    PathStep p s (s.laneResult p s.tcr[normalLane p].present s.tcr[fillLane p].present) s.pmn[p]
      (s.vde[p].laneJudged (s.pmn[p].input = .loss) s.tcr[normalLane p].present s.tcr[fillLane p].present
        s.settings.foreignConfirm) := by
  have count := PathStep.setVde s p
    (s.vde[p].counted (s.pmn[p].input = .loss) (s.tcr[normalLane p].present || s.tcr[fillLane p].present))
  by_cases judges : s.vde[p].judgesLight = true
  · rw [VerdictRec.laneJudged, if_pos judges]
    have judged := (count.thenVerdict (.lightEvaluation _ p)).of_eq rfl
      (congrArg (VerdictRec.lightJudged · _ _ _) count.verdict)
    exact judged.run_eq (if_pos judges)
  · rw [VerdictRec.laneJudged, if_neg judges]
    exact count.run_eq (if_neg judges)

theorem PathStep.lossEvent (loss : Stamp) : PathStep p s (s.lossEvent p loss) s.pmn[p] (s.lossJudged p loss) := by
  unfold State.lossEvent State.lossJudged
  split
  · exact .setVerdict s p _
  · split
    · exact .setVerdict s p _
    · exact .refl p s

/-- R135: a verdict record after a restore event, with the hold-off in seconds. -/
def VerdictRec.restored (v : VerdictRec) (holdOff : Nat) : VerdictRec :=
  if v.verdict.isLoss then
    { v with verdict := .restoring, cause := some v.verdict, window := .stopped, holdOff := .seconds holdOff }
  else v

theorem PathStep.restoreEvent : PathStep p s (s.restoreEvent p) s.pmn[p] (s.vde[p].restored s.settings.holdOff) := by
  unfold State.restoreEvent VerdictRec.restored; dsimp only
  split
  · exact .setVerdict s p _
  · exact .refl p s

/-- R100, R101: a path that enters LOSS, with its loss event where it is SPAN. -/
theorem PathStep.enterLoss (t : Stamp) :
    PathStep p s (s.enterLoss p t) { s.pmn[p] with input := .loss, lossStamp := some t }
      (if s.kind p = .span then s.lossJudged p t else s.vde[p]) := by
  have lost := ((PathStep.setPmn s p fun r => { r with input := .loss, lossStamp := some t }).thenSame (.askNotice _ p)).thenSame
    (.lossInput _ p true)
  unfold State.enterLoss; dsimp only
  rw [lost.kind]
  split
  · exact (lost.thenVerdict (.lossEvent _ p t)).of_eq rfl (lost.paths.lossJudged lost.verdict t)
  · exact lost

/-- R99: the loss run of a monitored path after a sample. -/
def PathRec.runAfter (r : PathRec) (c : PathSettings) (code : Nat) : Nat := if code < c.loss then satAdd r.lossRun 1 else 0

/-- R99, R100: the loss comparator sets the loss run of a monitored path, and may bring it into LOSS; no other field of its record
changes. -/
theorem PathStep.compareLoss (code : Nat) (t : Stamp) (monitored : s.monitored p = true) :
    ∃ input stamp v, PathStep p s (s.compareLoss p code t)
      { s.pmn[p] with lossRun := s.pmn[p].runAfter s.settings.paths[p] code, input := input, lossStamp := stamp } v := by
  unfold State.compareLoss PathRec.runAfter; dsimp only
  rw [if_pos monitored]
  generalize (if code < s.settings.paths[p].loss then satAdd s.pmn[p].lossRun 1 else 0) = run
  have counted := PathStep.setPmn s p fun r => { r with lossRun := run }
  split
  · exact ⟨_, _, _, (counted.trans (.enterLoss _ p t)).of_eq (by rw [counted.record]) rfl⟩
  · exact ⟨s.pmn[p].input, s.pmn[p].lossStamp, _, counted⟩

theorem State.compareLoss_unmonitored (code : Nat) (t : Stamp) (unused : s.monitored p = false) : s.compareLoss p code t = s :=
  if_neg (by simp [unused])

/-- R101 to R103: the input state of a monitored path after a block end with input mean m. -/
def PathRec.inputAfter (r : PathRec) (c : PathSettings) (m : Nat) : InputState :=
  match r.input with
  | .loss => if restores c r.lossAtStart r.lossRun m then lightState c m else .loss
  | .unknown => firstState c m
  | st => heldState c st m

/-- R101, R103: the verdict record of a SPAN path after PMN's judgement of its input mean m with block-end stamp t: a loss event where its
first judgement is LOSS, a restore event where it leaves LOSS. -/
def State.inputVerdict (s : State) (p : Fin 4) (m : Nat) (t : Stamp) : VerdictRec :=
  match s.pmn[p].input with
  | .loss =>
    if restores s.settings.paths[p] s.pmn[p].lossAtStart s.pmn[p].lossRun m then s.vde[p].restored s.settings.holdOff else s.vde[p]
  | .unknown => if firstState s.settings.paths[p] m = .loss then s.lossJudged p t else s.vde[p]
  | _ => s.vde[p]

theorem PathStep.judgeInput (m : Nat) (t : Stamp) :
    ∃ stamp, PathStep p s (s.judgeInput p m t)
      { s.pmn[p] with input := s.pmn[p].inputAfter s.settings.paths[p] m, lossStamp := stamp }
      (if s.kind p = .span then s.inputVerdict p m t else s.vde[p]) := by
  have taken (st : InputState) := (PathStep.setPmn s p fun r => { r with input := st }).thenSame (.askNotice _ p)
  have stands : PathStep p s s { s.pmn[p] with input := s.pmn[p].input } s.vde[p] := .refl p s
  have held {st : InputState} (before : s.pmn[p].input = st) :
      PathStep p s
        (if heldState s.settings.paths[p] st m = st then s
        else State.askNotice (.path p) false { s with pmn := upd s.pmn p fun r => { r with input := heldState s.settings.paths[p] st m } })
        { s.pmn[p] with input := heldState s.settings.paths[p] st m } (if s.kind p = .span then s.vde[p] else s.vde[p]) := by
    rw [ite_self]
    split
    next same => exact stands.of_eq (by rw [same, before]) rfl
    next => exact taken _
  unfold State.judgeInput State.inputVerdict PathRec.inputAfter; dsimp only
  cases before : s.pmn[p].input with
  | loss =>
    refine ⟨s.pmn[p].lossStamp, ?_⟩
    dsimp only
    split
    next restored =>
      have light := (taken (lightState s.settings.paths[p] m)).thenSame (.lossInput _ p false)
      rw [light.kind]
      split
      · refine (light.thenVerdict (.restoreEvent _ p)).of_eq rfl ?_
        rw [light.verdict, light.settings]
      · exact light
    next => exact stands.of_eq (by rw [before]) (ite_self _).symm
  | unknown =>
    dsimp only
    split
    next lost => exact ⟨some t, (PathStep.enterLoss s p t).of_eq (by rw [lost]) rfl⟩
    next => exact ⟨s.pmn[p].lossStamp, (taken _).of_eq rfl (ite_self _).symm⟩
  | ok => exact ⟨_, held before⟩
  | low => exact ⟨_, held before⟩
  | high => exact ⟨_, held before⟩

/-- R104: a monitored path judges output-low from its output mean. -/
theorem PathStep.judgeOutput (n : Nat) :
    PathStep p s (s.judgeOutput p n)
      { s.pmn[p] with outputLow := outputLowAfter s.settings.paths[p] s.pmn[p].outputLow n } s.vde[p] := by
  unfold State.judgeOutput; dsimp only
  split
  next same => exact (PathStep.refl p s).of_eq (by rw [same]) rfl
  next => exact (PathStep.setPmn s p _).thenSame (.askNotice _ p)

/-- R98, R101 to R104: the path record of a monitored path after a block end, but for its loss stamp. -/
def PathRec.ended (r : PathRec) (c : PathSettings) (stamp : Option Stamp) : PathRec :=
  { r.meansFormed with
    input := r.inputAfter c (r.inSum / 1024), lossStamp := stamp, outputLow := outputLowAfter c r.outputLow (r.outSum / 1024) }

theorem PathStep.pmnPathEnd (t : Stamp) (monitored : s.monitored p = true) :
    ∃ stamp, PathStep p s (s.pmnPathEnd t p) (s.pmn[p].ended s.settings.paths[p] stamp)
      (if s.kind p = .span then s.inputVerdict p (s.pmn[p].inSum / 1024) t else s.vde[p]) := by
  have formed := PathStep.setPmn s p PathRec.meansFormed
  obtain ⟨stamp, judged⟩ := PathStep.judgeInput { s with pmn := upd s.pmn p PathRec.meansFormed } p (s.pmn[p].inSum / 1024) t
  have both := (formed.trans judged).thenRecord (.judgeOutput _ p (s.pmn[p].outSum / 1024))
  refine ⟨stamp, (both.of_eq ?_ ?_).run_eq (if_pos monitored)⟩
  · rw [(formed.trans judged).record, (formed.trans judged).settings, formed.record]
    rfl
  · simp only [State.inputVerdict, formed.record, formed.verdict, formed.paths.lossJudged formed.verdict]
    rfl

/-- R98: of a path that is not monitored a block end forms the means alone. -/
theorem PathStep.pmnPathEnd_unmonitored (t : Stamp) (unused : s.monitored p = false) :
    PathStep p s (s.pmnPathEnd t p) s.pmn[p].meansFormed s.vde[p] :=
  (PathStep.setPmn s p PathRec.meansFormed).run_eq (if_neg (by exact ne_true_of_eq_false unused))

/-- R80: what TCR hands PLG and VDE of a SPAN path whose normal lane runs. -/
theorem PathStep.handLaneResult (before : Vector Lane 16) :
    PathStep p s (s.handLaneResult before p) s.pmn[p]
      (if s.kind p = .span ∧ s.tcr[normalLane p].state = .running then
        s.vde[p].laneJudged (s.pmn[p].input = .loss) s.tcr[normalLane p].present s.tcr[fillLane p].present s.settings.foreignConfirm
      else s.vde[p]) := by
  have handed {u : State} (h : PathStep p s u s.pmn[p] s.vde[p]) :
      PathStep p s (u.laneResult p u.tcr[normalLane p].present s.tcr[fillLane p].present) s.pmn[p]
        (s.vde[p].laneJudged (s.pmn[p].input = .loss) s.tcr[normalLane p].present s.tcr[fillLane p].present
          s.settings.foreignConfirm) := by
    have tcr : u.tcr = s.tcr := by
      obtain ⟨o, n, rfl⟩ := h
      rfl
    rw [← tcr]
    refine (h.thenVerdict (.laneResult _ p)).of_eq rfl ?_
    simp only [h.record, h.verdict, h.settings]
  unfold State.handLaneResult; dsimp only
  split
  · split
    · exact handed (.refl p s)
    · exact handed (.fillInput s p _)
  · exact .refl p s

end

/-! ### PMN and TCR at a block end -/

theorem PathStep.exists_pmnPathEnd (t : Stamp) (s : State) (p : Fin 4) : ∃ r v, PathStep p s (s.pmnPathEnd t p) r v := by
  cases monitored : s.monitored p with
  | false => exact ⟨_, _, .pmnPathEnd_unmonitored s p t monitored⟩
  | true =>
    obtain ⟨_, step⟩ := PathStep.pmnPathEnd s p t monitored
    exact ⟨_, _, step⟩

/-- R98, R101 to R104: what PMN's block end leaves of path p. -/
theorem State.pmnBlockEnd_path (s : State) (t : Stamp) (p : Fin 4) :
    PathsStep s (s.pmnBlockEnd t) ∧
      (s.monitored p = true →
        ∃ stamp, (s.pmnBlockEnd t).pmn[p] = s.pmn[p].ended s.settings.paths[p] stamp ∧
          (s.pmnBlockEnd t).vde[p] = if s.kind p = .span then s.inputVerdict p (s.pmn[p].inSum / 1024) t else s.vde[p]) ∧
      (s.monitored p = false → (s.pmnBlockEnd t).pmn[p] = s.pmn[p].meansFormed ∧ (s.pmnBlockEnd t).vde[p] = s.vde[p]) := by
  have step (s : State) (q : Fin 4) := PathStep.exists_pmnPathEnd t s q
  obtain ⟨w, ⟨before, record, verdict⟩, ⟨after, record', verdict'⟩⟩ := foldl_path step p s
  have kind : w.kind p = s.kind p ∧ w.settings = s.settings := by
    obtain ⟨_, _, _, _, rfl⟩ := before
    exact ⟨rfl, rfl⟩
  refine ⟨foldl_paths step _ s, fun monitored => ?_, fun unused => ?_⟩
  · obtain ⟨stamp, ended⟩ := PathStep.pmnPathEnd w p t (by simpa only [State.monitored, kind] using monitored)
    refine ⟨stamp, record'.trans (ended.record.trans ?_), verdict'.trans (ended.verdict.trans ?_)⟩
    · rw [record, kind.2]
    · simp only [State.inputVerdict, record, verdict, kind, before.lossJudged verdict]
  · have formed := PathStep.pmnPathEnd_unmonitored w p t (by simpa only [State.monitored, kind] using unused)
    exact ⟨record'.trans (formed.record.trans (congrArg _ record)), verdict'.trans (formed.verdict.trans verdict)⟩

/-- R77 to R79, R81: TCR's lanes evaluated, with the TONE notice where it is due. -/
def State.lanesEvaluated (s : State) : State :=
  let u := { s with tcr := evaluateLanes s.tcr }
  if toneChanged s.tcr u.tcr then u.askNotice .tone false else u

theorem State.lanesEvaluated_eq (s : State) :
    ∃ q, s.lanesEvaluated = { s with tcr := evaluateLanes s.tcr, snq := q } ∧
      (s.running = true →
        q = if toneChanged s.tcr (evaluateLanes s.tcr) then snqAsk (.notice .tone) false (s.isUp .west) (s.isUp .east) s.snq
          else s.snq) := by
  unfold State.lanesEvaluated; dsimp only
  split
  · obtain ⟨q, asked⟩ := State.askNotice_changes { s with tcr := evaluateLanes s.tcr } .tone false
    refine ⟨q, asked, fun running => ?_⟩
    rw [State.askNotice_eq _ _ _ (by exact running)] at asked
    exact (congrArg State.snq asked).symm
  · exact ⟨s.snq, rfl, fun _ => rfl⟩

theorem State.tcrBlockEnd_eq (s : State) :
    s.tcrBlockEnd = (List.finRange 4).foldl (fun u p => u.handLaneResult s.tcr p) s.lanesEvaluated := rfl

/-- R77 to R81: what TCR's block end leaves of path p. -/
theorem State.tcrBlockEnd_path (s : State) (p : Fin 4) :
    PathsStep s.lanesEvaluated s.tcrBlockEnd ∧ s.tcrBlockEnd.pmn[p] = s.pmn[p] ∧
      s.tcrBlockEnd.vde[p] =
        if s.kind p = .span ∧ (evaluateLanes s.tcr)[normalLane p].state = .running then
          s.vde[p].laneJudged (s.pmn[p].input = .loss) (evaluateLanes s.tcr)[normalLane p].present
            (evaluateLanes s.tcr)[fillLane p].present s.settings.foreignConfirm
        else s.vde[p] := by
  have step (u : State) (q : Fin 4) : ∃ r v, PathStep q u (u.handLaneResult s.tcr q) r v := ⟨_, _, .handLaneResult u q s.tcr⟩
  obtain ⟨w, ⟨before, record, verdict⟩, ⟨after, record', verdict'⟩⟩ := foldl_path step p s.lanesEvaluated
  obtain ⟨q, evaluated, -⟩ := s.lanesEvaluated_eq
  have handed := PathStep.handLaneResult w p s.tcr
  rw [evaluated] at before record verdict
  refine ⟨foldl_paths step _ _, record'.trans (handed.record.trans record), verdict'.trans (handed.verdict.trans ?_)⟩
  rw [record, verdict]
  obtain ⟨_, _, _, _, rfl⟩ := before
  rfl

end Sys2Proof.Machine
end

section
/-! SUPPORT. The lane table and its watches (Chapter 5): what makes one lane's record sound, and what tuning, renewing and freeing a watch
leave of the table. -/

namespace Sys2Proof.Machine
open Sys2Proof

/-! ### One lane's record -/

/-- R63, R65: what holds of the record of an automatic lane i. -/
def Lane.automaticSound (l : Lane) (i : Fin 16) : Prop :=
  l.owner = .path ∧ l.channel.val = i.val / 2 ∧ l.state ≠ .free ∧ l.partner = none ∧ l.combine = none ∧ l.remaining = none

/-- R63: what holds of the record of a FREE pool lane. -/
def Lane.freeSound (l : Lane) : Prop :=
  l.owner = .absent ∧ l.bin = none ∧ l.partner = none ∧ l.combine = none ∧ l.remaining = none ∧ l.present = false ∧
    l.lastPower = none ∧ l.limit = false

/-- R70: a remaining time of 1 to 3600 seconds. -/
def WatchTime.inRange (w : WatchTime) : Prop := 1 ≤ w.secs ∧ w.secs ≤ 3600 ∧ w.tick < 1000

/-- R67, R70: what holds of the record of a pool lane that is lent. -/
def Lane.lentSound (l : Lane) : Prop :=
  (∃ n, l.owner = .station n) ∧ (∃ b, l.bin = some b ∧ 1 ≤ b ∧ b ≤ 511) ∧ ∃ w, l.remaining = some w ∧ w.inRange

/-- R62, R63, R65, R70: what holds of the record of lane i by itself. -/
def Lane.sound (l : Lane) (i : Fin 16) : Prop :=
  (i.val < 8 → l.automaticSound i) ∧
  (8 ≤ i.val → l.state ≠ .parked ∧ (l.state = .free → l.freeSound) ∧ (l.state ≠ .free → l.lentSound)) ∧
  (l.partner = none ↔ l.combine = none)

/-- R68: what a lane i and the lane m at j have in common as the two lanes of a pair. -/
def Lane.pairedWith (l m : Lane) (i j : Fin 16) : Prop :=
  j.val / 2 = i.val / 2 ∧ j ≠ i ∧ m.partner = some i ∧ m.state = l.state ∧ m.owner = l.owner ∧ m.channel = l.channel ∧
    m.combine = l.combine ∧ m.remaining = l.remaining

theorem State.lanesSound_iff (s : State) :
    s.lanesSound ↔ ∀ i : Fin 16, s.tcr[i].sound i ∧ ∀ j : Fin 16, s.tcr[i].partner = some j → s.tcr[i].pairedWith s.tcr[j] i j := by
  unfold State.lanesSound Lane.sound
  simp only [and_assoc]
  rfl

/-- Two records of one lane that differ at most in what the correlator writes while the lane is lent (R74, R77 to R79), and in the
thresholds. -/
structure Lane.SameWatch (l m : Lane) : Prop where
  state     : m.state = l.state
  owner     : m.owner = l.owner
  channel   : m.channel = l.channel
  bin       : m.bin = l.bin
  partner   : m.partner = l.partner
  combine   : m.combine = l.combine
  remaining : m.remaining = l.remaining
  free      : l.state = .free → m.present = l.present ∧ m.lastPower = l.lastPower ∧ m.limit = l.limit

theorem Lane.SameWatch.refl (l : Lane) : l.SameWatch l := ⟨rfl, rfl, rfl, rfl, rfl, rfl, rfl, fun _ => ⟨rfl, rfl, rfl⟩⟩

theorem Lane.SameWatch.sound {l m : Lane} {i : Fin 16} (h : l.SameWatch m) (sound : l.sound i) : m.sound i := by
  obtain ⟨state, owner, channel, bin, partner, combine, remaining, free⟩ := h
  obtain ⟨automatic, pool, both⟩ := sound
  refine ⟨fun low => ?_, fun high => ?_, ?_⟩
  · simpa only [Lane.automaticSound, state, owner, channel, partner, combine, remaining] using automatic low
  · obtain ⟨parked, freed, lent⟩ := pool high
    refine ⟨state ▸ parked, fun isFree => ?_, fun isLent => ?_⟩
    · rw [state] at isFree
      obtain ⟨present, lastPower, limit⟩ := free isFree
      simpa only [Lane.freeSound, owner, bin, partner, combine, remaining, present, lastPower, limit] using freed isFree
    · simpa only [Lane.lentSound, owner, bin, remaining] using lent (state ▸ isLent)
  · rw [partner, combine]
    exact both

/-- Records that keep their watches keep the table sound. -/
theorem State.lanesSound_of_sameWatch {s u : State} (same : ∀ i : Fin 16, s.tcr[i].SameWatch u.tcr[i]) (h : s.lanesSound) :
    u.lanesSound := by
  rw [State.lanesSound_iff] at h ⊢
  refine fun i => ⟨(same i).sound (h i).1, fun j mate => ?_⟩
  rw [(same i).partner] at mate
  have pair := (h i).2 j mate
  simpa only [Lane.pairedWith, (same i).state, (same j).state, (same i).owner, (same j).owner, (same i).channel, (same j).channel,
    (same i).combine, (same j).combine, (same i).remaining, (same j).remaining, (same j).partner] using pair

/-! ### Ticks and block boundaries (R70, R73, R77 to R79) -/

theorem Lane.ticks_sound {l : Lane} {i : Fin 16} (n : Nat) (h : l.sound i) : (l.ticks n).sound i := by
  obtain ⟨automatic, pool, both⟩ := h
  refine ⟨fun low => ?_, fun high => ?_, both⟩
  · obtain ⟨owner, channel, lent, partner, combine, remaining⟩ := automatic low
    exact ⟨owner, channel, lent, partner, combine, by simp [Lane.ticks, remaining]⟩
  · obtain ⟨parked, freed, lent⟩ := pool high
    refine ⟨parked, fun isFree => ?_, fun isLent => ?_⟩
    · obtain ⟨owner, bin, partner, combine, remaining, rest⟩ := freed isFree
      exact ⟨owner, bin, partner, combine, by simp [Lane.ticks, remaining], rest⟩
    · obtain ⟨owner, bin, w, remaining, range⟩ := lent isLent
      exact ⟨owner, bin, w.ticks n, by simp [Lane.ticks, remaining], w.ticks_bounds n range⟩

/-- R70: ticks keep the table sound. -/
theorem State.lanesSound_ticks {s u : State} (n : Nat) (lanes : u.tcr = each (Lane.ticks n) s.tcr) (h : s.lanesSound) :
    u.lanesSound := by
  rw [State.lanesSound_iff] at h ⊢
  intro i
  rw [lanes]
  simp only [each_get]
  refine ⟨Lane.ticks_sound n (h i).1, fun j mate => ?_⟩
  obtain ⟨position, other, partner, state, owner, channel, combine, remaining⟩ := (h i).2 j mate
  exact ⟨position, other, partner, state, owner, channel, combine, congrArg (Option.map _) remaining⟩

theorem Lane.atBlockStart_eq (l : Lane) :
    l.atBlockStart = { l with
      state := if l.state = .starting then .running else l.state
      phase := if l.state = .starting then 0 else l.phase
      x := if l.state = .starting then 0 else l.x
      y := if l.state = .starting then 0 else l.y } := by
  unfold Lane.atBlockStart
  split <;> rfl

theorem Lane.atBlockStart_state (l : Lane) {st : LaneState} (other : st ≠ .starting) (other' : st ≠ .running) :
    l.atBlockStart.state = st ↔ l.state = st := by
  rw [Lane.atBlockStart_eq]
  split
  next starting => simp [starting, other.symm, other'.symm]
  next => exact Iff.rfl

theorem Lane.atBlockStart_sound {l : Lane} {i : Fin 16} (h : l.sound i) : l.atBlockStart.sound i := by
  have free := l.atBlockStart_state (st := .free) (by decide) (by decide)
  have parked := l.atBlockStart_state (st := .parked) (by decide) (by decide)
  obtain ⟨automatic, pool, both⟩ := h
  simp only [Lane.sound, Lane.automaticSound, Lane.freeSound, Lane.lentSound, ne_eq, free, parked]
  rw [Lane.atBlockStart_eq]
  exact ⟨automatic, pool, both⟩

/-- R73: a block start keeps the table sound: the two lanes of a pair start together. -/
theorem State.lanesSound_blockStart {s u : State} (lanes : u.tcr = each Lane.atBlockStart s.tcr) (h : s.lanesSound) : u.lanesSound := by
  rw [State.lanesSound_iff] at h ⊢
  intro i
  rw [lanes]
  simp only [each_get]
  refine ⟨Lane.atBlockStart_sound (h i).1, fun j mate => ?_⟩
  simp only [Lane.atBlockStart_eq] at mate ⊢
  obtain ⟨position, other, partner, state, rest⟩ := (h i).2 j mate
  exact ⟨position, other, partner, by simp only [state], rest⟩

theorem Lane.accumulate_sameWatch (ch : Fin 8) (code : Nat) (l : Lane) : l.SameWatch (l.accumulate ch code) := by
  unfold Lane.accumulate
  split
  · exact ⟨rfl, rfl, rfl, rfl, rfl, rfl, rfl, fun _ => ⟨rfl, rfl, rfl⟩⟩
  · exact .refl l

theorem Lane.evaluate_sameWatch (l : Lane) : l.SameWatch l.evaluate := by
  unfold Lane.evaluate
  split
  next running => exact ⟨rfl, rfl, rfl, rfl, rfl, rfl, rfl, fun free => by rw [running] at free; cases free⟩
  next => exact .refl l

/-- R79: the combined result is all that the pairs add. -/
theorem combinedAt_eq (lanes : Vector Lane 16) (i : Fin 16) : ∃ c, combinedAt lanes i = { lanes[i] with combined := c } := by
  unfold combinedAt; dsimp only
  split
  · split
    · exact ⟨_, rfl⟩
    · exact ⟨_, rfl⟩
  · exact ⟨_, rfl⟩

/-- R77 to R79: a lane after a block end. -/
theorem evaluateLanes_get (lanes : Vector Lane 16) (i : Fin 16) :
    (evaluateLanes lanes)[i] = combinedAt (each Lane.evaluate lanes) i := by simp [evaluateLanes]

theorem evaluateLanes_eq (lanes : Vector Lane 16) (i : Fin 16) :
    ∃ c, (evaluateLanes lanes)[i] = { lanes[i].evaluate with combined := c } := by
  obtain ⟨c, e⟩ := combinedAt_eq (each Lane.evaluate lanes) i
  exact ⟨c, by rw [evaluateLanes_get, e, each_get]⟩

theorem evaluateLanes_sameWatch (lanes : Vector Lane 16) (i : Fin 16) : lanes[i].SameWatch (evaluateLanes lanes)[i] := by
  obtain ⟨c, e⟩ := evaluateLanes_eq lanes i
  obtain ⟨state, owner, channel, bin, partner, combine, remaining, free⟩ := lanes[i].evaluate_sameWatch
  rw [e]
  exact ⟨state, owner, channel, bin, partner, combine, remaining, free⟩

/-! ### The end of a load and the entry to RUNNING (R64, R65) -/

theorem Lane.withThresholds_sameWatch (c : Settings) (i : Fin 16) (l : Lane) : l.SameWatch (l.withThresholds c i) := by
  unfold Lane.withThresholds
  split
  · exact ⟨rfl, rfl, rfl, rfl, rfl, rfl, rfl, fun _ => ⟨rfl, rfl, rfl⟩⟩
  · exact ⟨rfl, rfl, rfl, rfl, rfl, rfl, rfl, fun _ => ⟨rfl, rfl, rfl⟩⟩

theorem Lane.tuned_pool (c : Settings) {i : Fin 16} (l : Lane) (pool : 8 ≤ i.val) : l.tuned c i = l :=
  if_neg fun automatic => absurd automatic.1 (Nat.not_lt.mpr pool)

theorem Lane.tuned_sound {l : Lane} {i : Fin 16} (c : Settings) (h : l.sound i) : (l.tuned c i).sound i := by
  rcases Nat.lt_or_ge i.val 8 with low | high
  · obtain ⟨automatic, pool, both⟩ := h
    obtain ⟨owner, channel, -, rest⟩ := automatic low
    unfold Lane.tuned; dsimp only
    split
    · exact ⟨fun _ => ⟨owner, channel, by simp, rest⟩, fun high => absurd low (Nat.not_lt.mpr high), both⟩
    · exact ⟨automatic, pool, both⟩
  · rwa [Lane.tuned_pool c l high]

/-- R65: only automatic lanes are tuned at the entry to RUNNING, and none of them is one of a pair. -/
theorem State.lanesSound_tuned {s u : State} (c : Settings) (lanes : ∀ i : Fin 16, u.tcr[i] = s.tcr[i].tuned c i) (h : s.lanesSound) :
    u.lanesSound := by
  rw [State.lanesSound_iff] at h ⊢
  intro i
  rw [lanes i]
  refine ⟨Lane.tuned_sound c (h i).1, fun j mate => ?_⟩
  rcases Nat.lt_or_ge i.val 8 with low | high
  · obtain ⟨-, -, -, alone, -⟩ := (Lane.tuned_sound c (h i).1).1 low
    rw [alone] at mate
    cases mate
  · rw [Lane.tuned_pool c _ high] at mate ⊢
    have pair := (h i).2 j mate
    rwa [lanes j, Lane.tuned_pool c _ (by have := pair.1; omega)]

/-! ### A watch freed (R63, R70, R71) -/

theorem freeWatch_get (lanes : Vector Lane 16) (i j : Fin 16) :
    (.ofFn fun j => if inWatch lanes i j then lanes[j].freed else lanes[j] : Vector Lane 16)[j] =
      if j = i ∨ lanes[i].partner = some j then lanes[j].freed else lanes[j] := by
  simp [inWatch]

theorem Lane.freed_sound (l : Lane) {i : Fin 16} (pool : 8 ≤ i.val) : l.freed.sound i :=
  ⟨fun low => absurd low (Nat.not_lt.mpr pool),
    fun _ => ⟨by simp [Lane.freed], fun _ => ⟨rfl, rfl, rfl, rfl, rfl, rfl, rfl, rfl⟩, fun lent => absurd rfl lent⟩,
    ⟨fun _ => rfl, fun _ => rfl⟩⟩

/-- R71: with both lanes of a pair freed the table is sound: no lane is left that names a FREE one. -/
theorem State.lanesSound_freed {s u : State} {i : Fin 16} (pool : 8 ≤ i.val)
    (lanes : ∀ j : Fin 16, u.tcr[j] = if j = i ∨ s.tcr[i].partner = some j then s.tcr[j].freed else s.tcr[j]) (h : s.lanesSound) :
    u.lanesSound := by
  rw [State.lanesSound_iff] at h ⊢
  intro j
  rw [lanes j]
  split
  next watch =>
    have high : 8 ≤ j.val := by
      rcases watch with rfl | mate
      · exact pool
      · have := ((h i).2 j mate).1
        omega
    exact ⟨Lane.freed_sound _ high, fun k mate => nomatch mate⟩
  next outside =>
    refine ⟨(h j).1, fun k mate => ?_⟩
    obtain ⟨-, -, back, -⟩ := (h j).2 k mate
    rw [lanes k, if_neg]
    · exact (h j).2 k mate
    · rintro (rfl | mate')
      · exact outside (.inr back)
      · obtain ⟨-, -, back', -⟩ := (h i).2 k mate'
        exact outside (.inl (Option.some.inj (back.symm.trans back')))

/-! ### A watch renewed or tuned (R67 to R69) -/

theorem nextLane_val {i : Fin 16} (even : i.val % 2 = 0) : (nextLane i).val = i.val + 1 := by
  have := i.isLt
  simp only [nextLane, Fin.val_add, Fin.coe_ofNat_eq_mod]
  omega

theorem renewed_get (lanes : Vector Lane 16) (i j : Fin 16) (secs : Nat) :
    (renewed lanes i secs)[j] =
      if j = i ∨ lanes[i].partner = some j then { lanes[j] with remaining := some (.ofSecs secs) } else lanes[j] := by
  simp [renewed, inWatch]

theorem poolFree_iff (lanes : Vector Lane 16) (i : Fin 16) : poolFree lanes i = true ↔ 8 ≤ i.val ∧ lanes[i].state = .free := by
  simp [poolFree]

theorem WatchTime.ofSecs_inRange {n : Nat} (low : 1 ≤ n) (high : n ≤ 3600) : (WatchTime.ofSecs n).inRange :=
  ⟨low, high, by simp [WatchTime.ofSecs]⟩

theorem Lane.allocated_sound {i : Fin 16} (pool : 8 ≤ i.val) (requester : Byte) (ch : Fin 8) {bin secs : Nat} (on off : Nat)
    (pair : Option (Fin 16 × Combine)) (lowBin : 1 ≤ bin) (highBin : bin ≤ 511) (low : 1 ≤ secs) (high : secs ≤ 3600) :
    (Lane.allocated requester ch bin on off secs pair).sound i := by
  refine ⟨fun automatic => absurd automatic (Nat.not_lt.mpr pool), fun _ => ⟨by simp [Lane.allocated], fun free => ?_, fun _ => ?_⟩, ?_⟩
  · simp [Lane.allocated] at free
  · exact ⟨⟨_, rfl⟩, ⟨bin, rfl, lowBin, highBin⟩, _, rfl, WatchTime.ofSecs_inRange low high⟩
  · cases pair <;> simp [Lane.allocated]

/-- R69: a renewal keeps the table sound: both lanes of a pair take the new time. -/
theorem State.lanesSound_renewed {s u : State} {i : Fin 16} {secs : Nat} (lent : s.tcr[i].state ≠ .free) (pool : 8 ≤ i.val)
    (low : 1 ≤ secs) (high : secs ≤ 3600) (lanes : u.tcr = renewed s.tcr i secs) (h : s.lanesSound) : u.lanesSound := by
  rw [State.lanesSound_iff] at h ⊢
  have partner (j : Fin 16) : u.tcr[j].partner = s.tcr[j].partner := by
    rw [lanes, renewed_get]
    split <;> rfl
  have watched {j : Fin 16} (watch : j = i ∨ s.tcr[i].partner = some j) : 8 ≤ j.val ∧ s.tcr[j].state ≠ .free := by
    rcases watch with rfl | mate
    · exact ⟨pool, lent⟩
    · obtain ⟨position, -, -, state, -⟩ := (h i).2 j mate
      exact ⟨by omega, state ▸ lent⟩
  have together {j k : Fin 16} (mate : s.tcr[j].partner = some k) :
      (j = i ∨ s.tcr[i].partner = some j) ↔ (k = i ∨ s.tcr[i].partner = some k) := by
    obtain ⟨-, -, back, -⟩ := (h j).2 k mate
    constructor
    · rintro (rfl | first)
      · exact .inr mate
      · obtain ⟨-, -, own, -⟩ := (h i).2 j first
        exact .inl (Option.some.inj (mate.symm.trans own))
    · rintro (rfl | second)
      · exact .inr back
      · obtain ⟨-, -, own, -⟩ := (h i).2 k second
        exact .inl (Option.some.inj (back.symm.trans own))
  refine fun j => ⟨?_, fun k mate => ?_⟩
  · rw [lanes, renewed_get]
    split
    next watch =>
      obtain ⟨highLane, isLent⟩ := watched watch
      obtain ⟨-, poolSound, both⟩ := (h j).1
      obtain ⟨parked, -, lentSound⟩ := poolSound highLane
      obtain ⟨owner, bin, -⟩ := lentSound isLent
      exact ⟨fun automatic => absurd automatic (Nat.not_lt.mpr highLane),
        fun _ => ⟨parked, fun free => absurd free isLent, fun _ => ⟨owner, bin, _, rfl, WatchTime.ofSecs_inRange low high⟩⟩, both⟩
    next => exact (h j).1
  · rw [partner j] at mate
    have pair := (h j).2 k mate
    have same := together mate
    rw [lanes, renewed_get, renewed_get]
    by_cases watch : j = i ∨ s.tcr[i].partner = some j
    · obtain ⟨position, other, back, state, owner, channel, combine, -⟩ := pair
      rw [if_pos watch, if_pos (same.mp watch)]
      exact ⟨position, other, back, state, owner, channel, combine, rfl⟩
    · rw [if_neg watch, if_neg fun second => watch (same.mpr second)]
      exact pair

/-- No lane names a FREE one as its partner. -/
theorem State.partner_ne_of_free {s : State} (h : s.lanesSound) {i j k : Fin 16} (free : s.tcr[i].state = .free) (pool : 8 ≤ i.val)
    (mate : s.tcr[j].partner = some k) : k ≠ i := by
  rw [State.lanesSound_iff] at h
  rintro rfl
  obtain ⟨-, -, back, -⟩ := (h j).2 k mate
  obtain ⟨-, -, alone, -⟩ := ((h k).1.2.1 pool).2.1 free
  rw [alone] at back
  cases back

/-- R67: a FREE pool lane tuned for a single watch keeps the table sound. -/
theorem State.lanesSound_allocated {s u : State} {i : Fin 16} {l : Lane} (free : s.tcr[i].state = .free) (pool : 8 ≤ i.val)
    (sound : l.sound i) (alone : l.partner = none) (lanes : ∀ j : Fin 16, u.tcr[j] = if i = j then l else s.tcr[j])
    (h : s.lanesSound) : u.lanesSound := by
  have others := @State.partner_ne_of_free s h
  rw [State.lanesSound_iff] at h ⊢
  intro j
  rw [lanes j]
  split
  next same =>
    subst same
    exact ⟨sound, fun k mate => by rw [alone] at mate; cases mate⟩
  next =>
    refine ⟨(h j).1, fun k mate => ?_⟩
    rw [lanes k, if_neg (others free pool mate).symm]
    exact (h j).2 k mate

/-- R68: two FREE pool lanes tuned as a pair keep the table sound. -/
theorem State.lanesSound_allocatedPair {s u : State} {i i' : Fin 16} {l l' : Lane} (free : s.tcr[i].state = .free)
    (free' : s.tcr[i'].state = .free) (pool : 8 ≤ i.val) (pool' : 8 ≤ i'.val) (sound : l.sound i) (sound' : l'.sound i')
    (mate : l.partner = some i') (mate' : l'.partner = some i) (pair : l.pairedWith l' i i') (pair' : l'.pairedWith l i' i)
    (lanes : ∀ j : Fin 16, u.tcr[j] = if i' = j then l' else if i = j then l else s.tcr[j]) (h : s.lanesSound) : u.lanesSound := by
  have others := @State.partner_ne_of_free s h
  have first : u.tcr[i] = l := by rw [lanes i, if_neg pair.2.1, if_pos rfl]
  have second : u.tcr[i'] = l' := by rw [lanes i', if_pos rfl]
  rw [State.lanesSound_iff] at h ⊢
  intro j
  by_cases same' : i' = j
  · subst same'
    rw [second]
    refine ⟨sound', fun k named => ?_⟩
    obtain rfl := Option.some.inj (mate'.symm.trans named)
    exact first ▸ pair'
  · by_cases same : i = j
    · subst same
      rw [first]
      refine ⟨sound, fun k named => ?_⟩
      obtain rfl := Option.some.inj (mate.symm.trans named)
      exact second ▸ pair
    · rw [lanes j, if_neg same', if_neg same]
      refine ⟨(h j).1, fun k named => ?_⟩
      rw [lanes k, if_neg (others free' pool' named).symm, if_neg (others free pool named).symm]
      exact (h j).2 k named

/-! ### A TONE_WATCH (R66 to R69) -/

/-- R66: what the arguments of an accepted TONE_WATCH are. -/
theorem watchArgs_bounds {args : List Byte} {a : WatchArgs} (h : watchArgs args = some a) :
    1 ≤ a.bin ∧ a.bin ≤ 511 ∧ 1 ≤ a.secs ∧ a.secs ≤ 3600 ∧ ∀ bin2 mode, a.second = some (bin2, mode) → 1 ≤ bin2 ∧ bin2 ≤ 511 := by
  have common {c : Byte} {bin secs : Nat} {ch : Fin 8} (h : watchCommon c bin secs = some ch) :
      1 ≤ bin ∧ bin ≤ 511 ∧ 1 ≤ secs ∧ secs ≤ 3600 := by
    unfold watchCommon at h
    split at h
    · split at h
      next bounds => exact ⟨bounds.1, bounds.2.1, by omega, bounds.2.2.2⟩
      next => cases h
    · cases h
  unfold watchArgs at h
  split at h
  · obtain ⟨ch, found, rfl⟩ := Option.map_eq_some_iff.mp h
    obtain ⟨lowBin, highBin, low, high⟩ := common found
    exact ⟨lowBin, highBin, low, high, nofun⟩
  · obtain ⟨ch, found, h⟩ := Option.bind_eq_some_iff.mp h
    obtain ⟨mode, -, h⟩ := Option.bind_eq_some_iff.mp h
    obtain ⟨lowBin, highBin, low, high⟩ := common found
    split at h
    next bounds =>
      obtain rfl := Option.some.inj h
      refine ⟨lowBin, highBin, low, high, fun bin2 mode same => ?_⟩
      cases same
      exact ⟨bounds.1, bounds.2.1⟩
    next => cases h
  · cases h

/-- R67 to R69, R81: what TCR does with a TONE_WATCH that passes R66. -/
theorem State.toneWatch_cases (s : State) (requester : Byte) (a : WatchArgs) :
    (∃ i, matchingWatch s.tcr requester a = some i ∧
      s.toneWatch requester a = ({ s with tcr := renewed s.tcr i a.secs }, some i)) ∨
    (matchingWatch s.tcr requester a = none ∧
      ((∃ i, (if a.second.isSome then freePair s.tcr else freeLane s.tcr) = some i ∧
        s.toneWatch requester a =
          (State.askNotice .tone false { s with tcr := allocate s.tcr requester a s.settings.poolOn s.settings.poolOff i }, some i)) ∨
      ((if a.second.isSome then freePair s.tcr else freeLane s.tcr) = none ∧ s.toneWatch requester a = (s, none)))) := by
  unfold State.toneWatch
  cases matchingWatch s.tcr requester a with
  | some i => exact .inl ⟨i, rfl, rfl⟩
  | none =>
    refine .inr ⟨rfl, ?_⟩
    dsimp only
    cases (if a.second.isSome then freePair s.tcr else freeLane s.tcr) with
    | some i => exact .inl ⟨i, rfl, rfl⟩
    | none => exact .inr ⟨rfl, rfl⟩

theorem matchingWatch_lent {lanes : Vector Lane 16} {requester : Byte} {a : WatchArgs} {i : Fin 16}
    (h : matchingWatch lanes requester a = some i) : 8 ≤ i.val ∧ lanes[i].state ≠ .free := by
  have found := List.find?_some h
  simp only [matchesWatch, Bool.and_eq_true, decide_eq_true_eq, bne_iff_ne] at found
  exact ⟨found.1.1.1.1.1, found.1.1.1.1.2⟩

theorem allocate_single {a : WatchArgs} (single : a.second = none) (lanes : Vector Lane 16) (requester : Byte) (on off : Nat)
    (i j : Fin 16) :
    (allocate lanes requester a on off i)[j] =
      if i = j then Lane.allocated requester a.channel a.bin on off a.secs none else lanes[j] := by
  unfold allocate
  rw [single]
  exact upd_get lanes i j fun _ => Lane.allocated requester a.channel a.bin on off a.secs none

theorem allocate_pair {a : WatchArgs} {bin2 : Nat} {mode : Combine} (pair : a.second = some (bin2, mode)) (lanes : Vector Lane 16)
    (requester : Byte) (on off : Nat) (i j : Fin 16) :
    (allocate lanes requester a on off i)[j] =
      if nextLane i = j then Lane.allocated requester a.channel bin2 on off a.secs (some (i, mode))
      else if i = j then Lane.allocated requester a.channel a.bin on off a.secs (some (nextLane i, mode))
      else lanes[j] := by
  unfold allocate
  rw [pair, ← upd_get lanes i j fun _ => Lane.allocated requester a.channel a.bin on off a.secs (some (nextLane i, mode))]
  exact upd_get (upd lanes i fun _ => Lane.allocated requester a.channel a.bin on off a.secs (some (nextLane i, mode))) (nextLane i) j
    fun _ => Lane.allocated requester a.channel bin2 on off a.secs (some (i, mode))

/-- R67, R68: a watch tuned where its lane or its pair position is FREE keeps the table sound. -/
theorem State.lanesSound_allocate {s u : State} {requester : Byte} {args : List Byte} {a : WatchArgs} {on off : Nat} {i : Fin 16}
    (accepted : watchArgs args = some a) (found : (if a.second.isSome then freePair s.tcr else freeLane s.tcr) = some i)
    (lanes : u.tcr = allocate s.tcr requester a on off i) (h : s.lanesSound) : u.lanesSound := by
  obtain ⟨lowBin, highBin, low, high, second⟩ := watchArgs_bounds accepted
  cases pair : a.second with
  | none =>
    rw [pair] at found
    obtain ⟨pool, free⟩ := (poolFree_iff _ _).mp (List.find?_some found)
    refine State.lanesSound_allocated free pool (Lane.allocated_sound pool requester a.channel on off none lowBin highBin low high) rfl
      (fun j => ?_) h
    rw [lanes, allocate_single pair]
  | some both =>
    obtain ⟨bin2, mode⟩ := both
    rw [pair] at found
    obtain ⟨lowBin2, highBin2⟩ := second bin2 mode pair
    have chosen := List.find?_some found
    simp only [Bool.and_eq_true, decide_eq_true_eq, poolFree_iff] at chosen
    obtain ⟨⟨even, pool, free⟩, pool', free'⟩ := chosen
    have next := nextLane_val even
    have other : nextLane i ≠ i := fun same => by have := congrArg Fin.val same; omega
    have position : (nextLane i).val / 2 = i.val / 2 := by omega
    refine State.lanesSound_allocatedPair free free' pool pool'
      (Lane.allocated_sound pool requester a.channel on off (some (nextLane i, mode)) lowBin highBin low high)
      (Lane.allocated_sound pool' requester a.channel on off (some (i, mode)) lowBin2 highBin2 low high) rfl rfl
      ⟨position, other, rfl, rfl, rfl, rfl, rfl, rfl⟩ ⟨position.symm, other.symm, rfl, rfl, rfl, rfl, rfl, rfl⟩ (fun j => ?_) h
    rw [lanes, allocate_pair pair]

end Sys2Proof.Machine
end

section
/-! SUPPORT. That every command, and so every step, keeps the lane table, SMP's place in its block, and the bounds of the accumulators and
sums. It settles O58. -/

namespace Sys2Proof.Machine
open Sys2Proof

/-! ### What the invariants read -/

/-- From s to u SMP's place in its block, the sums of the paths, and whether the part is in RUNNING all stand. -/
structure LeavesBlock (s u : State) : Prop where
  block   : u.smp.block = s.smp.block
  cycle   : u.smp.cycle = s.smp.cycle
  slot    : u.smp.slot = s.smp.slot
  inSum   : ∀ p : Fin 4, u.pmn[p].inSum = s.pmn[p].inSum
  outSum  : ∀ p : Fin 4, u.pmn[p].outSum = s.pmn[p].outSum
  running : u.running = s.running

/-- From s to u the lane table stands too. -/
structure LeavesLanes (s u : State) : Prop extends LeavesBlock s u where
  tcr : u.tcr = s.tcr

/-- The lane table is sound, and so are SMP's place, the accumulators and the sums. -/
def State.lanesKept (s : State) : Prop := s.lanesSound ∧ s.sumsSound

theorem Smp.taken_congr {m m' : Smp} (block : m'.block = m.block) (cycle : m'.cycle = m.cycle) (slot : m'.slot = m.slot) (ch : Fin 8) :
    m'.taken ch = m.taken ch := by
  unfold Smp.taken
  rw [block, cycle, slot]

/-- R74: an accumulator pair that n samples may have given, with a phase below 1024; empty where the lane does not run. -/
def Lane.within (l : Lane) (n : Nat) : Prop :=
  l.x.natAbs ≤ 8382465 * n ∧ l.y.natAbs ≤ 8382465 * n ∧ l.phase < 1024 ∧ (l.state ≠ .running → l.x = 0 ∧ l.y = 0)

theorem Lane.within_of_empty {l : Lane} (n : Nat) (x : l.x = 0) (y : l.y = 0) (phase : l.phase < 1024) : l.within n := by
  simp [Lane.within, x, y, phase]

/-- An operation that leaves the block in progress as it is, and of each lane empties the accumulators or leaves them. -/
theorem LeavesBlock.sumsSound {s u : State} (h : LeavesBlock s u)
    (lanes : ∀ (i : Fin 16) (n : Nat), s.tcr[i].within n → u.tcr[i].channel = s.tcr[i].channel ∧ u.tcr[i].within n ∨ u.tcr[i].x = 0 ∧
      u.tcr[i].y = 0 ∧ u.tcr[i].phase = 0) (sound : s.sumsSound) : u.sumsSound := by
  obtain ⟨block, cycle, slot, inSum, outSum, running⟩ := h
  obtain ⟨place, between, idle, sums, paths⟩ := sound
  have taken (ch : Fin 8) : u.smp.taken ch = s.smp.taken ch := Smp.taken_congr block cycle slot ch
  refine ⟨cycle ▸ place, ?_, ?_, fun i => ?_, fun p => ?_⟩
  · rwa [block, cycle, slot]
  · rwa [running, block]
  · rw [taken]
    rcases lanes i _ (sums i) with ⟨channel, within⟩ | ⟨x, y, phase⟩
    · rw [channel]
      exact within
    · exact Lane.within_of_empty _ x y (by omega)
  · rw [taken, taken, inSum, outSum]
    exact paths p

theorem LeavesLanes.kept {s u : State} (h : LeavesLanes s u) (kept : s.lanesKept) : u.lanesKept := by
  refine ⟨State.lanesSound_of_sameWatch (fun i => ?_) kept.1, h.toLeavesBlock.sumsSound (fun i n within => .inl ?_) kept.2⟩
  · rw [h.tcr]
    exact .refl _
  · rw [h.tcr]
    exact ⟨rfl, within⟩

theorem LeavesBlock.of_eq {s u : State} (smp : u.smp = s.smp) (pmn : u.pmn = s.pmn) (running : u.running = s.running) :
    LeavesBlock s u :=
  ⟨by rw [smp], by rw [smp], by rw [smp], fun _ => by rw [pmn], fun _ => by rw [pmn], running⟩

/-- An operation that touches neither SMP nor TCR nor PMN. -/
theorem LeavesLanes.of_eq {s u : State} (smp : u.smp = s.smp) (tcr : u.tcr = s.tcr) (pmn : u.pmn = s.pmn)
    (running : u.running = s.running) : LeavesLanes s u :=
  ⟨.of_eq smp pmn running, tcr⟩

theorem LeavesLanes.refl (s : State) : LeavesLanes s s := .of_eq rfl rfl rfl rfl

theorem LeavesLanes.trans {s u v : State} (h : LeavesLanes s u) (h' : LeavesLanes u v) : LeavesLanes s v where
  block := h'.block.trans h.block
  cycle := h'.cycle.trans h.cycle
  slot := h'.slot.trans h.slot
  inSum p := (h'.inSum p).trans (h.inSum p)
  outSum p := (h'.outSum p).trans (h.outSum p)
  running := h'.running.trans h.running
  tcr := h'.tcr.trans h.tcr

/-- `LeavesLanes.trans` with the later operation first, as the model writes it. -/
theorem LeavesLanes.after {s u v : State} (h' : LeavesLanes u v) (h : LeavesLanes s u) : LeavesLanes s v := h.trans h'

/-! ### The shared operations -/

theorem LeavesLanes.ofVde {s u : State} (h : VdeChange s u) : LeavesLanes s u := by
  obtain ⟨_, _, rfl⟩ := h
  exact .of_eq rfl rfl rfl rfl

theorem LeavesLanes.setPort (s : State) (side : Side) (p : Port) : LeavesLanes s (s.setPort side p) :=
  .of_eq (by simp) (by simp) (by simp) (by simp [State.running])

theorem LeavesLanes.setNb (s : State) (side : Side) (r : NbRec) : LeavesLanes s (s.setNb side r) :=
  .of_eq (by simp) (by simp) (by simp) (by simp [State.running])

theorem LeavesLanes.askNotice (s : State) (x : Subject) (prompt : Bool) : LeavesLanes s (s.askNotice x prompt) :=
  .of_eq (by simp) (by simp) (by simp) (by simp [State.running])

theorem LeavesLanes.askState (s : State) : LeavesLanes s s.askState :=
  .of_eq (by simp) (by simp) (by simp) (by simp [State.running])

theorem LeavesLanes.settleAlarms (s : State) : LeavesLanes s s.settleAlarms := by
  rw [State.settleAlarms_eq]
  exact .of_eq rfl rfl rfl rfl

theorem LeavesLanes.windowExpiry (s : State) (p : Fin 4) : LeavesLanes s (s.windowExpiry p) := by
  unfold State.windowExpiry; dsimp only; split
  · exact .after (.settleAlarms _) (.ofVde (s.setVerdict_changes p _))
  · exact .refl s

theorem LeavesLanes.holdOffExpiry (s : State) (p : Fin 4) : LeavesLanes s (s.holdOffExpiry p) := by
  unfold State.holdOffExpiry; dsimp only; split
  · exact .after (.settleAlarms _) (.after (.ofVde (State.lightEvaluation_changes _ p)) (.of_eq rfl rfl rfl rfl))
  · exact .refl s

/-! ### The line ports, RLY and NBV -/

theorem LeavesLanes.symbolReceived (s : State) (side : Side) (sym : Symbol) (t : Stamp) : LeavesLanes s (s.symbolReceived side sym t) := by
  unfold State.symbolReceived; split
  · exact .trans (.setPort s side _) (.of_eq rfl rfl rfl rfl)
  · exact .refl s

theorem LeavesLanes.setSignal (s : State) (side : Side) (level : Bool) : LeavesLanes s (s.setSignal side level) :=
  .of_eq (by simp) (by simp) (by simp) (by simp [State.running])

theorem LeavesLanes.linkUp (s : State) (side : Side) : LeavesLanes s (s.linkUp side) := by
  unfold State.linkUp; split
  · exact .after (.setNb _ side _) (.setPort s side _)
  · exact .refl s

theorem LeavesLanes.agedMark (s : State) (side : Side) : LeavesLanes s (s.agedMark side) := by
  unfold State.agedMark; split
  · exact .setPort s side _
  · exact .refl s

theorem LeavesLanes.offer (s : State) (side : Side) (f : Frame) : LeavesLanes s (s.offer side f) := by
  unfold State.offer; dsimp only; split
  · exact .refl s
  · split
    · exact .setPort s side _
    · exact .of_eq rfl rfl rfl rfl

theorem LeavesLanes.relay (s : State) (side : Side) (f : Frame) : LeavesLanes s (s.relay side f) := by
  have forwarded : LeavesLanes s (if s.forwards f then s.offer (otherSide side) f else s) := by
    split
    · exact .offer s _ f
    · exact .refl s
  unfold State.relay; dsimp only; split
  · exact forwarded.trans (.of_eq rfl rfl rfl rfl)
  · split
    · exact forwarded.trans (.of_eq rfl rfl rfl rfl)
    · exact forwarded

theorem LeavesLanes.receivedFrame (s : State) (r : ReceivedFrame) : LeavesLanes s (s.receivedFrame r) := by
  unfold State.receivedFrame; split
  · dsimp only; split
    · exact .of_eq rfl rfl rfl rfl
    · split
      · exact .of_eq rfl rfl rfl rfl
      · exact .after (.relay _ _ _) (.of_eq rfl rfl rfl rfl)
  · exact .refl s

theorem LeavesLanes.promptReply (s : State) (side : Side) (r : PathReport) : LeavesLanes s (s.promptReply side r) := by
  unfold State.promptReply; split
  · dsimp only; split
    · exact .askNotice s _ _
    · exact .refl s
  · exact .refl s

theorem LeavesLanes.useFrame (s : State) (d : Delivery) : LeavesLanes s (s.useFrame d) := by
  have states (side : Side) (m : Vector Summary 4) : LeavesLanes s (s.useState side m) := by
    unfold State.useState; dsimp only
    exact .after (.ofVde (foldl_keeps (VdeChange _) _ (fun u i h => h.trans (u.handReport_changes side i _ _)) _ _ (.refl _)))
      (.setNb s side _)
  have paths (side : Side) (r : PathReport) : LeavesLanes s (s.usePath side r) :=
    .after (.promptReply _ side r) (.after (.ofVde (State.handReport_changes _ side _ _ _)) (.setNb s side _))
  have powers (side : Side) (dying : Bool) : LeavesLanes s (s.usePower side dying) := by
    unfold State.usePower; dsimp only; split
    · exact .after (.ofVde (State.handDying_changes _ side)) (.setNb s side _)
    · exact .setNb s side _
  unfold State.useFrame
  cases d.kind with
  | state =>
    dsimp only; split
    · exact states _ _
    · exact .refl s
  | notice =>
    dsimp only; split
    · exact paths _ _
    · exact powers _ _
    · exact .refl s
    · exact .refl s
  | request => exact .refl s
  | answer => exact .refl s

theorem LeavesLanes.neighbourFrame (s : State) (d : Delivery) : LeavesLanes s (s.neighbourFrame d) := by
  have taken : LeavesLanes s { s with nbv := { s.nbv with deliveries := s.nbv.deliveries.erase d } } := .of_eq rfl rfl rfl rfl
  unfold State.neighbourFrame; split
  · dsimp only; split
    · split
      · exact taken.trans (.setNb _ _ _)
      · split
        · exact taken.trans (.trans (.useFrame _ d) (.settleAlarms _))
        · exact taken
    · exact taken
  · exact .refl s

theorem LeavesLanes.staleExpiry (s : State) (side : Side) : LeavesLanes s (s.staleExpiry side) := by
  unfold State.staleExpiry; split
  · exact .setNb s side _
  · exact .refl s

/-! ### Pilots, the test generator and STU -/

theorem LeavesLanes.pilotStep (s : State) : LeavesLanes s s.pilotStep := by
  unfold State.pilotStep; split
  · exact .of_eq rfl rfl rfl rfl
  · exact .refl s

theorem LeavesLanes.testExpiry (s : State) : LeavesLanes s s.testExpiry := by
  unfold State.testExpiry; split
  · exact .after (.askNotice _ _ _) (.of_eq rfl rfl rfl rfl)
  · exact .refl s

theorem LeavesLanes.setStu (s : State) {stu : Stu} : LeavesLanes s { s with stu := stu } := .of_eq rfl rfl rfl rfl

theorem LeavesLanes.settleStall (s : State) : LeavesLanes s s.settleStall := by
  obtain ⟨_, settled⟩ := s.settleStall_changes
  rw [settled]
  exact .of_eq rfl rfl rfl rfl

theorem LeavesLanes.enterDying (s : State) : LeavesLanes s s.enterDying := by
  unfold State.enterDying; split
  · exact .refl s
  · exact .of_eq rfl rfl rfl rfl

theorem LeavesLanes.judgeRevival (s : State) : LeavesLanes s s.judgeRevival := by
  unfold State.judgeRevival; split
  · exact .of_eq rfl rfl rfl rfl
  · exact .refl s

theorem LeavesLanes.statePeriodExpiry (s : State) : LeavesLanes s s.statePeriodExpiry := by
  unfold State.statePeriodExpiry; split
  · exact .after (.askState _) (.of_eq rfl rfl rfl rfl)
  · exact .refl s

theorem LeavesLanes.inputChange (s : State) (n : Fin 12) (level : Bool) : LeavesLanes s (s.inputChange n level) := by
  unfold State.inputChange; dsimp only; split
  · exact .after (.askNotice _ _ _) (.setStu s)
  · exact .setStu s

theorem LeavesLanes.powerGoodChange (s : State) (n : Fin 12) (level : Bool) : LeavesLanes s (s.powerGoodChange n level) := by
  unfold State.powerGoodChange; dsimp only; split
  · exact .after (.judgeRevival _) (.setStu s)
  · exact .after (.enterDying _) (.setStu s)

theorem LeavesLanes.lineEvent (s : State) (n : Fin 12) (level : Bool) (t : Stamp) : LeavesLanes s (s.lineEvent n level t) := by
  unfold State.lineEvent
  cases s.stu.lines[n].fn with
  | inp => exact .inputChange s n level
  | tacho => exact .after (.settleStall _) (.setStu s)
  | powerGood => exact .powerGoodChange s n level
  | out => exact .refl s
  | fan => exact .refl s
  | alarm => exact .refl s

theorem LeavesLanes.hutLineChange (s : State) (n : Fin 12) (level : Bool) (t : Stamp) : LeavesLanes s (s.hutLineChange n level t) := by
  unfold State.hutLineChange; dsimp only; split
  · exact .after (.settleAlarms _) (.after (.lineEvent _ n level t) (.of_eq rfl rfl rfl rfl))
  · exact .of_eq rfl rfl rfl rfl

theorem LeavesLanes.edgeTimerExpiry (s : State) (n : Fin 12) : LeavesLanes s (s.edgeTimerExpiry n) := by
  unfold State.edgeTimerExpiry; split
  · exact .after (.settleAlarms _) (.after (.settleStall _) (.setStu s))
  · exact .refl s

theorem LeavesLanes.stallTimerExpiry (s : State) (n : Fin 12) : LeavesLanes s (s.stallTimerExpiry n) := by
  unfold State.stallTimerExpiry; split
  · exact .after (.settleAlarms _) (.after (.askNotice _ _ _) (.setStu s))
  · exact .refl s

/-! ### Slow readings -/

/-- R105: a bias reading changes no sum. -/
theorem LeavesLanes.judgeBias (s : State) (p : Fin 4) (v : Nat) : LeavesLanes s (s.judgeBias p v) := by
  have flagged (high : Bool) : LeavesLanes s { s with pmn := upd s.pmn p fun r => { r with biasHigh := high } } := by
    refine ⟨⟨rfl, rfl, rfl, fun q => ?_, fun q => ?_, rfl⟩, rfl⟩
    all_goals
      rw [upd_get]
      split
      · subst q; rfl
      · rfl
  unfold State.judgeBias; dsimp only; split
  · exact .after (.askNotice _ _ _) (flagged _)
  · exact .refl s

theorem LeavesLanes.judgeHot (s : State) (v : Nat) : LeavesLanes s (s.judgeHot v) := by
  unfold State.judgeHot; dsimp only; split
  · exact .refl s
  · exact .after (.settleStall _) (.after (.askNotice _ _ _) (.setStu s))

theorem LeavesLanes.judgeFilter (s : State) (v : Nat) : LeavesLanes s (s.judgeFilter v) := by
  unfold State.judgeFilter; dsimp only; split
  · exact .refl s
  · exact .after (.askNotice _ _ _) (.setStu s)

theorem LeavesLanes.judgeBattery (s : State) (v : Nat) : LeavesLanes s (s.judgeBattery v) := by
  unfold State.judgeBattery; split
  · exact .judgeRevival s
  · split
    · exact .enterDying s
    · exact .refl s

theorem LeavesLanes.offerReading (s : State) (i : Fin 10) (v : Nat) : LeavesLanes s (s.offerReading i v) := by
  unfold State.offerReading; split
  · exact .judgeBias s _ v
  · split
    · exact .judgeHot s v
    · split
      · exact .judgeBattery s v
      · split
        · exact .judgeFilter s v
        · exact .refl s

theorem LeavesLanes.slowConversion (s : State) (code : Nat) : LeavesLanes s (s.slowConversion code) := by
  have converted {slowPtr : Fin 10} {slowSum slowCnt : Vector Nat 10} {readings : Vector (Option Nat) 10} :
      LeavesLanes s { s with smp := { s.smp with slowPtr := slowPtr, slowSum := slowSum, slowCnt := slowCnt, readings := readings } } :=
    ⟨⟨rfl, rfl, rfl, fun _ => rfl, fun _ => rfl, rfl⟩, rfl⟩
  unfold State.slowConversion; dsimp only; split
  · exact .after (.offerReading _ _ _) converted
  · exact converted

/-! ### Time, the restart and the answers -/

/-- R1, R70: the ticks that pass pace the watches. -/
theorem State.elapse_lanesKept {s : State} (d n : Nat) (h : s.lanesKept) : (s.elapse d n).lanesKept := by
  have block : LeavesBlock s (s.elapse d n) := .of_eq (by simp) (by simp) (by simp [State.running])
  refine ⟨State.lanesSound_ticks n (s.elapse_tcr d n) h.1, block.sumsSound (fun i m within => .inl ?_) h.2⟩
  rw [State.elapse_tcr, each_get]
  exact ⟨rfl, within⟩

theorem State.moment_lanesKept {s : State} (t : Stamp) (h : s.lanesKept) : (s.moment t).lanesKept := by
  rcases s.moment_cases t with ⟨-, e⟩ | ⟨-, -, e⟩
  · rwa [e]
  · rw [e]
    exact State.elapse_lanesKept _ _ h

/-- R60, R64, R110: with SMP, TCR and PMN at their start values nothing is lent and nothing is sampled. -/
theorem State.lanesKept_of_reset {s : State} (smp : s.smp = .reset) (tcr : s.tcr = lanesReset) (pmn : s.pmn = .replicate 4 .reset) :
    s.lanesKept := by
  have sound := State.held_sumsSound s.pins 0 none 0 []
  have lanes := State.held_lanesSound s.pins 0 none 0 []
  unfold State.lanesKept State.lanesSound State.sumsSound at *
  rw [smp, tcr, pmn]
  exact ⟨lanes, sound.1, sound.2.1, fun _ => rfl, sound.2.2.2⟩

theorem State.answersLeft_lanesKept {s : State} (slots : List (Fin 6)) (h : s.lanesKept) : (s.answersLeft slots).lanesKept := by
  have freed {slots : Vector Slot 6} : LeavesLanes s { s with rqh := { s.rqh with slots := slots } } := .of_eq rfl rfl rfl rfl
  unfold State.answersLeft; dsimp only; split
  · split
    · exact State.lanesKept_of_reset rfl rfl rfl
    · exact freed.kept h
  · exact freed.kept h

theorem State.complete_lanesKept {s : State} (k : Fin 6) (status : Status) (results : List Byte) (h : s.lanesKept) :
    (s.complete k status results).lanesKept := by
  have ready {slots : Vector Slot 6} : LeavesLanes s { s with rqh := { s.rqh with slots := slots } } := .of_eq rfl rfl rfl rfl
  unfold State.complete State.askAnswer; dsimp only; split
  · exact LeavesLanes.kept (s := s) (.of_eq rfl rfl rfl rfl) h
  · exact State.answersLeft_lanesKept _ (ready.kept h)

theorem State.entryToDown_lanesKept {s : State} (side : Side) (h : s.lanesKept) : (s.entryToDown side).lanesKept := by
  have closed {p : Port} {rly : Rly} {snq : List Entry} : LeavesLanes s { s.setPort side p with rly := rly, snq := snq } :=
    .trans (.setPort s side p) (.of_eq rfl rfl rfl rfl)
  unfold State.entryToDown
  refine (LeavesLanes.after (.settleAlarms _) (.after (.ofVde (State.linkDownEvent_changes _ side)) (.setNb _ side _))).kept ?_
  exact State.answersLeft_lanesKept _ (closed.kept h)

theorem State.signalDetectChange_lanesKept {s : State} (side : Side) (level : Bool) (h : s.lanesKept) :
    (s.signalDetectChange side level).lanesKept := by
  have set := (LeavesLanes.setSignal s side level).kept h
  unfold State.signalDetectChange; dsimp only; split
  · exact State.entryToDown_lanesKept side set
  · exact set

theorem State.silenceExpiry_lanesKept {s : State} (side : Side) (h : s.lanesKept) : (s.silenceExpiry side).lanesKept := by
  unfold State.silenceExpiry; split
  · exact State.entryToDown_lanesKept side h
  · exact h

theorem State.grant_lanesKept {s : State} (side : Side) (h : s.lanesKept) : (s.grant side).lanesKept := by
  have granted {p : Port} {snq : List Entry} : LeavesLanes s { s.setPort side p with snq := snq } :=
    .trans (.setPort s side p) (.of_eq rfl rfl rfl rfl)
  unfold State.grant; split
  · split
    · exact (LeavesLanes.setPort s side _).kept h
    · exact State.answersLeft_lanesKept _ (granted.kept h)
    · exact h
  · exact h

theorem State.transmitDone_lanesKept {s : State} (side : Side) (h : s.lanesKept) : (s.transmitDone side).lanesKept := by
  unfold State.transmitDone; split
  · exact State.grant_lanesKept side ((LeavesLanes.setPort s side _).kept h)
  · exact h

/-! ### Pool watches (R67 to R71) -/

/-- R63: a lane freed, or left as it is, has accumulators to fit. -/
theorem Lane.freed_or_same {l m : Lane} {watch : Prop} [Decidable watch] (e : m = if watch then l.freed else l) (n : Nat)
    (within : l.within n) : m.channel = l.channel ∧ m.within n ∨ m.x = 0 ∧ m.y = 0 ∧ m.phase = 0 := by
  subst e
  split
  · exact .inr ⟨rfl, rfl, rfl⟩
  · exact .inl ⟨rfl, within⟩

theorem State.freeWatch_lanesKept {s : State} {i : Fin 16} (pool : 8 ≤ i.val) (h : s.lanesKept) : (s.freeWatch i).lanesKept := by
  refine (LeavesLanes.askNotice _ _ _).kept ⟨State.lanesSound_freed pool (fun j => freeWatch_get s.tcr i j) h.1, ?_⟩
  have block : LeavesBlock s { s with tcr := .ofFn fun j => if inWatch s.tcr i j then s.tcr[j].freed else s.tcr[j] } :=
    .of_eq rfl rfl rfl
  exact block.sumsSound (fun j n within => Lane.freed_or_same (freeWatch_get s.tcr i j) n within) h.2

theorem State.watchExpiry_lanesKept {s : State} (i : Fin 16) (h : s.lanesKept) : (s.watchExpiry i).lanesKept := by
  unfold State.watchExpiry; split
  next due =>
    simp only [Bool.and_eq_true, decide_eq_true_eq] at due
    exact State.freeWatch_lanesKept due.1.2 h
  next => exact h

theorem State.toneWatch_lanesKept {s : State} (requester : Byte) {args : List Byte} {a : WatchArgs} (accepted : watchArgs args = some a)
    (h : s.lanesKept) : (s.toneWatch requester a).1.lanesKept := by
  obtain ⟨-, -, low, high, -⟩ := watchArgs_bounds accepted
  have block {lanes : Vector Lane 16} : LeavesBlock s { s with tcr := lanes } := .of_eq rfl rfl rfl
  rcases s.toneWatch_cases requester a with ⟨i, matched, e⟩ | ⟨-, ⟨i, found, e⟩ | ⟨-, e⟩⟩
  · obtain ⟨pool, lent⟩ := matchingWatch_lent matched
    rw [e]
    refine ⟨State.lanesSound_renewed lent pool low high rfl h.1, block.sumsSound (fun j n within => .inl ?_) h.2⟩
    rw [renewed_get]
    split
    · exact ⟨rfl, within⟩
    · exact ⟨rfl, within⟩
  · rw [e]
    refine (LeavesLanes.askNotice _ _ _).kept ⟨State.lanesSound_allocate accepted found rfl h.1, block.sumsSound (fun j n within => ?_) h.2⟩
    have untouched : s.tcr[j].channel = s.tcr[j].channel ∧ s.tcr[j].within n := ⟨rfl, within⟩
    cases pair : a.second with
    | none =>
      dsimp only
      rw [allocate_single pair]
      split
      · exact .inr ⟨rfl, rfl, rfl⟩
      · exact .inl untouched
    | some both =>
      dsimp only
      rw [allocate_pair pair]
      split
      · exact .inr ⟨rfl, rfl, rfl⟩
      · split
        · exact .inr ⟨rfl, rfl, rfl⟩
        · exact .inl untouched
  · rw [e]
    exact h

/-! ### Requests -/

theorem State.takeRequest_lanesKept {s : State} (rq : RequestHead) (body : List Byte) {run : Fin 6 → State → State × Reply}
    (hrun : ∀ k u, u.lanesKept → (run k u).1.lanesKept) (h : s.lanesKept) : (s.takeRequest rq body run).lanesKept := by
  have taken {rqh : Rqh} : LeavesLanes s { s with rqh := rqh } := .of_eq rfl rfl rfl rfl
  unfold State.takeRequest; split
  · dsimp only; split
    · exact taken.kept h
    · split
      · exact taken.kept h
      next k _ =>
        have inSlot : (s.requestIn k rq body).lanesKept := taken.kept h
        have ran := hrun k _ inSlot
        split
        · exact State.complete_lanesKept _ _ _ inSlot
        · split
          next u status results done =>
            rw [show run k (s.requestIn k rq body) = (u, .done status results) from done] at ran
            exact State.complete_lanesKept _ _ _ ran
          next u waiting =>
            rw [show run k (s.requestIn k rq body) = (u, .waiting) from waiting] at ran
            exact ran
  · exact h

theorem LeavesLanes.runProbe (s : State) (args : List Byte) (k : Fin 6) : LeavesLanes s (Machine.runProbe args k s).1 := by
  unfold Machine.runProbe; split
  · split
    · exact ⟨⟨rfl, rfl, rfl, fun _ => rfl, fun _ => rfl, rfl⟩, rfl⟩
    · exact .refl s
  · exact .refl s

theorem runToneWatch_lanesKept {s : State} (requester : Byte) (args : List Byte) (k : Fin 6) (h : s.lanesKept) :
    (runToneWatch requester args k s).1.lanesKept := by
  unfold runToneWatch; split
  next a accepted =>
    have taken := State.toneWatch_lanesKept requester accepted h
    split
    next e => rw [e] at taken; exact taken
    next e => rw [e] at taken; exact taken
  next => exact h

theorem runToneDrop_lanesKept {s : State} (requester : Byte) (args : List Byte) (k : Fin 6) (h : s.lanesKept) :
    (runToneDrop requester args k s).1.lanesKept := by
  unfold runToneDrop; split
  next i _ =>
    split
    · exact h
    next pool =>
      split
      · exact h
      · split
        · exact State.freeWatch_lanesKept (Nat.not_lt.mp pool) h
        · exact h
  next => exact h

theorem LeavesLanes.runGenClaim (s : State) (requester : Byte) (args : List Byte) (k : Fin 6) :
    LeavesLanes s (Machine.runGenClaim requester args k s).1 := by
  have claimed {g : Ttg} : LeavesLanes s { s with ttg := g } := .of_eq rfl rfl rfl rfl
  unfold Machine.runGenClaim; split
  · split
    · exact .refl s
    · split
      · split
        · split
          · exact claimed
          · exact claimed
        · exact .refl s
      · exact .after (.askNotice _ _ _) claimed
  · exact .refl s

theorem LeavesLanes.runGenRelease (s : State) (requester : Byte) (args : List Byte) (k : Fin 6) :
    LeavesLanes s (Machine.runGenRelease requester args k s).1 := by
  unfold Machine.runGenRelease; split
  · split
    · split
      · exact .after (.askNotice _ _ _) (.of_eq rfl rfl rfl rfl)
      · exact .refl s
    · exact .refl s
  · exact .refl s

theorem LeavesLanes.runLines (s : State) (level : Bool) (args : List Byte) (k : Fin 6) :
    LeavesLanes s (Machine.runLines level args k s).1 := by
  unfold Machine.runLines; split
  · exact .after (.settleAlarms _) (.after (.settleStall _) (.setStu s))
  · exact .refl s

theorem LeavesLanes.runLinesAck (s : State) (args : List Byte) (k : Fin 6) : LeavesLanes s (Machine.runLinesAck args k s).1 := by
  unfold Machine.runLinesAck; split
  · exact .setStu s
  · exact .refl s

theorem LeavesLanes.runRecheck (s : State) (args : List Byte) (k : Fin 6) : LeavesLanes s (Machine.runRecheck args k s).1 := by
  unfold Machine.runRecheck; split
  next p _ =>
    split
    · exact .refl s
    · exact .after (.settleAlarms _) (.ofVde (s.recheckPath_changes p))
  next => exact .refl s

theorem LeavesLanes.runRestart (s : State) (broadcast : Bool) (args : List Byte) (k : Fin 6) :
    LeavesLanes s (Machine.runRestart broadcast args k s).1 := by
  unfold Machine.runRestart; split
  · split
    · exact .refl s
    · split
      · exact .refl s
      · exact .of_eq rfl rfl rfl rfl
  · exact .refl s

/-! ### The sampler (R49 to R51, R73, R74, R98) -/

/-- R51, R73: a block starts with every accumulator and every sum empty. -/
theorem State.blockStart_lanesKept {s : State} (h : s.lanesKept) : s.blockStart.lanesKept := by
  unfold State.blockStart; split
  next start =>
    simp only [Bool.and_eq_true, decide_eq_true_eq] at start
    obtain ⟨⟨running, -⟩, due⟩ := start
    obtain ⟨-, -, -, sums, -⟩ := h.2
    refine ⟨State.lanesSound_blockStart rfl h.1, Nat.zero_lt_succ _, nofun, fun idle => ?_, fun i => ?_, fun p => ?_⟩
    · exact absurd (running.symm.trans idle) (by decide)
    · have taken : s.smp.taken s.tcr[i].channel = 0 := by simp [Smp.taken, due]
      have empty : s.tcr[i].within 0 := taken ▸ sums i
      obtain ⟨x, y, phase, idle⟩ := empty
      simp only [each_get]
      rw [Lane.atBlockStart_eq]
      refine Lane.within_of_empty _ ?_ ?_ ?_
      · dsimp only; split
        · rfl
        · omega
      · dsimp only; split
        · rfl
        · omega
      · dsimp only; split
        · decide
        · exact phase
    · simp [PathRec.atBlockStart]
  next => exact h

theorem sineQuarter_le (j : Nat) : sineQuarter.getD j 0 ≤ 2047 := by
  rw [List.getD_eq_getElem?_getD]
  cases e : sineQuarter[j]? with
  | none => exact Nat.zero_le _
  | some v =>
    have member := List.mem_of_getElem? e
    simp only [sineQuarter, List.mem_append, or_assoc] at member
    rcases member with m | m | m | m | m | m | m | m | m
    · exact (by decide : ∀ v ∈ sineQuarter0, v ≤ 2047) v m
    · exact (by decide : ∀ v ∈ sineQuarter1, v ≤ 2047) v m
    · exact (by decide : ∀ v ∈ sineQuarter2, v ≤ 2047) v m
    · exact (by decide : ∀ v ∈ sineQuarter3, v ≤ 2047) v m
    · exact (by decide : ∀ v ∈ sineQuarter4, v ≤ 2047) v m
    · exact (by decide : ∀ v ∈ sineQuarter5, v ≤ 2047) v m
    · exact (by decide : ∀ v ∈ sineQuarter6, v ≤ 2047) v m
    · exact (by decide : ∀ v ∈ sineQuarter7, v ≤ 2047) v m
    · exact (by decide : ∀ v ∈ sineQuarter8, v ≤ 2047) v m

/-- R75: every entry of S lies in −2047 to 2047. -/
theorem sinTable_natAbs (m : Nat) : (sinTable m).natAbs ≤ 2047 := by
  have quarter (j : Nat) : (sineQuarter.getD j 0 : Int).natAbs ≤ 2047 := by
    rw [Int.natAbs_natCast]
    exact sineQuarter_le j
  unfold sinTable; dsimp only
  split
  · exact quarter _
  · split
    · exact quarter _
    · split
      · rw [Int.natAbs_neg]; exact quarter _
      · rw [Int.natAbs_neg]; exact quarter _

theorem cosTable_natAbs (m : Nat) : (cosTable m).natAbs ≤ 2047 := sinTable_natAbs _

/-- R47, R75: a sample of at most 4095 adds at most 8,382,465 to an accumulator. -/
theorem accumulator_bound {x c : Int} {code n : Nat} (small : code ≤ 4095) (entry : c.natAbs ≤ 2047) (before : x.natAbs ≤ 8382465 * n) :
    (x + code * c).natAbs ≤ 8382465 * (n + 1) := by
  have product : ((code : Int) * c).natAbs ≤ 4095 * 2047 := by
    rw [Int.natAbs_mul, Int.natAbs_natCast]
    exact Nat.mul_le_mul small entry
  have := Int.natAbs_add_le x (code * c)
  omega

/-- R47: a code has 12 bits. -/
theorem code_le (code : Code) : code.toNat ≤ 4095 := by have := code.isLt; omega

theorem Lane.accumulate_within {l : Lane} (ch : Fin 8) (code : Code) {n m : Nat} (more : n ≤ m) (own : l.channel = ch → m = n + 1)
    (within : l.within n) : (l.accumulate ch code.toNat).within m := by
  obtain ⟨x, y, phase, idle⟩ := within
  unfold Lane.accumulate
  split
  next takes =>
    simp only [Bool.and_eq_true, decide_eq_true_eq] at takes
    rw [own takes.2]
    exact ⟨accumulator_bound (code_le code) (cosTable_natAbs _) x, accumulator_bound (code_le code) (sinTable_natAbs _) y,
      Nat.mod_lt _ (by decide), fun other => absurd takes.1 other⟩
  next => exact ⟨by omega, by omega, phase, idle⟩

/-- R49: the slot of a tap passed gives that tap one sample more, and no other. -/
theorem Smp.taken_succ {m : Smp} {ch : Fin 8} (block : m.block = .inProgress) (slot : m.slot = ch.castSucc) (c : Fin 8) :
    ({ m with slot := ch.succ } : Smp).taken c = if c = ch then m.taken c + 1 else m.taken c := by
  have same : c = ch ↔ c.val = ch.val := Fin.ext_iff
  simp only [Smp.taken, block, slot, same, Fin.val_succ, Fin.val_castSucc]
  split
  · split
    · split
      · omega
      · rfl
    · split <;> omega
  · split
    · omega
    · split <;> omega

/-- R98: a sample goes to the sum of its tap. -/
theorem addSample_get (ch : Fin 8) (code : Nat) (pmn : Vector PathRec 4) (p : Fin 4) :
    (addSample ch code pmn)[p] = { pmn[p] with
      inSum := pmn[p].inSum + (if ch.val = p.val then code else 0)
      outSum := pmn[p].outSum + (if ch.val = p.val + 4 then code else 0) } := by
  simp only [addSample, Fin.getElem_fin, Vector.getElem_ofFn]
  split
  next input => rw [if_neg (by omega)]; rfl
  next =>
    split
    · rfl
    · rfl

/-- R49, R74, R98: the state after a tap sample, before the loss comparator takes it. -/
def State.sampled (s : State) (ch : Fin 8) (code : Code) : State :=
  { s with
    smp := { s.smp with slot := ch.succ }
    tcr := each (Lane.accumulate ch code.toNat) s.tcr
    pmn := addSample ch code.toNat s.pmn }

theorem State.sampled_lanesKept {s : State} {ch : Fin 8} {code : Code} (block : s.smp.block = .inProgress)
    (slot : s.smp.slot = ch.castSucc) (h : s.lanesKept) : (s.sampled ch code).lanesKept := by
  obtain ⟨lanes, cycle, -, idle, sums, paths⟩ := h
  have taken := Smp.taken_succ block slot
  refine ⟨State.lanesSound_of_sameWatch (fun i => ?_) lanes, cycle, fun between => absurd block between, idle, fun i => ?_, fun p => ?_⟩
  · rw [State.sampled, each_get]
    exact Lane.accumulate_sameWatch ..
  · have grows : (s.tcr[i].accumulate ch code.toNat).channel = s.tcr[i].channel := (Lane.accumulate_sameWatch ..).channel
    simp only [State.sampled, each_get, grows, taken]
    refine Lane.accumulate_within ch code ?_ (fun own => if_pos own) (sums i)
    split
    · exact Nat.le_succ _
    · exact Nat.le_refl _
  · obtain ⟨input, output⟩ := paths p
    have := (code_le code)
    simp only [State.sampled, addSample_get, taken, Fin.ext_iff, eq_comm (b := ch.val)]
    constructor
    · split <;> omega
    · split <;> omega

/-- R99, R100: the loss comparator changes no sum. -/
theorem LeavesLanes.compareLoss (s : State) (p : Fin 4) (code : Nat) (t : Stamp) : LeavesLanes s (s.compareLoss p code t) := by
  cases monitored : s.monitored p with
  | false =>
    rw [State.compareLoss_unmonitored s p code t monitored]
    exact .refl s
  | true =>
    obtain ⟨_, _, _, _, _, e⟩ := PathStep.compareLoss s p code t monitored
    rw [e]
    refine ⟨⟨rfl, rfl, rfl, fun q => ?_, fun q => ?_, rfl⟩, rfl⟩
    all_goals
      rw [State.withPath, upd_get]
      split
      · subst q; rfl
      · rfl

theorem State.tapSample_lanesKept {s : State} (ch : Fin 8) (code : Code) (t : Stamp) (h : s.lanesKept) :
    (s.tapSample ch code t).lanesKept := by
  unfold State.tapSample; split
  next here =>
    obtain ⟨-, -, block, slot⟩ := (s.atSlot_iff ch.castSucc).mp here
    have sampled : (s.sampled ch code).lanesKept := State.sampled_lanesKept block slot h
    refine (LeavesLanes.settleAlarms _).kept ?_
    split
    · exact (LeavesLanes.compareLoss _ _ _ _).kept sampled
    · exact sampled
  next => exact h

/-- R49, R51: the shared slot's conversion completes the cycle, in which every tap has given its sample. -/
theorem State.cycleDone_lanesKept {s : State} (block : s.smp.block = .inProgress) (slot : s.smp.slot = 8) (h : s.lanesKept) :
    ({ s with smp := s.smp.cycleDone } : State).lanesKept := by
  obtain ⟨lanes, cycle, -, idle, sums, paths⟩ := h
  have before (ch : Fin 8) : s.smp.taken ch = s.smp.cycle + 1 := by
    simp only [Smp.taken, block, slot]
    exact congrArg _ (if_pos ch.isLt)
  have taken (ch : Fin 8) : s.smp.cycleDone.taken ch = s.smp.taken ch := by
    rw [before]
    by_cases last : s.smp.cycle = 1023
    · simp [Smp.taken, Smp.cycleDone, last]
    · have : s.smp.cycle + 1 < 1024 := by omega
      simp [Smp.taken, Smp.cycleDone, last, block, Nat.mod_eq_of_lt this]
  refine ⟨lanes, Nat.mod_lt _ (by decide), fun between => ?_, fun stopped => ?_, fun i => ?_, fun p => ?_⟩
  · by_cases last : s.smp.cycle = 1023
    · simp [Smp.cycleDone, last]
    · simp [Smp.cycleDone, last, block] at between
  · rw [idle stopped] at block
    cases block
  · rw [taken]; exact sums i
  · rw [taken, taken]; exact paths p

theorem State.sharedSlot_lanesKept {s : State} (code : Code) (t : Stamp) (h : s.lanesKept) : (s.sharedSlot code t).lanesKept := by
  unfold State.sharedSlot; split
  next here =>
    obtain ⟨-, -, block, slot⟩ := (s.atSlot_iff 8).mp here
    have done := State.cycleDone_lanesKept block slot h
    dsimp only; split
    · exact State.complete_lanesKept _ _ _ (LeavesLanes.kept ⟨⟨rfl, rfl, rfl, fun _ => rfl, fun _ => rfl, rfl⟩, rfl⟩ done)
    · exact (LeavesLanes.after (.settleAlarms _) (.slowConversion _ _)).kept done
  next => exact h

/-- R78: an evaluated lane that ran has empty accumulators, as one that did not run has. -/
theorem Lane.evaluate_empty {l : Lane} {n : Nat} (within : l.within n) : l.evaluate.x = 0 ∧ l.evaluate.y = 0 ∧ l.evaluate.phase < 1024 := by
  obtain ⟨-, -, phase, idle⟩ := within
  unfold Lane.evaluate
  split
  · exact ⟨rfl, rfl, Nat.zero_lt_succ _⟩
  next stopped => exact ⟨(idle (by simpa using stopped)).1, (idle (by simpa using stopped)).2, phase⟩

theorem evaluateLanes_empty {lanes : Vector Lane 16} {i : Fin 16} {n : Nat} (within : lanes[i].within n) :
    (evaluateLanes lanes)[i].x = 0 ∧ (evaluateLanes lanes)[i].y = 0 ∧ (evaluateLanes lanes)[i].phase < 1024 := by
  obtain ⟨c, e⟩ := evaluateLanes_eq lanes i
  rw [e]
  exact Lane.evaluate_empty within

theorem State.tcrBlockEnd_changes (s : State) :
    ∃ osc vde snq,
      s.tcrBlockEnd = { s with tcr := evaluateLanes s.tcr, plg := { s.plg with osc := osc }, vde := vde, snq := snq } := by
  have pmn (p : Fin 4) := (s.tcrBlockEnd_path p).2.1
  obtain ⟨_, osc, vde, _, e⟩ := (s.tcrBlockEnd_path 0).1
  obtain ⟨q, evaluated, -⟩ := s.lanesEvaluated_eq
  have same : s.tcrBlockEnd.pmn = s.pmn := by
    ext i hi : 1
    exact pmn ⟨i, hi⟩
  rw [evaluated] at e
  exact ⟨osc, vde, _, by rw [← same, e]⟩

theorem State.pmnBlockEnd_sums (s : State) (t : Stamp) (p : Fin 4) :
    (s.pmnBlockEnd t).pmn[p].inSum = 0 ∧ (s.pmnBlockEnd t).pmn[p].outSum = 0 := by
  obtain ⟨-, monitored, unused⟩ := s.pmnBlockEnd_path t p
  cases used : s.monitored p with
  | true =>
    obtain ⟨_, e, -⟩ := monitored used
    rw [e]
    exact ⟨rfl, rfl⟩
  | false =>
    rw [(unused used).1]
    exact ⟨rfl, rfl⟩

/-- R51: TCR and PMN at a block end, in either order. -/
def State.bothEnded (s : State) (pmnFirst : Bool) (t : Stamp) : State :=
  if pmnFirst then (s.pmnBlockEnd t).tcrBlockEnd else s.tcrBlockEnd.pmnBlockEnd t

theorem State.blockEnd_eq {s : State} (pmnFirst : Bool) (t : Stamp) (running : s.running = true) (scanning : s.smp.scanning = true)
    (due : s.smp.block = .endDue) :
    s.blockEnd pmnFirst t =
      (State.bothEnded { s with smp := { s.smp with block := .startDue } } pmnFirst t).settleAlarms :=
  if_pos (by simp [running, scanning, due])

theorem PathsStep.tcr {s u : State} (h : PathsStep s u) : u.tcr = s.tcr := by
  obtain ⟨_, _, _, _, rfl⟩ := h
  rfl

/-- What both orders leave: evaluated lanes, and of the rest but pilots, paths, verdicts and SNQ nothing changed. -/
theorem State.bothEnded_changes (s : State) (pmnFirst : Bool) (t : Stamp) :
    ∃ osc pmn vde snq, s.bothEnded pmnFirst t =
      { s with tcr := evaluateLanes s.tcr, plg := { s.plg with osc := osc }, pmn := pmn, vde := vde, snq := snq } := by
  unfold State.bothEnded; split
  · obtain ⟨osc, vde, snq, e⟩ := (s.pmnBlockEnd t).tcrBlockEnd_changes
    obtain ⟨pmn, _, _, _, e'⟩ := (s.pmnBlockEnd_path t 0).1
    rw [e'] at e
    exact ⟨osc, pmn, vde, snq, by rw [e', e]⟩
  · obtain ⟨_, _, _, e⟩ := s.tcrBlockEnd_changes
    obtain ⟨pmn, osc, vde, _, e'⟩ := (s.tcrBlockEnd.pmnBlockEnd_path t 0).1
    rw [e] at e'
    exact ⟨osc, pmn, vde, _, by rw [e, e']⟩

theorem State.bothEnded_sums (s : State) (pmnFirst : Bool) (t : Stamp) (p : Fin 4) :
    (s.bothEnded pmnFirst t).pmn[p].inSum = 0 ∧ (s.bothEnded pmnFirst t).pmn[p].outSum = 0 := by
  unfold State.bothEnded; split
  · rw [((s.pmnBlockEnd t).tcrBlockEnd_path p).2.1]
    exact s.pmnBlockEnd_sums t p
  · exact State.pmnBlockEnd_sums _ t p

/-- R51: after a block end the lanes are evaluated, the sums are empty, and SMP stands between two blocks. -/
theorem State.blockEnd_lanes {s : State} (pmnFirst : Bool) (t : Stamp) (running : s.running = true) (scanning : s.smp.scanning = true)
    (due : s.smp.block = .endDue) :
    (s.blockEnd pmnFirst t).tcr = evaluateLanes s.tcr ∧ (s.blockEnd pmnFirst t).smp = { s.smp with block := .startDue } ∧
      ∀ p : Fin 4, (s.blockEnd pmnFirst t).pmn[p].inSum = 0 ∧ (s.blockEnd pmnFirst t).pmn[p].outSum = 0 := by
  have sums := State.bothEnded_sums { s with smp := { s.smp with block := .startDue } } pmnFirst t
  obtain ⟨_, _, _, _, e⟩ := State.bothEnded_changes { s with smp := { s.smp with block := .startDue } } pmnFirst t
  rw [State.blockEnd_eq pmnFirst t running scanning due, State.settleAlarms_eq]
  refine ⟨?_, ?_, sums⟩
  · rw [e]
  · rw [e]

theorem State.blockEnd_lanesKept {s : State} (pmnFirst : Bool) (t : Stamp) (h : s.lanesKept) : (s.blockEnd pmnFirst t).lanesKept := by
  by_cases ends : s.running = true ∧ s.smp.scanning = true ∧ s.smp.block = .endDue
  · obtain ⟨running, scanning, due⟩ := ends
    obtain ⟨tcr, smp, paths⟩ := State.blockEnd_lanes pmnFirst t running scanning due
    obtain ⟨lanes, -, between, -, sums, -⟩ := h
    obtain ⟨cycle, slot⟩ := between (by rw [due]; decide)
    refine ⟨State.lanesSound_of_sameWatch (fun i => ?_) lanes, ?_, ?_, ?_, fun i => ?_, fun p => ?_⟩
    · rw [tcr]
      exact evaluateLanes_sameWatch s.tcr i
    · rw [smp]
      simp [cycle]
    · rw [smp]
      exact fun _ => ⟨cycle, slot⟩
    · rw [smp]
      exact fun _ => rfl
    · obtain ⟨x, y, phase⟩ := evaluateLanes_empty (sums i)
      rw [tcr]
      exact Lane.within_of_empty _ x y phase
    · obtain ⟨input, output⟩ := paths p
      rw [input, output]
      exact ⟨Nat.zero_le _, Nat.zero_le _⟩
  · unfold State.blockEnd
    rw [if_neg (by simpa [and_assoc] using ends)]
    exact h

/-! ### Loads and resets -/

theorem LeavesLanes.enterSite (s : State) : LeavesLanes s s.enterSite := by
  unfold State.enterSite; dsimp only; split
  · exact .after (.askNotice _ _ _) (.setStu s)
  · exact .setStu s

theorem Lane.tuned_accumulators (l : Lane) (c : Settings) (i : Fin 16) :
    (l.tuned c i).x = l.x ∧ (l.tuned c i).y = l.y ∧ (l.tuned c i).phase = l.phase := by
  unfold Lane.tuned; dsimp only
  split
  · exact ⟨rfl, rfl, rfl⟩
  · exact ⟨rfl, rfl, rfl⟩

/-- R43, R60, R65: at the entry to RUNNING SMP and PMN start, and a block start is due with every accumulator empty. -/
theorem State.blocksEntered_lanesKept {s : State} (idle : s.running = false) (h : s.lanesKept) : s.blocksEntered.lanesKept := by
  obtain ⟨lanes, -, -, stopped, sums, -⟩ := h
  refine ⟨State.lanesSound_tuned s.settings s.blocksEntered_lane lanes, Nat.zero_lt_succ _, fun _ => ⟨rfl, rfl⟩, fun _ => rfl, fun i => ?_, fun p => ?_⟩
  · have taken : s.smp.taken s.tcr[i].channel = 0 := by simp [Smp.taken, stopped idle]
    have empty : s.tcr[i].within 0 := taken ▸ sums i
    obtain ⟨x, y, phase, -⟩ := empty
    rw [State.blocksEntered_lane]
    obtain ⟨tunedX, tunedY, tunedPhase⟩ := s.tcr[i].tuned_accumulators s.settings i
    exact Lane.within_of_empty _ (by omega) (by omega) (by omega)
  · simp [State.blocksEntered, PathRec.reset]

theorem State.enterRunning_lanesKept {s : State} (idle : s.running = false) (h : s.lanesKept) : s.enterRunning.lanesKept := by
  have timed (u : State) : LeavesLanes u { u with stateTimer := .seconds s.settings.statePeriod } := .of_eq rfl rfl rfl rfl
  have asked : LeavesLanes s.blocksEntered
      (State.askState { s.blocksEntered.enterSite with stateTimer := .seconds s.settings.statePeriod }) :=
    .after (.askState _) (.after (timed _) (.enterSite _))
  rw [State.enterRunning_eq]
  refine LeavesLanes.kept (.after (.settleAlarms _) ?_) (State.blocksEntered_lanesKept idle h)
  split
  · exact asked
  · exact .after (.enterDying _) asked

/-- R42, R64: outside RUNNING settings are taken, with thresholds for the lanes. -/
theorem State.settle_lanesKept {s : State} (c : Settings) {cfl : Cfl} (idle : s.running = false) (still : cfl.phase ≠ .running)
    (h : s.lanesKept) : ({ s with cfl := cfl, tcr := .ofFn fun i => s.tcr[i].withThresholds c i } : State).lanesKept := by
  have lane (i : Fin 16) : (.ofFn fun i => s.tcr[i].withThresholds c i : Vector Lane 16)[i] = s.tcr[i].withThresholds c i := by simp
  have block : LeavesBlock s { s with cfl := cfl, tcr := .ofFn fun i => s.tcr[i].withThresholds c i } :=
    .of_eq rfl rfl (by rw [idle]; simp [State.running, still])
  refine ⟨State.lanesSound_of_sameWatch (fun i => ?_) h.1, block.sumsSound (fun i n within => .inl ?_) h.2⟩
  · rw [lane]
    exact Lane.withThresholds_sameWatch c i _
  · rw [lane]
    unfold Lane.withThresholds
    split
    · exact ⟨rfl, within⟩
    · exact ⟨rfl, within⟩

theorem State.loadEnd_lanesKept {s : State} (outcome : StartOutcome) (reason : StartReason) (c : Settings) (loading : s.loading = true)
    (h : s.lanesKept) : (s.loadEnd outcome reason c).lanesKept := by
  have phase : s.cfl.phase = .loading := of_decide_eq_true (Bool.and_eq_true_iff.mp loading).2
  have idle : s.running = false := by simp [State.running, phase]
  unfold State.loadEnd; dsimp only; split
  · exact State.enterRunning_lanesKept (by simp [State.running, phase]) (State.settle_lanesKept c idle (by simp [phase]) h)
  · exact State.settle_lanesKept c idle (by simp) h

theorem State.loadTimerExpiry_lanesKept {s : State} (h : s.lanesKept) : s.loadTimerExpiry.lanesKept := by
  unfold State.loadTimerExpiry; split
  next due =>
    have loading : s.loading = true := (Bool.and_eq_true_iff.mp due).1
    exact State.loadEnd_lanesKept _ _ _ (by exact loading) h
  next => exact h

theorem State.i2cNack_lanesKept {s : State} (h : s.lanesKept) : (if s.transacting then s.loadFailed else s).lanesKept := by
  split
  next transacting => exact State.loadEnd_lanesKept _ _ _ (State.loading_of_transacting transacting) h
  next => exact h

theorem State.imageReadDone_lanesKept {s : State} (image : List Byte) (h : s.lanesKept) : (s.imageReadDone image).lanesKept := by
  unfold State.imageReadDone; split
  next read => exact State.loadEnd_lanesKept _ _ _ (State.loading_of_transacting (Bool.and_eq_true_iff.mp read).1) h
  next => exact h

theorem State.rstnRelease_lanesKept {s : State} (straps : BitVec 6) (sdaHold : Option Nat) (h : s.lanesKept) :
    (s.rstnRelease straps sdaHold).lanesKept := by
  unfold State.rstnRelease; split
  next => exact h
  next asleep =>
    have idle : s.running = false := State.running_of_asleep (by simpa using asleep)
    refine LeavesLanes.kept (s := s) (.of_eq rfl rfl rfl ?_) h
    rw [idle]
    simp [State.running, State.startLoad]

/-! ### Every command and every step -/

theorem exec_lanesKept (c : Instr) {s : State} (h : s.lanesKept) : ∃ u, exec c s = .next u ∧ u.lanesKept := by
  have later (t : Stamp) : (s.moment t).lanesKept := State.moment_lanesKept t h
  have request (rq : RequestHead) (body : List Byte) (t : Stamp) {run : Fin 6 → State → State × Reply}
      (hrun : ∀ k u, u.lanesKept → (run k u).1.lanesKept) : ((s.moment t).takeRequest rq body run).lanesKept :=
    State.takeRequest_lanesKept rq body hrun (later t)
  cases c with
  | powerOnReset straps => exact ⟨_, rfl, State.lanesKept_of_reset rfl rfl rfl⟩
  | rstnRelease straps sdaHold => exact ⟨_, rfl, State.rstnRelease_lanesKept straps sdaHold h⟩
  | millisecondTick =>
    refine ⟨_, rfl, ?_⟩
    unfold State.millisecondTick; split
    · exact State.elapse_lanesKept _ _ h
    · exact h
  | symbolReceived side sym t => exact ⟨_, rfl, (LeavesLanes.symbolReceived _ side sym t).kept (later t)⟩
  | signalDetectChange side level t => exact ⟨_, rfl, State.signalDetectChange_lanesKept side level (later t)⟩
  | silenceExpiry side t => exact ⟨_, rfl, State.silenceExpiry_lanesKept side (later t)⟩
  | linkUp side t => exact ⟨_, rfl, (LeavesLanes.linkUp _ side).kept (later t)⟩
  | agedMark side t => exact ⟨_, rfl, (LeavesLanes.agedMark _ side).kept (later t)⟩
  | receivedFrame f => exact ⟨_, rfl, (LeavesLanes.receivedFrame s f).kept h⟩
  | transmitDone side t => exact ⟨_, rfl, State.transmitDone_lanesKept side (later t)⟩
  | i2cNack stage => exact ⟨_, rfl, State.i2cNack_lanesKept h⟩
  | loadTimerExpiry => exact ⟨_, rfl, State.loadTimerExpiry_lanesKept h⟩
  | imageReadDone image => exact ⟨_, rfl, State.imageReadDone_lanesKept image h⟩
  | blockStart => exact ⟨_, rfl, State.blockStart_lanesKept h⟩
  | tapSample channel code t => exact ⟨_, rfl, State.tapSample_lanesKept channel code t (later t)⟩
  | blockEnd pmnFirst t => exact ⟨_, rfl, State.blockEnd_lanesKept pmnFirst t (later t)⟩
  | sharedSlot code t => exact ⟨_, rfl, State.sharedSlot_lanesKept code t (later t)⟩
  | pilotStep => exact ⟨_, rfl, (LeavesLanes.pilotStep s).kept h⟩
  | neighbourFrame d t => exact ⟨_, rfl, (LeavesLanes.neighbourFrame _ d).kept (later t)⟩
  | staleExpiry side => exact ⟨_, rfl, (LeavesLanes.staleExpiry s side).kept h⟩
  | windowExpiry path => exact ⟨_, rfl, (LeavesLanes.windowExpiry s path).kept h⟩
  | holdOffExpiry path => exact ⟨_, rfl, (LeavesLanes.holdOffExpiry s path).kept h⟩
  | watchExpiry lane => exact ⟨_, rfl, State.watchExpiry_lanesKept lane h⟩
  | testExpiry => exact ⟨_, rfl, (LeavesLanes.testExpiry s).kept h⟩
  | statePeriodExpiry => exact ⟨_, rfl, (LeavesLanes.statePeriodExpiry s).kept h⟩
  | hutLineChange line level t => exact ⟨_, rfl, (LeavesLanes.hutLineChange _ line level t).kept (later t)⟩
  | edgeTimerExpiry line => exact ⟨_, rfl, (LeavesLanes.edgeTimerExpiry s line).kept h⟩
  | stallTimerExpiry line => exact ⟨_, rfl, (LeavesLanes.stallTimerExpiry s line).kept h⟩
  | unknownRequest rq body t =>
    refine ⟨_, rfl, ?_⟩
    split
    · exact later t
    · exact request rq body t fun _ _ kept => kept
  | queryPath rq args t => exact ⟨_, rfl, request rq _ t fun _ _ kept => kept⟩
  | querySite rq args t => exact ⟨_, rfl, request rq _ t fun _ _ kept => kept⟩
  | queryLane rq args t => exact ⟨_, rfl, request rq _ t fun _ _ kept => kept⟩
  | queryNeighbour rq args t => exact ⟨_, rfl, request rq _ t fun _ _ kept => kept⟩
  | probe rq args t => exact ⟨_, rfl, request rq _ t fun k u => (LeavesLanes.runProbe u args k).kept⟩
  | toneWatch rq args t => exact ⟨_, rfl, request rq _ t fun k _ => runToneWatch_lanesKept _ args k⟩
  | toneDrop rq args t => exact ⟨_, rfl, request rq _ t fun k _ => runToneDrop_lanesKept _ args k⟩
  | genClaim rq args t => exact ⟨_, rfl, request rq _ t fun k u => (LeavesLanes.runGenClaim u _ args k).kept⟩
  | genRelease rq args t => exact ⟨_, rfl, request rq _ t fun k u => (LeavesLanes.runGenRelease u _ args k).kept⟩
  | linesSet rq args t => exact ⟨_, rfl, request rq _ t fun k u => (LeavesLanes.runLines u true args k).kept⟩
  | linesClear rq args t => exact ⟨_, rfl, request rq _ t fun k u => (LeavesLanes.runLines u false args k).kept⟩
  | linesAck rq args t => exact ⟨_, rfl, request rq _ t fun k u => (LeavesLanes.runLinesAck u args k).kept⟩
  | recheck rq args t => exact ⟨_, rfl, request rq _ t fun k u => (LeavesLanes.runRecheck u args k).kept⟩
  | restartRequest rq args t => exact ⟨_, rfl, request rq _ t fun k u => (LeavesLanes.runRestart u _ args k).kept⟩
  | grantAtSymbolBoundary side t => exact ⟨_, rfl, State.grant_lanesKept side (later t)⟩

/-- Settles O58: a step is the idle microsecond or the front command on the queue's rest; what does not leave the lanes and the block alone
ticks the watches, lends, renews or frees one, passes a slot, or stands at a block boundary, a load or a reset. -/
theorem everyStepKeepsLanesAndSums : Obligations.EveryStepKeepsLanesAndSums := by
  intro s u lanes sums h
  have kept : s.lanesKept := ⟨lanes, sums⟩
  unfold step at h; split at h
  next =>
    obtain rfl := Host.Outcome.next.inj h
    unfold State.idle; split
    · exact State.elapse_lanesKept _ _ kept
    · exact kept
  next c rest _ =>
    obtain ⟨v, taken, sound⟩ := exec_lanesKept c (s := { s with pending := rest }) kept
    obtain rfl := Host.Outcome.next.inj (taken.symm.trans h)
    exact sound

end Sys2Proof.Machine
end

section
/-! SUPPORT. Requests executed at once, and the watches of TCR (R63, R66 to R71): expiry, drop, renewal and allocation. It settles O41, O49
and O50. -/

namespace Sys2Proof.Machine
open Sys2Proof

/-! ### A watch or a claim that runs out (R70, R94) -/

/-- R63, R70, R71: the lane table with the watch that holds lane i freed. -/
def watchFreed (lanes : Vector Lane 16) (i : Fin 16) : Vector Lane 16 :=
  .ofFn fun j => if inWatch lanes i j then lanes[j].freed else lanes[j]

theorem State.freeWatch_eq {s : State} (i : Fin 16) (running : s.running = true) :
    s.freeWatch i = State.withNotice { s with tcr := watchFreed s.tcr i } .tone :=
  State.askNotice_eq _ _ _ (by exact running)

/-- R63: what the table says of the lanes of a watch that has become FREE, and of the others. -/
theorem watchFreed_lane (lanes : Vector Lane 16) (i j : Fin 16) :
    (j = i ∨ lanes[i].partner = some j →
      (watchFreed lanes i)[j].state = .free ∧ (watchFreed lanes i)[j].owner = .absent ∧ (watchFreed lanes i)[j].bin = none ∧
        (watchFreed lanes i)[j].partner = none ∧ (watchFreed lanes i)[j].combine = none ∧ (watchFreed lanes i)[j].remaining = none ∧
        (watchFreed lanes i)[j].present = false ∧ (watchFreed lanes i)[j].lastPower = none ∧ (watchFreed lanes i)[j].limit = false ∧
        (watchFreed lanes i)[j].x = 0 ∧ (watchFreed lanes i)[j].y = 0 ∧ (watchFreed lanes i)[j].phase = 0) ∧
    (¬ (j = i ∨ lanes[i].partner = some j) → (watchFreed lanes i)[j] = lanes[j]) := by
  rw [watchFreed, freeWatch_get]
  refine ⟨fun watch => ?_, fun outside => if_neg outside⟩
  rw [if_pos watch]
  exact ⟨rfl, rfl, rfl, rfl, rfl, rfl, rfl, rfl, rfl, rfl, rfl, rfl⟩

/-- Settles O41: the guard of each expiry is what the statement supposes; in RUNNING the notice is asked for. -/
theorem watchAndClaimExpire : Obligations.WatchAndClaimExpire := by
  refine ⟨fun i w s running pool lent due => ⟨watchFreed s.tcr i, ?_, watchFreed_lane s.tcr i⟩, fun s running held due => ?_⟩
  · have isDue : (s.tcr[i].remaining.map (·.due)).getD false = true := by rw [lent]; exact due
    have expires : s.watchExpiry i = s.freeWatch i := if_pos (by rw [isDue]; simp [running, pool])
    exact congrArg Host.Outcome.next (expires.trans (s.freeWatch_eq i running))
  · have expires : s.testExpiry = State.askNotice .test false { s with ttg := .free } := if_pos (by simp [running, held, due])
    exact congrArg Host.Outcome.next (expires.trans (State.askNotice_eq _ _ _ (by exact running)))

/-! ### A request executed at once (R161 to R163) -/

/-- R161 to R163: a request that takes slot k, changes s to u as it executes, and completes at once. -/
theorem exec_answered {c : Instr} {rq : RequestHead} {body results : List Byte} {t : Stamp} {k : Fin 6} {s₀ s u : State} {status : Status}
    (request : requestOf c = some (rq, body, t)) (now : s = s₀.moment t) (able : s.canAnswer k)
    (ran : runOf c k (s.requestIn k rq body) = (u.requestIn k rq body, .done status results)) (ports : u.isUp = s.isUp) :
    exec c s₀ = .next (u.answered k rq body (answerBody status body.head? results)) := by
  obtain ⟨running, stationed, free, lowest, up⟩ := able
  rw [exec_request request, ← now, State.takeRequest_done running stationed free lowest ran, State.complete_requestIn k rq]
  rwa [ports]

/-! ### TONE_DROP (R71) -/

section
variable {n : Byte} {i : Fin 16}

theorem byteArg_of_toNat (named : n.toNat = i.val) : byteArg 16 [n] = some i := by
  have value : n = BitVec.ofNat 8 i.val := BitVec.eq_of_toNat_eq (by
    rw [BitVec.toNat_ofNat, named]
    have := i.isLt
    omega)
  rw [value]
  exact byteArg_ofNat (by decide) i

variable {s : State} (requester : Byte) (k : Fin 6) (named : n.toNat = i.val)
include named

theorem runToneDrop_automatic (low : i.val < 8) : runToneDrop requester [n] k s = (s, .done .notOwner []) := by
  rw [runToneDrop, byteArg_of_toNat named]
  exact if_pos low

theorem runToneDrop_free (pool : 8 ≤ i.val) (free : s.tcr[i].state = .free) :
    runToneDrop requester [n] k s = (s, .done .notHeld []) := by
  rw [runToneDrop, byteArg_of_toNat named]
  exact (if_neg (Nat.not_lt.mpr pool)).trans (if_pos free)

theorem runToneDrop_foreign (pool : 8 ≤ i.val) (lent : s.tcr[i].state ≠ .free) (foreign : s.tcr[i].owner ≠ .station requester) :
    runToneDrop requester [n] k s = (s, .done .notOwner []) := by
  rw [runToneDrop, byteArg_of_toNat named]
  exact (if_neg (Nat.not_lt.mpr pool)).trans ((if_neg lent).trans (if_neg foreign))

theorem runToneDrop_own (pool : 8 ≤ i.val) (lent : s.tcr[i].state ≠ .free) (own : s.tcr[i].owner = .station requester) :
    runToneDrop requester [n] k s = (s.freeWatch i, .done .ok [byte i.val]) := by
  rw [runToneDrop, byteArg_of_toNat named]
  exact (if_neg (Nat.not_lt.mpr pool)).trans ((if_neg lent).trans (if_pos own))

end

/-- Settles O50: the branches of a TONE_DROP in the order in which R71's table is tried. -/
theorem toneDropFreesOwnWatch : Obligations.ToneDropFreesOwnWatch := by
  intro rq n t k s₀ s now able
  have answered {u : State} {status : Status} {results : List Byte}
      (ran : runToneDrop rq.requester [n] k (s.requestIn k rq [21, n]) = (u.requestIn k rq [21, n], .done status results))
      (ports : u.isUp = s.isUp) := exec_answered (c := .toneDrop rq [n] t) rfl now able ran ports
  refine ⟨fun outside => ?_, fun i named => ⟨fun low => ?_, fun pool free => ?_, fun pool lent foreign => ?_, fun pool lent own => ?_⟩⟩
  · have absent : byteArg 16 [n] = none := byteArg_eq_none (.inr outside)
    exact answered (status := .badArgument) (by rw [runToneDrop, absent]) rfl
  · exact answered (runToneDrop_automatic rq.requester k named low) rfl
  · exact answered (runToneDrop_free rq.requester k named pool (by exact free)) rfl
  · exact answered (runToneDrop_foreign rq.requester k named pool (by exact lent) (by exact foreign)) rfl
  · refine ⟨watchFreed s.tcr i, ?_, watchFreed_lane s.tcr i⟩
    have ran := runToneDrop_own (s := s.requestIn k rq [21, n]) rq.requester k named pool (by exact lent) (by exact own)
    have value : byte i.val = n := by rw [byte, ← named, BitVec.ofNat_toNat, BitVec.setWidth_eq]
    rw [State.freeWatch_eq i (by exact able.1), value] at ran
    exact answered (u := State.withNotice { s with tcr := watchFreed s.tcr i } .tone) ran rfl

/-! ### The arguments of a TONE_WATCH (R66) -/

theorem val16_be16 {n : Nat} (small : n < 65536) : val16 (BitVec.ofNat 8 (n / 256)) (BitVec.ofNat 8 n) = n := by
  rw [val16, BitVec.toNat_ofNat, BitVec.toNat_ofNat]
  omega

theorem Combine.ofCode_code (mode : Combine) : Combine.ofCode (BitVec.ofNat 8 mode.code).toNat = some mode := by
  cases mode <;> rfl

section
variable {ch : Fin 8} {bin bin2 secs : Nat} {mode : Combine}

theorem watchCommon_accepts (lowBin : 1 ≤ bin) (highBin : bin ≤ 511) (low : 10 ≤ secs) (high : secs ≤ 3600) :
    watchCommon (BitVec.ofNat 8 ch.val) bin secs = some ch := by
  have value : (BitVec.ofNat 8 ch.val).toNat = ch.val := by
    rw [BitVec.toNat_ofNat]
    have := ch.isLt
    omega
  simp only [watchCommon, value, ch.isLt, dite_true]
  exact if_pos ⟨lowBin, highBin, low, high⟩

theorem watchArgs_single (lowBin : 1 ≤ bin) (highBin : bin ≤ 511) (low : 10 ≤ secs) (high : secs ≤ 3600) :
    watchArgs (BitVec.ofNat 8 ch.val :: (be16 bin ++ be16 secs)) =
      some { channel := ch, bin := bin, second := none, secs := secs } := by
  simp only [be16, List.cons_append, List.nil_append, watchArgs]
  rw [val16_be16 (by omega), val16_be16 (by omega), watchCommon_accepts lowBin highBin low high]
  rfl

theorem watchArgs_pair (lowBin : 1 ≤ bin) (highBin : bin ≤ 511) (low : 10 ≤ secs) (high : secs ≤ 3600) (lowBin2 : 1 ≤ bin2)
    (highBin2 : bin2 ≤ 511) (other : bin2 ≠ bin) :
    watchArgs (BitVec.ofNat 8 ch.val :: (be16 bin ++ be16 bin2 ++ [BitVec.ofNat 8 mode.code] ++ be16 secs)) =
      some { channel := ch, bin := bin, second := some (bin2, mode), secs := secs } := by
  simp only [be16, List.cons_append, List.nil_append, watchArgs]
  rw [val16_be16 (by omega), val16_be16 (by omega), val16_be16 (by omega), watchCommon_accepts lowBin highBin low high,
    Combine.ofCode_code]
  exact if_pos ⟨lowBin2, highBin2, other⟩

end

/-! ### The watch that is matched, and the lowest lane or pair position (R67 to R69) -/

theorem find?_finRange {n : Nat} {test : Fin n → Bool} {i : Fin n} (holds : test i = true) (lowest : ∀ j : Fin n, j < i → test j = false) :
    (List.finRange n).find? test = some i := by
  refine List.find?_eq_some_iff_getElem.mpr ⟨holds, i.val, by simp, by simp, fun j below => ?_⟩
  rw [List.getElem_finRange, lowest _ (Fin.lt_def.mpr below)]
  rfl

theorem find?_finRange_none {n : Nat} {test : Fin n → Bool} (fails : ∀ j : Fin n, test j = false) :
    (List.finRange n).find? test = none :=
  List.find?_eq_none.mpr fun j _ => by simp [fails j]

/-- A test that holds of one index alone. -/
theorem find?_finRange_unique {n : Nat} {test : Fin n → Bool} {i : Fin n} (holds : test i = true)
    (only : ∀ j : Fin n, test j = true → j = i) : (List.finRange n).find? test = some i :=
  find?_finRange holds fun j below => by
    rw [← Bool.not_eq_true]
    exact fun other => absurd (only j other) (ne_of_lt below)

theorem matchesWatch_single {lanes : Vector Lane 16} {requester : Byte} {a : WatchArgs} (single : a.second = none) (i : Fin 16) :
    matchesWatch lanes requester a i = true ↔
      8 ≤ i.val ∧ lanes[i].state ≠ .free ∧ lanes[i].owner = .station requester ∧ lanes[i].channel = a.channel ∧
        lanes[i].bin = some a.bin ∧ lanes[i].partner = none := by
  simp only [matchesWatch, single, Bool.and_eq_true, decide_eq_true_eq, bne_iff_ne, and_assoc]

theorem matchesWatch_pair {lanes : Vector Lane 16} {requester : Byte} {a : WatchArgs} {bin2 : Nat} {mode : Combine}
    (pair : a.second = some (bin2, mode)) (i : Fin 16) :
    matchesWatch lanes requester a i = true ↔
      8 ≤ i.val ∧ lanes[i].state ≠ .free ∧ lanes[i].owner = .station requester ∧ lanes[i].channel = a.channel ∧
        lanes[i].bin = some a.bin ∧ i.val % 2 = 0 ∧ lanes[i].partner = some (nextLane i) ∧ lanes[i].combine = some mode ∧
          lanes[nextLane i].bin = some bin2 := by
  simp only [matchesWatch, pair, Bool.and_eq_true, decide_eq_true_eq, bne_iff_ne, and_assoc]

/-- R68: the second lane of a pair position. -/
theorem nextLane_iff {i j : Fin 16} (even : i.val % 2 = 0) : j = nextLane i ↔ j.val = i.val + 1 := by
  rw [Fin.ext_iff, nextLane_val even]

theorem freePair_iff (lanes : Vector Lane 16) (i : Fin 16) :
    (i.val % 2 = 0 && poolFree lanes i && poolFree lanes (nextLane i)) = true ↔
      8 ≤ i.val ∧ i.val % 2 = 0 ∧ lanes[i].state = .free ∧ lanes[nextLane i].state = .free := by
  simp only [Bool.and_eq_true, decide_eq_true_eq, poolFree_iff]
  constructor
  · rintro ⟨⟨even, pool, free⟩, -, free'⟩
    exact ⟨pool, even, free, free'⟩
  · rintro ⟨pool, even, free, free'⟩
    exact ⟨⟨even, pool, free⟩, by rw [nextLane_val even]; omega, free'⟩

/-! ### TONE_WATCH (R67 to R69) -/

section
variable {s : State} {a : WatchArgs} {i : Fin 16} {requester : Byte}

theorem State.toneWatch_renews (matched : matchingWatch s.tcr requester a = some i) :
    s.toneWatch requester a = ({ s with tcr := renewed s.tcr i a.secs }, some i) := by
  simp only [State.toneWatch, matched]

theorem State.toneWatch_allocates (running : s.running = true) (unmatched : matchingWatch s.tcr requester a = none)
    (found : (if a.second.isSome then freePair s.tcr else freeLane s.tcr) = some i) :
    s.toneWatch requester a =
      (State.withNotice { s with tcr := allocate s.tcr requester a s.settings.poolOn s.settings.poolOff i } .tone, some i) := by
  simp only [State.toneWatch, unmatched, found]
  exact congrArg (·, some i) (State.askNotice_eq _ _ _ (by exact running))

theorem State.toneWatch_noLane (unmatched : matchingWatch s.tcr requester a = none)
    (full : (if a.second.isSome then freePair s.tcr else freeLane s.tcr) = none) : s.toneWatch requester a = (s, none) := by
  simp only [State.toneWatch, unmatched, full]

end

section
variable {rq : RequestHead} {args : List Byte} {t : Stamp} {k : Fin 6} {s₀ s : State} {a : WatchArgs} {i : Fin 16}
  (accepted : watchArgs args = some a) (now : s = s₀.moment t) (able : s.canAnswer k)
include accepted now able

/-- R69: a TONE_WATCH that its requester's watch at lane i matches. -/
theorem exec_toneWatch_renews (matched : matchingWatch s.tcr rq.requester a = some i) :
    exec (.toneWatch rq args t) s₀ =
      .next (State.answered { s with tcr := renewed s.tcr i a.secs } k rq (20 :: args) [0, 20, BitVec.ofNat 8 i.val]) := by
  have renews := State.toneWatch_renews (s := s.requestIn k rq (20 :: args)) (by exact matched)
  refine exec_answered (c := .toneWatch rq args t) (status := .ok) (results := [byte i.val])
    (u := { s with tcr := renewed s.tcr i a.secs }) rfl now able ?_ rfl
  simp only [runOf, runToneWatch, accepted, renews]
  rfl

/-- R67, R68: a TONE_WATCH that no watch matches, while lane or pair position i is the lowest FREE one. -/
theorem exec_toneWatch_allocates (unmatched : matchingWatch s.tcr rq.requester a = none)
    (found : (if a.second.isSome then freePair s.tcr else freeLane s.tcr) = some i) :
    exec (.toneWatch rq args t) s₀ =
      .next (State.answered
        (State.withNotice { s with tcr := allocate s.tcr rq.requester a s.settings.poolOn s.settings.poolOff i } .tone)
        k rq (20 :: args) [0, 20, BitVec.ofNat 8 i.val]) := by
  have allocates := State.toneWatch_allocates (s := s.requestIn k rq (20 :: args)) (by exact able.1) (by exact unmatched) (by exact found)
  refine exec_answered (c := .toneWatch rq args t) (status := .ok) (results := [byte i.val])
    (u := State.withNotice { s with tcr := allocate s.tcr rq.requester a s.settings.poolOn s.settings.poolOff i } .tone) rfl now able ?_ rfl
  simp only [runOf, runToneWatch, accepted, allocates]
  rfl

/-- R67, R68: a TONE_WATCH that no watch matches, while no lane or pair position is FREE. -/
theorem exec_toneWatch_noLane (unmatched : matchingWatch s.tcr rq.requester a = none)
    (full : (if a.second.isSome then freePair s.tcr else freeLane s.tcr) = none) :
    exec (.toneWatch rq args t) s₀ = .next (s.answered k rq (20 :: args) [4, 20]) := by
  have noLane := State.toneWatch_noLane (s := s.requestIn k rq (20 :: args)) (by exact unmatched) (by exact full)
  refine exec_answered (c := .toneWatch rq args t) (status := .noLane) (results := []) rfl now able ?_ rfl
  simp only [runOf, runToneWatch, accepted, noLane]

end

/-- R69: the renewal of a single watch touches its lane alone. -/
theorem renewed_single {lanes : Vector Lane 16} {i : Fin 16} (alone : lanes[i].partner = none) (secs : Nat) :
    renewed lanes i secs = lanes.set i.val { lanes[i] with remaining := some (.ofSecs secs) } i.isLt := by
  ext j hj : 1
  have renewedAt := renewed_get lanes i ⟨j, hj⟩ secs
  rw [alone] at renewedAt
  refine renewedAt.trans ?_
  rw [Vector.getElem_set]
  by_cases same : i.val = j
  · subst same
    simp
  · rw [if_neg same, if_neg]
    · rfl
    · simpa [Fin.ext_iff] using fun h : j = i.val => same h.symm

/-- Settles O49: single and pair watches take the same three ways; what is left to say is which lane the search finds, and what the table
then holds. -/
theorem toneWatchTakesLane : Obligations.ToneWatchTakesLane := by
  intro rq ch bin secs t k s₀ s now able lowBin highBin low high
  refine ⟨fun args single argsEq single_iff => ?single, fun bin2 mode args pair lowBin2 highBin2 other argsEq pair_iff => ?pair⟩
  case single =>
    subst argsEq
    have accepted := watchArgs_single (ch := ch) lowBin highBin low high
    have matched (i : Fin 16) : matchesWatch s.tcr rq.requester ⟨ch, bin, none, secs⟩ i = true ↔ single i :=
      (matchesWatch_single rfl i).trans (single_iff i).symm
    refine ⟨fun i own only => ?_, fun noWatch => ?_⟩
    · have found : matchingWatch s.tcr rq.requester ⟨ch, bin, none, secs⟩ = some i :=
        find?_finRange_unique ((matched i).mpr own) fun j h => only j ((matched j).mp h)
      obtain ⟨-, -, -, -, -, alone⟩ := (single_iff i).mp own
      have renews := exec_toneWatch_renews accepted now able found
      rwa [renewed_single alone] at renews
    · have unmatched : matchingWatch s.tcr rq.requester ⟨ch, bin, none, secs⟩ = none :=
        find?_finRange_none fun j => Bool.eq_false_iff.mpr fun h => noWatch j ((matched j).mp h)
      refine ⟨fun i pool free lowest => ?_, fun full => ?_⟩
      · have found : freeLane s.tcr = some i := find?_finRange ((poolFree_iff _ _).mpr ⟨pool, free⟩) fun j below =>
          Bool.eq_false_iff.mpr fun h => lowest j ((poolFree_iff _ _).mp h).1 below ((poolFree_iff _ _).mp h).2
        refine ⟨_, exec_toneWatch_allocates accepted now able unmatched found, ?_, fun j beside => ?_⟩
        · rw [allocate_single rfl, if_pos rfl]
          rfl
        · rw [allocate_single rfl, if_neg beside.symm]
      · have noneFree : freeLane s.tcr = none :=
          find?_finRange_none fun j => Bool.eq_false_iff.mpr fun h => full j ((poolFree_iff _ _).mp h).1 ((poolFree_iff _ _).mp h).2
        exact exec_toneWatch_noLane accepted now able unmatched noneFree
  case pair =>
    subst argsEq
    have accepted := watchArgs_pair (ch := ch) (mode := mode) lowBin highBin low high lowBin2 highBin2 other
    have matched (i : Fin 16) : matchesWatch s.tcr rq.requester ⟨ch, bin, some (bin2, mode), secs⟩ i = true ↔ pair i (nextLane i) := by
      rw [matchesWatch_pair rfl, pair_iff]
      constructor
      · rintro ⟨pool, lent, owner, channel, first, even, rest⟩
        exact ⟨pool, even, nextLane_val even, lent, owner, channel, first, rest⟩
      · rintro ⟨pool, even, -, lent, owner, channel, first, rest⟩
        exact ⟨pool, lent, owner, channel, first, even, rest⟩
    refine ⟨fun i j own only => ?_, fun noWatch => ?_⟩
    · obtain ⟨-, even, position, -, -, -, -, mate, -⟩ := (pair_iff i j).mp own
      obtain rfl := (nextLane_iff even).mpr position
      have found : matchingWatch s.tcr rq.requester ⟨ch, bin, some (bin2, mode), secs⟩ = some i :=
        find?_finRange_unique ((matched i).mpr own) fun l h => only l _ ((matched l).mp h)
      refine ⟨_, exec_toneWatch_renews accepted now able found, fun l => ?_⟩
      rw [renewed_get, mate]
      simp only [Option.some.injEq, eq_comm (a := nextLane i)]
      rfl
    · have unmatched : matchingWatch s.tcr rq.requester ⟨ch, bin, some (bin2, mode), secs⟩ = none :=
        find?_finRange_none fun l => Bool.eq_false_iff.mpr fun h => noWatch l _ ((matched l).mp h)
      refine ⟨fun i j pool even position free free' lowest => ?_, fun full => ?_⟩
      · obtain rfl := (nextLane_iff even).mpr position
        have found : freePair s.tcr = some i :=
          find?_finRange ((freePair_iff _ _).mpr ⟨pool, even, free, free'⟩) fun l below => Bool.eq_false_iff.mpr fun h => by
            obtain ⟨pool, even, free, free'⟩ := (freePair_iff _ _).mp h
            exact (lowest l _ pool even (nextLane_val even) below).elim (· free) (· free')
        have apart : nextLane i ≠ i := fun same => by have := congrArg Fin.val same; omega
        refine ⟨_, exec_toneWatch_allocates accepted now able unmatched found, ?_, ?_, fun l beside beside' => ?_⟩
        · rw [allocate_pair rfl, if_neg apart, if_pos rfl]
          rfl
        · rw [allocate_pair rfl, allocate_pair rfl, if_pos rfl, if_neg apart, if_pos rfl]
          rfl
        · rw [allocate_pair rfl, if_neg beside'.symm, if_neg beside.symm]
      · have noneFree : freePair s.tcr = none :=
          find?_finRange_none fun l => Bool.eq_false_iff.mpr fun h => by
            obtain ⟨pool, even, free, free'⟩ := (freePair_iff _ _).mp h
            exact (full l _ pool even (nextLane_val even)).elim (· free) (· free')
        exact exec_toneWatch_noLane accepted now able unmatched noneFree

end Sys2Proof.Machine
end

section
/-! SUPPORT. What one tap sample does to the lanes, the sums and the loss runs (R74, R98, R99). It settles O23. -/

namespace Sys2Proof.Machine
open Sys2Proof

theorem State.monitored_iff (s : State) (p : Fin 4) : s.monitored p = true ↔ s.kind p ≠ .unused := by
  rw [State.monitored, PathKind.bne_unused, decide_eq_true_eq]

/-- R99: the loss comparator of the path whose input tap gave the sample, if any did. -/
def State.lossCompared (s : State) (ch : Fin 8) (code : Nat) (t : Stamp) : State :=
  if h : ch.val < 4 then s.compareLoss ⟨ch.val, h⟩ code t else s

/-- R99: the loss run of path p after a sample of channel ch. -/
def State.runSampled (s : State) (p : Fin 4) (ch : Fin 8) (code : Nat) : Nat :=
  if ch.val = p.val ∧ s.kind p ≠ .unused then s.pmn[p].runAfter s.settings.paths[p] code else s.pmn[p].lossRun

/-- R99, R100: what stands of the record of path p when the comparator has taken a sample of channel ch: all but the loss run, and the input
state with its stamp. -/
def State.samples (s u : State) (p : Fin 4) (ch : Fin 8) (code : Nat) : Prop :=
  ∃ input stamp, u.pmn[p] = { s.pmn[p] with lossRun := s.runSampled p ch code, input := input, lossStamp := stamp }

theorem State.samples_of_other {s u : State} {p : Fin 4} {ch : Fin 8} (code : Nat) (same : u.pmn[p] = s.pmn[p])
    (other : ¬ (ch.val = p.val ∧ s.kind p ≠ .unused)) : s.samples u p ch code := by
  have stands : s.runSampled p ch code = s.pmn[p].lossRun := if_neg other
  refine ⟨s.pmn[p].input, s.pmn[p].lossStamp, ?_⟩
  rw [stands]
  exact same

/-- R99, R100: the comparator of path q touches nothing but path records, pilots, verdicts and SNQ. -/
theorem State.compareLoss_path (s : State) {q : Fin 4} {ch : Fin 8} (tap : ch.val = q.val) (code : Nat) (t : Stamp) (p : Fin 4) :
    PathsStep s (s.compareLoss q code t) ∧ s.samples (s.compareLoss q code t) p ch code := by
  cases monitored : s.monitored q with
  | false =>
    rw [s.compareLoss_unmonitored _ _ _ monitored]
    refine ⟨.refl s, s.samples_of_other code rfl fun ⟨own, used⟩ => ?_⟩
    obtain rfl := Fin.ext (tap.symm.trans own)
    rw [(s.monitored_iff q).mpr used] at monitored
    cases monitored
  | true =>
    obtain ⟨input, stamp, _, step⟩ := PathStep.compareLoss s q code t monitored
    by_cases own : q = p
    · subst own
      have counts : s.runSampled q ch code = s.pmn[q].runAfter s.settings.paths[q] code := if_pos ⟨tap, (s.monitored_iff q).mp monitored⟩
      refine ⟨step.paths, input, stamp, ?_⟩
      rw [counts]
      exact step.record
    · obtain ⟨paths, record, -⟩ := step.beside own
      exact ⟨paths, s.samples_of_other code record fun h => own (Fin.ext (tap.symm.trans h.1))⟩

theorem State.lossCompared_path (s : State) (ch : Fin 8) (code : Nat) (t : Stamp) (p : Fin 4) :
    PathsStep s (s.lossCompared ch code t) ∧ s.samples (s.lossCompared ch code t) p ch code := by
  by_cases tap : ch.val < 4
  · have compared : s.lossCompared ch code t = s.compareLoss ⟨ch.val, tap⟩ code t := dif_pos tap
    rw [compared]
    exact s.compareLoss_path rfl code t p
  · have stands : s.lossCompared ch code t = s := dif_neg tap
    rw [stands]
    exact ⟨.refl s, s.samples_of_other code rfl fun h => tap (h.1 ▸ p.isLt)⟩

/-- R74, R98, R99: a tap sample in its slot. -/
theorem State.tapSample_eq {s : State} {ch : Fin 8} (code : Code) (t : Stamp) (here : s.atSlot ch.castSucc = true) :
    s.tapSample ch code t = ((s.sampled ch code).lossCompared ch code.toNat t).settleAlarms :=
  if_pos here

/-- Settles O23: the sample is accumulated and summed (`State.sampled`), then the loss comparator of its path takes it. -/
theorem tapSampleAccumulates : Obligations.TapSampleAccumulates := by
  intro ch code t s₀ s now running scanning block slot
  have here : s.atSlot ch.castSucc = true := (s.atSlot_iff _).mpr ⟨running, scanning, block, Fin.ext slot⟩
  have run : exec (.tapSample ch code t) s₀ = .next (s.tapSample ch code t) := by
    rw [now]
    rfl
  have compared := State.lossCompared_path (s.sampled ch code) ch code.toNat t
  obtain ⟨_, _, _, _, changes⟩ := (compared 0).1
  rw [State.tapSample_eq code t here, State.settleAlarms_eq] at run
  refine ⟨_, run, fun i => ?lane, fun p => ?path, ?_⟩
  case lane =>
    rw [changes]
    simp only [State.sampled, each_get, Lane.accumulate, Bool.and_eq_true, decide_eq_true_eq]
  case path =>
    obtain ⟨_, input, stamp, record⟩ := compared p
    have before : (s.sampled ch code).pmn[p] = _ := addSample_get ch code.toNat s.pmn p
    rw [before] at record
    have counts : (s.sampled ch code).runSampled p ch code.toNat = s.runSampled p ch code.toNat := by
      simp only [State.runSampled, before]
      rfl
    rw [record, counts]
    exact ⟨rfl, rfl, rfl, rfl, rfl, rfl, rfl, rfl⟩
  all_goals
    rw [changes]
    exact ⟨rfl, rfl, rfl, rfl, rfl, rfl, rfl, rfl, rfl, rfl, rfl⟩

end Sys2Proof.Machine
end

section
/-! SUPPORT. The tables C and S, and a constant tap over a block (R75, R76). It settles O25. -/

namespace Sys2Proof.Machine
open Sys2Proof

/-! ### The table S quarter by quarter -/

/-- R75: the first quarter of S, S[0] to S[256]. -/
def quarterSine (j : Nat) : Int := sineQuarter.getD j 0

theorem quarterSine_zero : quarterSine 0 = 0 := rfl

section
variable {m : Nat}

theorem sinTable_first (high : m % 1024 ≤ 256) : sinTable m = quarterSine (m % 1024) := if_pos high

theorem sinTable_second (low : 256 ≤ m % 1024) (high : m % 1024 ≤ 512) : sinTable m = quarterSine (512 - m % 1024) := by
  rcases Nat.eq_or_lt_of_le low with peak | past
  · rw [sinTable_first (by omega), ← peak]
  · exact (if_neg (by omega)).trans (if_pos high)

theorem sinTable_third (low : 512 ≤ m % 1024) (high : m % 1024 ≤ 768) : sinTable m = -quarterSine (m % 1024 - 512) := by
  rcases Nat.eq_or_lt_of_le low with crossing | past
  · rw [sinTable_second (by omega) (by omega), ← crossing]
    rfl
  · exact (if_neg (by omega)).trans ((if_neg (by omega)).trans (if_pos high))

theorem sinTable_fourth (low : 768 ≤ m % 1024) : sinTable m = -quarterSine (1024 - m % 1024) := by
  rcases Nat.eq_or_lt_of_le low with trough | past
  · rw [sinTable_third (by omega) (by omega), ← trough]
  · exact (if_neg (by omega)).trans ((if_neg (by omega)).trans (if_neg (by omega)))

end

theorem sinTable_congr {m n : Nat} (same : m % 1024 = n % 1024) : sinTable m = sinTable n := by
  unfold sinTable
  rw [same]

/-- R75: half a turn on, S changes its sign. -/
theorem sinTable_add_half (m : Nat) : sinTable (m + 512) = -sinTable m := by
  rcases Nat.lt_or_ge (m % 1024) 512 with firstHalf | secondHalf
  · have later : (m + 512) % 1024 = m % 1024 + 512 := by omega
    rcases Nat.le_total (m % 1024) 256 with rising | falling
    · rw [sinTable_first rising, sinTable_third (by omega) (by omega), later, Nat.add_sub_cancel]
    · rw [sinTable_second falling (by omega), sinTable_fourth (by omega), later, Nat.add_comm, Nat.sub_add_eq]
  · have wrapped : (m + 512) % 1024 = m % 1024 - 512 := by omega
    rcases Nat.le_total (m % 1024) 768 with falling | rising
    · rw [sinTable_third secondHalf falling, sinTable_first (by omega), wrapped, Int.neg_neg]
    · rw [sinTable_fourth rising, sinTable_second (by omega) (by omega), wrapped, Int.neg_neg]
      exact congrArg quarterSine (by omega)

theorem cosTable_congr {m n : Nat} (same : m % 1024 = n % 1024) : cosTable m = cosTable n := sinTable_congr (by omega)

theorem cosTable_add_half (m : Nat) : cosTable (m + 512) = -cosTable m := by
  rw [cosTable, Nat.add_right_comm, sinTable_add_half]
  rfl

/-! ### A block of one code (R76) -/

/-- A sum over a whole period is the same from every start. -/
theorem sum_range_shift {n : Nat} {g : Nat → Int} (period : ∀ k, g (k + n) = g k) (d : Nat) :
    ∑ k ∈ Finset.range n, g (k + d) = ∑ k ∈ Finset.range n, g k := by
  induction d with
  | zero => rfl
  | succ d ih =>
    have front := Finset.sum_range_succ' (fun k => g (k + d)) n
    have back := Finset.sum_range_succ (fun k => g (k + d)) n
    have ends : g (n + d) = g (0 + d) := by rw [Nat.add_comm n, period, Nat.zero_add]
    have steps : ∑ k ∈ Finset.range n, g (k + (d + 1)) = ∑ k ∈ Finset.range n, g (k + 1 + d) :=
      Finset.sum_congr rfl fun k _ => congrArg g (by omega)
    rw [steps, ← ih]
    omega

/-- A bin 1 to 511 has a multiple that is half a turn. -/
theorem exists_half_turn {bin : Nat} (low : 1 ≤ bin) (high : bin ≤ 511) : ∃ d, d * bin % 1024 = 512 := by
  obtain ⟨e, m, ⟨j, odd⟩, split⟩ := Nat.exists_eq_two_pow_mul_odd (n := bin) (by omega)
  have positive : 1 ≤ m := by omega
  have small : 2 ^ e < 2 ^ 9 := by
    have := Nat.le_mul_of_pos_right (2 ^ e) positive
    omega
  have exponent : e < 9 := (Nat.pow_lt_pow_iff_right (by decide)).mp small
  refine ⟨2 ^ (9 - e), ?_⟩
  have whole : 2 ^ (9 - e) * bin = 512 * m := by
    rw [split, ← Nat.mul_assoc, ← Nat.pow_add, Nat.sub_add_cancel (Nat.le_of_lt exponent)]
  omega

/-- R76: over a block, a table that changes its sign half a turn on sums to 0 along every bin. -/
theorem sum_table {table : Nat → Int} (congr : ∀ m n, m % 1024 = n % 1024 → table m = table n) (half : ∀ m, table (m + 512) = -table m)
    {bin : Nat} (low : 1 ≤ bin) (high : bin ≤ 511) : ∑ k ∈ Finset.range 1024, table (k * bin) = 0 := by
  obtain ⟨d, turn⟩ := exists_half_turn low high
  have shifted : ∑ k ∈ Finset.range 1024, table ((k + d) * bin) = ∑ k ∈ Finset.range 1024, table (k * bin) :=
    sum_range_shift (g := fun k => table (k * bin)) (fun k => congr _ _ (by rw [Nat.add_mul]; omega)) d
  have negated : ∑ k ∈ Finset.range 1024, table ((k + d) * bin) = -∑ k ∈ Finset.range 1024, table (k * bin) := by
    rw [← Finset.sum_neg_distrib]
    refine Finset.sum_congr rfl fun k _ => ?_
    rw [← half]
    exact congr _ _ (by rw [Nat.add_mul]; omega)
  omega

/-- R74: a RUNNING lane after n samples of one code, from phase 0. -/
theorem Lane.accumulate_repeat {l : Lane} {bin : Nat} (code : Nat) (running : l.state = .running) (start : l.phase = 0)
    (tuned : l.bin = some bin) (n : Nat) :
    Nat.repeat (Lane.accumulate l.channel code) n l =
      { l with
        x := l.x + code * ∑ k ∈ Finset.range n, cosTable (k * bin)
        y := l.y + code * ∑ k ∈ Finset.range n, sinTable (k * bin)
        phase := n * bin % 1024 } := by
  induction n with
  | zero =>
    simp only [Nat.repeat, Finset.range_zero, Finset.sum_empty, Int.mul_zero, Int.add_zero, Nat.zero_mul, Nat.zero_mod]
    rw [← start]
  | succ n ih =>
    have cosine : cosTable (n * bin % 1024) = cosTable (n * bin) := cosTable_congr (Nat.mod_mod _ _)
    have sine : sinTable (n * bin % 1024) = sinTable (n * bin) := sinTable_congr (Nat.mod_mod _ _)
    have phase : (n * bin % 1024 + bin) % 1024 = (n + 1) * bin % 1024 := by rw [Nat.add_mul]; omega
    rw [Nat.repeat, ih, Lane.accumulate, if_pos (by simp [running])]
    simp only [tuned, Option.getD_some, cosine, sine, phase, Finset.sum_range_succ, Int.mul_add, Int.add_assoc]

/-- Settles O25: the tables are near by `table_nearest`; over a block a constant code meets each entry and, half a turn on, its negative. -/
theorem tablesRoundSinesAndConstantInputAddsNothing : Obligations.TablesRoundSinesAndConstantInputAddsNothing := by
  refine ⟨fun m turn => ?_, fun m _ => ⟨cosTable_add_half m, sinTable_add_half m⟩, by decide, by decide,
    fun l bin code running start tuned low high => ?_⟩
  · obtain ⟨cosine, sine⟩ := table_nearest m turn
    exact ⟨cosine, sine, cosTable_natAbs m, sinTable_natAbs m⟩
  · rw [Lane.accumulate_repeat code running start tuned, sum_table (fun _ _ => cosTable_congr) cosTable_add_half low high,
      sum_table (fun _ _ => sinTable_congr) sinTable_add_half low high]
    exact ⟨by simp, by simp, Nat.mul_mod_right _ _⟩

end Sys2Proof.Machine
end

section
/-! SUPPORT. What a block end does to the lanes and to the TONE notice (R77 to R79, R81). It settles O26. -/

namespace Sys2Proof.Machine
open Sys2Proof

/-! ### One lane (R77 to R79) -/

theorem limited_bounds (v : Int) : -32768 ≤ limited v ∧ limited v ≤ 32767 := by
  unfold limited
  omega

theorem isLimited_scaled (x : Int) : isLimited (scaled x) = decide (x ≥ 2147483648 ∨ x < -2147483648) := by
  rw [isLimited, Bool.eq_iff_iff, bne_iff_ne, decide_eq_true_eq, limited, scaled]
  omega

/-- R78: the tone power is the sum of two squares, and fits 31 bits and one. -/
theorem tonePower_eq (x y : Int) :
    (tonePower x y : Int) = limited (scaled x) * limited (scaled x) + limited (scaled y) * limited (scaled y) ∧
      tonePower x y ≤ 2147483648 := by
  have square (v : Int) : 0 ≤ limited v * limited v ∧ limited v * limited v ≤ 1073741824 := by
    obtain ⟨low, high⟩ := limited_bounds v
    constructor
    · exact mul_self_nonneg _
    · nlinarith
  obtain ⟨lowX, highX⟩ := square (scaled x)
  obtain ⟨lowY, highY⟩ := square (scaled y)
  unfold tonePower
  omega

theorem presentAfter_eq (before : Bool) (pt on off : Nat) :
    presentAfter before pt on off = if before then decide (¬ pt < off * 1024) else decide (pt ≥ on * 1024) := by
  simp only [presentAfter, Nat.not_lt, ge_iff_le]

/-- R77, R78: the evaluation of a RUNNING lane. -/
theorem Lane.evaluate_running {l : Lane} (running : l.state = .running) :
    l.evaluate = { l with
      limit := l.limit || isLimited (scaled l.x) || isLimited (scaled l.y)
      present := presentAfter l.present (tonePower l.x l.y) l.on l.off
      lastPower := some (tonePower l.x l.y), x := 0, y := 0, phase := 0 } :=
  if_pos running

section
variable (lanes : Vector Lane 16) (i : Fin 16)

/-- R78: a block end changes no lane that does not run. -/
theorem evaluateLanes_stopped (stopped : lanes[i].state ≠ .running) : (evaluateLanes lanes)[i] = lanes[i] := by
  have same : (each Lane.evaluate lanes)[i] = lanes[i] := by
    rw [each_get]
    exact if_neg stopped
  rw [evaluateLanes_get, combinedAt, same]
  split
  · exact if_neg fun h => stopped h.1
  · rfl

theorem evaluateLanes_present : (evaluateLanes lanes)[i].present = lanes[i].evaluate.present := by
  obtain ⟨_, e⟩ := evaluateLanes_eq lanes i
  rw [e]

/-- R79: the even lane of a RUNNING pair combines the two presences. -/
theorem evaluateLanes_combined {j : Fin 16} {mode : Combine} (running : lanes[i].state = .running) (even : i.val % 2 = 0)
    (partner : lanes[i].partner = some j) (combine : lanes[i].combine = some mode) :
    (evaluateLanes lanes)[i].combined = mode.result (evaluateLanes lanes)[i].present (evaluateLanes lanes)[j].present := by
  obtain ⟨state, -, -, -, partner', combine', -, -⟩ := lanes[i].evaluate_sameWatch
  rw [evaluateLanes_present, evaluateLanes_present, evaluateLanes_get, combinedAt]
  simp only [each_get]
  rw [combine', partner', combine, partner]
  dsimp only
  rw [if_pos ⟨state.trans running, even⟩]

end

/-! ### The TONE notice (R81) -/

theorem toneChanged_iff (before after : Vector Lane 16) :
    toneChanged before after = true ↔ ∃ i : Fin 16, 8 ≤ i.val ∧
      (after[i].present ≠ before[i].present ∨ after[i].combined ≠ before[i].combined ∨ after[i].limit ≠ before[i].limit) := by
  simp only [toneChanged, List.any_eq_true, List.mem_finRange, true_and, Bool.and_eq_true, decide_eq_true_eq, Bool.or_eq_true, bne_iff_ne,
    or_assoc, ne_comm]

/-- R81: SNQ after TCR's TONE request, if one is due, made on the queue q. -/
def State.toneAsked (s : State) (q : List Entry) : List Entry :=
  if toneChanged s.tcr (evaluateLanes s.tcr) then snqAsk (.notice .tone) false (s.isUp .west) (s.isUp .east) q else q

theorem PathsStep.queue {s u : State} (h : PathsStep s u) :
    (∃ paths, u.snq = askPaths s.isUp paths s.snq) ∧ u.isUp = s.isUp ∧ u.running = s.running := by
  obtain ⟨_, _, _, paths, rfl⟩ := h
  exact ⟨⟨paths, rfl⟩, rfl, rfl⟩

theorem State.tcrBlockEnd_snq {s : State} (running : s.running = true) :
    ∃ paths, s.tcrBlockEnd.snq = askPaths s.isUp paths (s.toneAsked s.snq) := by
  obtain ⟨q, evaluated, asked⟩ := s.lanesEvaluated_eq
  obtain ⟨⟨paths, queue⟩, -, -⟩ := (s.tcrBlockEnd_path 0).1.queue
  rw [evaluated, asked running] at queue
  exact ⟨paths, queue⟩

/-- R81: in both orders of TCR and PMN the TONE request is the only one beside those for PATH notices. -/
theorem State.bothEnded_snq {s : State} (pmnFirst : Bool) (t : Stamp) (running : s.running = true) :
    ∃ before after, (s.bothEnded pmnFirst t).snq = askPaths s.isUp after (s.toneAsked (askPaths s.isUp before s.snq)) := by
  unfold State.bothEnded; split
  · have ended := (s.pmnBlockEnd_path t 0).1
    obtain ⟨⟨before, queue⟩, up, still⟩ := ended.queue
    obtain ⟨after, asked⟩ := State.tcrBlockEnd_snq (still.trans running)
    refine ⟨before, after, ?_⟩
    rw [asked, queue, up, State.toneAsked, ended.tcr, up]
    rfl
  · obtain ⟨first, asked⟩ := State.tcrBlockEnd_snq running
    obtain ⟨_, _, _, changes⟩ := s.tcrBlockEnd_changes
    obtain ⟨⟨second, queue⟩, -, -⟩ := (s.tcrBlockEnd.pmnBlockEnd_path t 0).1.queue
    have up : s.tcrBlockEnd.isUp = s.isUp := by
      rw [changes]
      rfl
    refine ⟨[], first ++ second, ?_⟩
    rw [queue, asked, up, askPaths_append]
    rfl

/-- R24, R25: requests for PATH notices leave every entry of another item. -/
theorem mem_askPaths {up : Side → Bool} {paths : List (Fin 4)} {q : List Entry} {e : Entry} (other : ∀ p, e.item ≠ .notice (.path p)) :
    e ∈ askPaths up paths q ↔ e ∈ q := by
  have kept : (askPaths up paths q).filter (·.item = e.item) = q.filter (·.item = e.item) :=
    askPaths_filter fun p _ e' item => decide_eq_false fun same => other p (same.symm.trans item)
  constructor
  · intro mem
    exact (List.mem_filter.mp (kept ▸ List.mem_filter.mpr ⟨mem, decide_eq_true rfl⟩)).1
  · intro mem
    exact (List.mem_filter.mp (kept.symm ▸ List.mem_filter.mpr ⟨mem, decide_eq_true rfl⟩)).1

/-- Settles O26: both orders leave the evaluated lanes, and of requests for the TONE notice the one that TCR makes. -/
theorem blockEndEvaluatesLanes : Obligations.BlockEndEvaluatesLanes := by
  intro pmnFirst t s₀ s now running scanning due
  have run : exec (.blockEnd pmnFirst t) s₀ = .next (s.blockEnd pmnFirst t) := by
    rw [now]
    rfl
  have lanes := (State.blockEnd_lanes pmnFirst t running scanning due).1
  have queue : ∃ before after,
      (s.blockEnd pmnFirst t).snq = askPaths s.isUp after (s.toneAsked (askPaths s.isUp before s.snq)) := by
    rw [State.blockEnd_eq pmnFirst t running scanning due, State.settleAlarms_eq]
    exact State.bothEnded_snq (s := { s with smp := { s.smp with block := .startDue } }) pmnFirst t running
  obtain ⟨before, after, queue⟩ := queue
  have tone {e : Entry} (item : e.item = .notice .tone) (p : Fin 4) : e.item ≠ .notice (.path p) := by
    rw [item]
    nofun
  refine ⟨_, run, fun i stopped => ?stopped, fun i active => ?evaluated, fun changed changed_iff => ⟨fun h up => ?asked, fun h e item => ?unasked⟩⟩
  case stopped =>
    rw [lanes]
    exact evaluateLanes_stopped s.tcr i stopped
  case evaluated =>
    obtain ⟨power, small⟩ := tonePower_eq s.tcr[i].x s.tcr[i].y
    refine ⟨_, _, tonePower s.tcr[i].x s.tcr[i].y, rfl, rfl, power, small, ?_⟩
    obtain ⟨_, e⟩ := evaluateLanes_eq s.tcr i
    rw [Lane.evaluate_running active] at e
    have present : (evaluateLanes s.tcr)[i].present = _ := (congrArg Lane.present e).trans (presentAfter_eq ..)
    have limit : (evaluateLanes s.tcr)[i].limit = (s.tcr[i].limit || decide (s.tcr[i].x ≥ 2147483648 ∨ s.tcr[i].x < -2147483648 ∨
        s.tcr[i].y ≥ 2147483648 ∨ s.tcr[i].y < -2147483648)) := by
      rw [e]
      dsimp only
      simp only [isLimited_scaled, Bool.decide_or, Bool.or_assoc]
    have combined (j : Fin 16) (mode : Combine) (partner : s.tcr[i].partner = some j) (combine : s.tcr[i].combine = some mode)
        (even : i.val % 2 = 0) := evaluateLanes_combined s.tcr i active even partner combine
    rw [lanes]
    refine ⟨?_, present, limit, ?_, ?_, ?_, ?_, ?_, ?_, ?_, fun j mode partner combine even => ?pair⟩
    case pair =>
      rw [combined j mode partner combine even]
      cases mode <;> rfl
    all_goals rw [e]
    exact active
  case asked =>
    have due : toneChanged s.tcr (evaluateLanes s.tcr) = true := by
      rw [toneChanged_iff, ← lanes]
      exact changed_iff.mp h
    obtain ⟨e, mem, item, marks⟩ :=
      snqAsk_marks_up (item := .notice .tone) (prompt := false) (q := askPaths s.isUp before s.snq) up
    refine ⟨e, ?_, item, marks⟩
    rw [queue, mem_askPaths (tone item), State.toneAsked, if_pos due]
    exact mem
  case unasked =>
    have notDue : ¬ toneChanged s.tcr (evaluateLanes s.tcr) = true := by
      rw [toneChanged_iff, ← lanes]
      exact mt changed_iff.mpr h
    rw [queue, mem_askPaths (tone item), State.toneAsked, if_neg notDue, mem_askPaths (tone item)]

end Sys2Proof.Machine
end

section
/-! SUPPORT. What a block end does to the verdict of a SPAN path, in both orders of TCR and PMN (R80, R101, R103, R125 to R128, R136). It
settles O28. -/

namespace Sys2Proof.Machine
open Sys2Proof

/-! ### Both orders of TCR and PMN (R51) -/

/-- R101, R103: PMN's judgement finds the verdict record v of path p. -/
def State.inputVerdictOf (s : State) (p : Fin 4) (v : VerdictRec) (m : Nat) (t : Stamp) : VerdictRec :=
  State.inputVerdict { s with vde := upd s.vde p fun _ => v } p m t

theorem State.inputVerdictOf_self (s : State) (p : Fin 4) (m : Nat) (t : Stamp) :
    s.inputVerdictOf p s.vde[p] m t = s.inputVerdict p m t := by rw [State.inputVerdictOf, upd_const_self]

/-- R101, R103: PMN's judgement looks neither at lanes and pilots nor at SNQ, and at the verdict record of its path alone. -/
theorem State.inputVerdict_beside (s : State) (tcr : Vector Lane 16) (osc : Vector Osc 4) (vde : Vector VerdictRec 4) (snq : List Entry)
    (p : Fin 4) (m : Nat) (t : Stamp) :
    State.inputVerdict { s with tcr := tcr, plg := { s.plg with osc := osc }, vde := vde, snq := snq } p m t =
      s.inputVerdictOf p vde[p] m t := by
  have found : (upd s.vde p fun _ => vde[p])[p] = vde[p] := (upd_get ..).trans (if_pos rfl)
  simp only [State.inputVerdictOf, State.inputVerdict, State.lossJudged, State.judgeLoss, State.returnToCause, found]
  rfl

/-- R80: the verdict record of a SPAN path whose normal lane runs after the lane result of a block end, where v was the record and lost says
whether the path is in LOSS. -/
def State.laneVerdict (s : State) (p : Fin 4) (v : VerdictRec) (lost : Prop) [Decidable lost] : VerdictRec :=
  v.laneJudged lost (evaluateLanes s.tcr)[normalLane p].present (evaluateLanes s.tcr)[fillLane p].present s.settings.foreignConfirm

section
variable {s : State} {p : Fin 4} (span : s.kind p = .span) (active : s.tcr[normalLane p].state = .running)
include span active

theorem State.tcrBlockEnd_verdict : s.tcrBlockEnd.vde[p] = s.laneVerdict p s.vde[p] (s.pmn[p].input = .loss) := by
  have runs : (evaluateLanes s.tcr)[normalLane p].state = .running := (evaluateLanes_sameWatch s.tcr (normalLane p)).state.trans active
  rw [(s.tcrBlockEnd_path p).2.2, if_pos ⟨span, runs⟩]
  rfl

/-- The verdict record of a SPAN path whose normal lane runs: PMN's judgement and TCR's lane result, in the order in which they are taken. -/
theorem State.bothEnded_path (pmnFirst : Bool) (t : Stamp) :
    (s.bothEnded pmnFirst t).pmn[p].input = s.pmn[p].inputAfter s.settings.paths[p] (s.pmn[p].inSum / 1024) ∧
    (pmnFirst = true → (s.bothEnded pmnFirst t).vde[p] = s.laneVerdict p (s.inputVerdict p (s.pmn[p].inSum / 1024) t)
      (s.pmn[p].inputAfter s.settings.paths[p] (s.pmn[p].inSum / 1024) = .loss)) ∧
    (pmnFirst = false → (s.bothEnded pmnFirst t).vde[p] =
      s.inputVerdictOf p (s.laneVerdict p s.vde[p] (s.pmn[p].input = .loss)) (s.pmn[p].inSum / 1024) t) := by
  have monitored : s.monitored p = true := (s.monitored_iff p).mpr (by rw [span]; nofun)
  cases pmnFirst with
  | true =>
    obtain ⟨change, judged, -⟩ := s.pmnBlockEnd_path t p
    obtain ⟨stamp, record, verdict⟩ := judged monitored
    rw [if_pos span] at verdict
    have same : (s.pmnBlockEnd t).tcr = s.tcr ∧ (s.pmnBlockEnd t).kind p = s.kind p ∧ (s.pmnBlockEnd t).settings = s.settings := by
      obtain ⟨_, _, _, _, e⟩ := change
      rw [e]
      exact ⟨rfl, rfl, rfl⟩
    obtain ⟨tcr, kind, settings⟩ := same
    have lane := State.tcrBlockEnd_verdict (kind.trans span) (by rw [tcr]; exact active)
    refine ⟨?_, fun _ => ?_, nofun⟩
    · exact congrArg PathRec.input (((s.pmnBlockEnd t).tcrBlockEnd_path p).2.1.trans record)
    · refine lane.trans ?_
      simp only [State.laneVerdict, tcr, settings, record, verdict, PathRec.ended]
  | false =>
    have lane := State.tcrBlockEnd_verdict span active
    have kept := (s.tcrBlockEnd_path p).2.1
    obtain ⟨-, judged, -⟩ := s.tcrBlockEnd.pmnBlockEnd_path t p
    obtain ⟨_, _, _, changes⟩ := s.tcrBlockEnd_changes
    have same : s.tcrBlockEnd.monitored p = s.monitored p ∧ s.tcrBlockEnd.kind p = s.kind p ∧ s.tcrBlockEnd.settings = s.settings := by
      rw [changes]
      exact ⟨rfl, rfl, rfl⟩
    obtain ⟨monitored', kind, settings⟩ := same
    obtain ⟨stamp, record, verdict⟩ := judged (monitored'.trans monitored)
    rw [if_pos (kind.trans span), kept] at verdict
    rw [kept, settings] at record
    refine ⟨congrArg PathRec.input record, nofun, fun _ => ?_⟩
    rw [← lane]
    refine verdict.trans ?_
    rw [changes]
    exact s.inputVerdict_beside ..

end

/-! ### The lane result (R125 to R127, R136) -/

section
variable {v : VerdictRec} {lost : Prop} [Decidable lost] {normal fill : Bool} {confirm : Nat}

theorem VerdictRec.counted_lost (h : lost) (tone : Bool) : v.counted lost tone = v := by rw [VerdictRec.counted, if_pos h]

theorem VerdictRec.counted_light (h : ¬ lost) (tone : Bool) :
    v.counted lost tone = { v with toneAbsent := if tone then 0 else min 255 (v.toneAbsent + 1) } := by
  rw [VerdictRec.counted, if_neg h]
  rfl

theorem VerdictRec.judgesLight_iff : v.judgesLight = true ↔ v.verdict.isLight = true ∨ v.verdict = .restoring ∧ v.holdOff = .stopped := by
  simp only [VerdictRec.judgesLight, Bool.or_eq_true, Bool.and_eq_true, decide_eq_true_eq]

/-- R125: where no light evaluation follows, the count is all that a lane result sets; in LOSS it sets nothing. -/
theorem VerdictRec.laneJudged_lost (h : lost) (dark : ¬ v.judgesLight = true) : v.laneJudged lost normal fill confirm = v := by
  rw [VerdictRec.laneJudged, if_neg dark, VerdictRec.counted_lost h]

theorem VerdictRec.laneJudged_dark (h : ¬ lost) (dark : ¬ v.judgesLight = true) :
    v.laneJudged lost normal fill confirm = { v with toneAbsent := if normal || fill then 0 else min 255 (v.toneAbsent + 1) } := by
  rw [VerdictRec.laneJudged, if_neg dark, VerdictRec.counted_light h]

theorem VerdictRec.laneJudged_light (h : ¬ lost) (light : v.judgesLight = true) :
    v.laneJudged lost normal fill confirm =
      VerdictRec.lightJudged { v with toneAbsent := if normal || fill then 0 else min 255 (v.toneAbsent + 1) } normal fill confirm := by
  rw [VerdictRec.laneJudged, if_pos light, VerdictRec.counted_light h]

/-- R126: what a light evaluation leaves of a verdict record. -/
theorem VerdictRec.lightJudged_fields :
    (v.lightJudged normal fill confirm).toneAbsent = v.toneAbsent ∧
    (v.lightJudged normal fill confirm).verdict =
      (if fill then .sympathetic else if normal then .clear else if v.toneAbsent ≥ confirm then .foreignLight else v.verdict) ∧
    ((v.lightJudged normal fill confirm).verdict ≠ v.verdict →
      (v.lightJudged normal fill confirm).evidence = .none ∧ (v.lightJudged normal fill confirm).late = false ∧
        (v.lightJudged normal fill confirm).cause = none ∧ (v.lightJudged normal fill confirm).holdOff = .stopped) := by
  unfold VerdictRec.lightJudged lightVerdict
  cases fill with
  | true => exact ⟨rfl, rfl, fun _ => ⟨rfl, rfl, rfl, rfl⟩⟩
  | false =>
    cases normal with
    | true => exact ⟨rfl, rfl, fun _ => ⟨rfl, rfl, rfl, rfl⟩⟩
    | false =>
      by_cases confirmed : confirm ≤ v.toneAbsent
      · simp [confirmed]
      · simp [confirmed]

/-- R125 to R127: what a lane result leaves of the verdict record of a path that is not in LOSS. -/
theorem VerdictRec.laneJudged_fields (h : ¬ lost) {count : Nat}
    (counts : count = if normal || fill then 0 else min 255 (v.toneAbsent + 1)) :
    (v.laneJudged lost normal fill confirm).toneAbsent = count ∧
    (v.judgesLight = true →
      (v.laneJudged lost normal fill confirm).verdict =
        (if fill then .sympathetic else if normal then .clear else if count ≥ confirm then .foreignLight else v.verdict) ∧
      ((v.laneJudged lost normal fill confirm).verdict ≠ v.verdict →
        (v.laneJudged lost normal fill confirm).evidence = .none ∧ (v.laneJudged lost normal fill confirm).late = false ∧
          (v.laneJudged lost normal fill confirm).cause = none ∧ (v.laneJudged lost normal fill confirm).holdOff = .stopped)) ∧
    (¬ v.judgesLight = true → v.laneJudged lost normal fill confirm = { v with toneAbsent := count }) := by
  by_cases judges : v.judgesLight = true
  · rw [VerdictRec.laneJudged_light h judges, ← counts]
    obtain ⟨kept, verdict, cleared⟩ := VerdictRec.lightJudged_fields (v := { v with toneAbsent := count }) (normal := normal) (fill := fill)
      (confirm := confirm)
    exact ⟨kept, fun _ => ⟨verdict, cleared⟩, fun dark => absurd judges dark⟩
  · rw [VerdictRec.laneJudged_dark h judges, ← counts]
    exact ⟨rfl, fun light => absurd light judges, fun _ => rfl⟩

theorem VerdictRec.lightJudged_isLight (light : v.verdict.isLight = true) : (v.lightJudged normal fill confirm).verdict.isLight = true := by
  rw [VerdictRec.lightJudged_fields.2.1]
  split
  · rfl
  · split
    · rfl
    · split
      · rfl
      · exact light

theorem Verdict.isLight_of_isLoss (v : Verdict) : v.isLoss = true → v.isLight = false ∧ v ≠ .restoring := by cases v <;> decide

/-- R135, R136: a loss verdict is not judged by light, nor is one restored whose hold-off runs. -/
theorem VerdictRec.dark_of_isLoss (loss : v.verdict.isLoss = true) : ¬ v.judgesLight = true := by
  obtain ⟨light, restoring⟩ := v.verdict.isLight_of_isLoss loss
  rw [VerdictRec.judgesLight_iff, light]
  rintro (h | ⟨h, -⟩)
  · cases h
  · exact restoring h

theorem VerdictRec.restored_toneAbsent {holdOff : Nat} : (v.restored holdOff).toneAbsent = v.toneAbsent := by
  unfold VerdictRec.restored
  split <;> rfl

theorem VerdictRec.dark_of_restored (loss : v.verdict.isLoss = true) (holdOff : Nat) : ¬ (v.restored holdOff).judgesLight = true := by
  rw [VerdictRec.restored, if_pos loss, VerdictRec.judgesLight_iff]
  rintro (light | ⟨-, stopped⟩)
  · cases light
  · cases stopped

end

/-! ### PMN's judgement (R101, R103) -/

theorem lightState_ne_loss (c : PathSettings) (m : Nat) : lightState c m ≠ .loss := by
  unfold lightState
  split
  · nofun
  · split <;> nofun

theorem heldState_ne_loss (c : PathSettings) {st : InputState} (m : Nat) (light : st ≠ .loss) : heldState c st m ≠ .loss := by
  cases st with
  | ok => exact lightState_ne_loss c m
  | low =>
    simp only [heldState]
    split
    · nofun
    · split <;> nofun
  | high =>
    simp only [heldState]
    split
    · nofun
    · split <;> nofun
  | unknown => nofun
  | loss => exact absurd rfl light

section
variable {s : State} {p : Fin 4} {m : Nat} {t : Stamp}

/-- R101, R102: a path that is not in LOSS, nor first judged below the loss threshold, stays out of LOSS and hands VDE no event. -/
theorem State.inputVerdict_light (light : s.pmn[p].input ≠ .loss) (first : s.pmn[p].input = .unknown → s.settings.paths[p].loss ≤ m) :
    s.pmn[p].inputAfter s.settings.paths[p] m ≠ .loss ∧ ∀ v, s.inputVerdictOf p v m t = v := by
  have found (v : VerdictRec) : (upd s.vde p fun _ => v)[p] = v := (upd_get ..).trans (if_pos rfl)
  unfold PathRec.inputAfter State.inputVerdictOf State.inputVerdict
  dsimp only
  cases before : s.pmn[p].input with
  | loss => exact absurd before light
  | unknown =>
    have judged : firstState s.settings.paths[p] m = lightState s.settings.paths[p] m := if_neg (Nat.not_lt.mpr (first before))
    have other : firstState s.settings.paths[p] m ≠ .loss := judged ▸ lightState_ne_loss _ m
    exact ⟨other, fun v => (if_neg other).trans (found v)⟩
  | ok => exact ⟨heldState_ne_loss _ m nofun, found⟩
  | low => exact ⟨heldState_ne_loss _ m nofun, found⟩
  | high => exact ⟨heldState_ne_loss _ m nofun, found⟩

/-- R101: a path first judged below the loss threshold enters LOSS, with the loss event of a light verdict. -/
theorem State.inputVerdict_first (before : s.pmn[p].input = .unknown) (below : m < s.settings.paths[p].loss) :
    s.pmn[p].inputAfter s.settings.paths[p] m = .loss ∧
      ∀ v, v.verdict.isLight = true → s.inputVerdictOf p v m t = State.judgeLoss { s with vde := upd s.vde p fun _ => v } p t := by
  have lost : firstState s.settings.paths[p] m = .loss := if_pos below
  unfold PathRec.inputAfter State.inputVerdictOf State.inputVerdict
  dsimp only
  rw [before]
  refine ⟨lost, fun v light => (if_pos lost).trans (if_pos ?_)⟩
  dsimp only
  rw [upd_get, if_pos rfl]
  exact light

/-- R103: a path in LOSS stays there, or leaves it with a restore event. -/
theorem State.inputVerdict_loss (before : s.pmn[p].input = .loss) :
    (s.pmn[p].inputAfter s.settings.paths[p] m = .loss ∧ ∀ v, s.inputVerdictOf p v m t = v) ∨
    (s.pmn[p].inputAfter s.settings.paths[p] m ≠ .loss ∧ ∀ v, s.inputVerdictOf p v m t = v.restored s.settings.holdOff) := by
  have found (v : VerdictRec) : (upd s.vde p fun _ => v)[p] = v := (upd_get ..).trans (if_pos rfl)
  unfold PathRec.inputAfter State.inputVerdictOf State.inputVerdict
  dsimp only
  rw [before]
  dsimp only
  by_cases restored : restores s.settings.paths[p] s.pmn[p].lossAtStart s.pmn[p].lossRun m = true
  · refine .inr ⟨?_, fun v => (if_pos restored).trans (congrArg (VerdictRec.restored · _) (found v))⟩
    rw [if_pos restored]
    exact lightState_ne_loss _ m
  · exact .inl ⟨if_neg restored, fun v => (if_neg restored).trans (found v)⟩

/-- R128: what a loss event leaves of the record of a light verdict. -/
theorem State.judgeLoss_fields (s : State) (p : Fin 4) (t : Stamp) :
    (s.judgeLoss p t).toneAbsent = 0 ∧ (s.judgeLoss p t).lossStamp = some t ∧ (s.judgeLoss p t).late = false ∧
    (s.judgeLoss p t).cause = none ∧ (s.judgeLoss p t).verdict.isLoss = true ∧
    ((s.nb (upstreamSide p)).dying = true → (s.judgeLoss p t).verdict = .upstreamPower ∧ (s.judgeLoss p t).evidence = .dying) ∧
    ((s.nb (upstreamSide p)).dying = false → s.recentLinkDown p t = true →
      (s.judgeLoss p t).verdict = .spanFault ∧ (s.judgeLoss p t).evidence = .lineCut) ∧
    ((s.nb (upstreamSide p)).dying = false → s.recentLinkDown p t = false →
      (s.judgeLoss p t).verdict = .watch ∧ (s.judgeLoss p t).evidence = .none ∧ (s.judgeLoss p t).watchStart = some s.clk.hut ∧
        (s.judgeLoss p t).window = .running s.settings.window) := by
  unfold State.judgeLoss
  cases (s.nb (upstreamSide p)).dying with
  | true => exact ⟨rfl, rfl, rfl, rfl, rfl, fun _ => ⟨rfl, rfl⟩, nofun, nofun⟩
  | false =>
    cases s.recentLinkDown p t with
    | true => exact ⟨rfl, rfl, rfl, rfl, rfl, nofun, fun _ _ => ⟨rfl, rfl⟩, nofun⟩
    | false => exact ⟨rfl, rfl, rfl, rfl, rfl, nofun, nofun, fun _ _ => ⟨rfl, rfl, rfl, rfl⟩⟩

end

theorem State.recentLinkDown_iff (s : State) (p : Fin 4) (loss : Stamp) :
    s.recentLinkDown p loss = true ↔ (s.port (upstreamSide p)).recentlyDown s.settings.window loss := by
  unfold State.recentLinkDown Port.recentlyDown
  dsimp only
  cases (s.port (upstreamSide p)).lastDown with
  | none => simp
  | some d => simp [withinWindow, and_assoc]

section
variable {s : State} {p : Fin 4} (span : s.kind p = .span) (active : s.tcr[normalLane p].state = .running) (pmnFirst : Bool) (t : Stamp)
  (running : s.running = true) (scanning : s.smp.scanning = true) (due : s.smp.block = .endDue)
include span active running scanning due

/-- `State.bothEnded_path` for the whole of a block end. -/
theorem State.blockEnd_path :
    (s.blockEnd pmnFirst t).pmn[p].input = s.pmn[p].inputAfter s.settings.paths[p] (s.pmn[p].inSum / 1024) ∧
    (pmnFirst = true → (s.blockEnd pmnFirst t).vde[p] = s.laneVerdict p (s.inputVerdictOf p s.vde[p] (s.pmn[p].inSum / 1024) t)
      (s.pmn[p].inputAfter s.settings.paths[p] (s.pmn[p].inSum / 1024) = .loss)) ∧
    (pmnFirst = false → (s.blockEnd pmnFirst t).vde[p] =
      s.inputVerdictOf p (s.laneVerdict p s.vde[p] (s.pmn[p].input = .loss)) (s.pmn[p].inSum / 1024) t) := by
  rw [State.blockEnd_eq pmnFirst t running scanning due, State.settleAlarms_eq, State.inputVerdictOf_self]
  exact State.bothEnded_path (s := { s with smp := { s.smp with block := .startDue } }) span active pmnFirst t

/-- R125, R126, R136: with light PMN hands VDE nothing, so both orders leave the lane result. -/
theorem State.blockEnd_light (light : s.pmn[p].input ≠ .loss)
    (first : s.pmn[p].input = .unknown → s.settings.paths[p].loss ≤ s.pmn[p].inSum / 1024) :
    (s.blockEnd pmnFirst t).vde[p] = s.laneVerdict p s.vde[p] False := by
  obtain ⟨-, pmnThenTcr, tcrThenPmn⟩ := State.blockEnd_path span active pmnFirst t running scanning due
  obtain ⟨after, noEvent⟩ := State.inputVerdict_light (t := t) light first
  cases pmnFirst with
  | true =>
    rw [pmnThenTcr rfl, noEvent]
    simp only [after]
  | false =>
    rw [tcrThenPmn rfl, noEvent]
    simp only [light]

/-- R101, R128: a first judgement below the loss threshold leaves the loss event of a light verdict, which no lane result touches. -/
theorem State.blockEnd_first (before : s.pmn[p].input = .unknown) (below : s.pmn[p].inSum / 1024 < s.settings.paths[p].loss)
    (light : s.vde[p].verdict.isLight = true) :
    ∃ v, (s.blockEnd pmnFirst t).vde[p] = State.judgeLoss { s with vde := upd s.vde p fun _ => v } p t := by
  obtain ⟨-, pmnThenTcr, tcrThenPmn⟩ := State.blockEnd_path span active pmnFirst t running scanning due
  obtain ⟨after, event⟩ := State.inputVerdict_first (t := t) before below
  cases pmnFirst with
  | true =>
    obtain ⟨-, -, -, -, lost, -⟩ := State.judgeLoss_fields { s with vde := upd s.vde p fun _ => s.vde[p] } p t
    refine ⟨s.vde[p], (pmnThenTcr rfl).trans ?_⟩
    rw [event _ light]
    exact VerdictRec.laneJudged_lost after (VerdictRec.dark_of_isLoss lost)
  | false =>
    have counted : (s.laneVerdict p s.vde[p] (s.pmn[p].input = .loss)).verdict.isLight = true := by
      rw [State.laneVerdict, VerdictRec.laneJudged_light (by rw [before]; nofun) (VerdictRec.judgesLight_iff.mpr (.inl light))]
      exact VerdictRec.lightJudged_isLight light
    exact ⟨_, (tcrThenPmn rfl).trans (event _ counted)⟩

/-- R125, R131, R134, R135: in LOSS the record of a loss verdict stands, but for a restore event, and the count of a lane result that PMN's
restore came before. -/
theorem State.blockEnd_loss (before : s.pmn[p].input = .loss) (loss : s.vde[p].verdict.isLoss = true) :
    ((s.blockEnd pmnFirst t).pmn[p].input = .loss → (s.blockEnd pmnFirst t).vde[p] = s.vde[p]) ∧
    ((s.blockEnd pmnFirst t).pmn[p].input ≠ .loss → (s.blockEnd pmnFirst t).vde[p] =
      if pmnFirst then s.laneVerdict p (s.vde[p].restored s.settings.holdOff) False else s.vde[p].restored s.settings.holdOff) := by
  obtain ⟨input, pmnThenTcr, tcrThenPmn⟩ := State.blockEnd_path span active pmnFirst t running scanning due
  have kept {lost : Prop} [Decidable lost] (h : lost) : s.laneVerdict p s.vde[p] lost = s.vde[p] :=
    VerdictRec.laneJudged_lost h (VerdictRec.dark_of_isLoss loss)
  rw [input]
  rcases State.inputVerdict_loss (m := s.pmn[p].inSum / 1024) (t := t) before with ⟨after, noEvent⟩ | ⟨after, restored⟩
  · refine ⟨fun _ => ?_, fun light => absurd after light⟩
    cases pmnFirst with
    | true => rw [pmnThenTcr rfl, noEvent, kept after]
    | false => rw [tcrThenPmn rfl, noEvent, kept before]
  · refine ⟨fun lost => absurd lost after, fun _ => ?_⟩
    cases pmnFirst with
    | true =>
      rw [pmnThenTcr rfl, restored, if_pos rfl]
      simp only [after]
    | false =>
      rw [tcrThenPmn rfl, restored, kept before]
      rfl

end

/-- R135: a restored path in RESTORING with its hold-off running takes the count of a lane result, and no light evaluation. -/
theorem State.laneVerdict_restored (s : State) (p : Fin 4) {v : VerdictRec} (loss : v.verdict.isLoss = true) (holdOff : Nat) :
    (s.laneVerdict p (v.restored holdOff) False).toneAbsent =
      if (evaluateLanes s.tcr)[normalLane p].present || (evaluateLanes s.tcr)[fillLane p].present then 0
      else min 255 (v.toneAbsent + 1) := by
  rw [State.laneVerdict, VerdictRec.laneJudged_dark not_false (VerdictRec.dark_of_restored loss _), VerdictRec.restored_toneAbsent]

/-- Settles O28: the three cases of the input state before the block end, each by its lemma for both orders. -/
theorem laneResultJudgesLight : Obligations.LaneResultJudgesLight := by
  refine ⟨fun v => by cases v <;> decide, fun pmnFirst t p s₀ s now running scanning due span active _ => ?_⟩
  have run : exec (.blockEnd pmnFirst t) s₀ = .next (s.blockEnd pmnFirst t) := by
    rw [now]
    rfl
  have lanes := (State.blockEnd_lanes pmnFirst t running scanning due).1
  refine ⟨_, _, run, rfl, fun light first => ?light, fun before below lightVerdict => ?first, fun before loss => ?loss⟩
  case light =>
    rw [State.blockEnd_light span active pmnFirst t running scanning due light first, lanes, ← VerdictRec.judgesLight_iff]
    exact VerdictRec.laneJudged_fields not_false rfl
  case first =>
    obtain ⟨v, entered⟩ := State.blockEnd_first span active pmnFirst t running scanning due before below lightVerdict
    obtain ⟨count, stamp, late, cause, -, power, cut, watch⟩ := State.judgeLoss_fields { s with vde := upd s.vde p fun _ => v } p t
    have recent := s.recentLinkDown_iff p t
    rw [entered]
    exact ⟨count, stamp, late, cause, power, fun alive down => cut alive (recent.mpr down),
      fun alive idle => watch alive (Bool.eq_false_iff.mpr (mt recent.mp idle))⟩
  case loss =>
    obtain ⟨stands, restored⟩ := State.blockEnd_loss span active pmnFirst t running scanning due before loss
    refine ⟨?_, stands⟩
    by_cases after : (s.blockEnd pmnFirst t).pmn[p].input = .loss
    · rw [if_pos (.inl after), stands after]
    · rw [restored after, lanes]
      cases pmnFirst with
      | true => exact (s.laneVerdict_restored p loss _).trans (if_neg fun h => h.elim after nofun).symm
      | false => exact VerdictRec.restored_toneAbsent.trans (if_pos (.inr rfl)).symm

end Sys2Proof.Machine
end

section
/-! SUPPORT. The flag bytes and masks of a body bit by bit, and the answers to the four queries (R82, R122, R164, R170, 12.4). It settles
O47. -/

namespace Sys2Proof.Machine
open Sys2Proof

/-! ### Flags packed in a number (R170) -/

/-- The number whose bits from place 0 on are the given ones. -/
def bitsValue : List Bool → Nat
  | [] => 0
  | b :: bs => b.toNat + 2 * bitsValue bs

theorem bitsValue_testBit (bs : List Bool) (i : Nat) : (bitsValue bs).testBit i = bs.getD i false := by
  induction bs generalizing i with
  | nil => simp [bitsValue]
  | cons b bs ih =>
    cases i with
    | zero => cases b <;> simp [bitsValue, Nat.testBit_zero]
    | succ i =>
      have rest : (b.toNat + 2 * bitsValue bs) / 2 = bitsValue bs := by have := b.toNat_lt; omega
      rw [bitsValue, Nat.testBit_succ, rest, ih]
      rfl

theorem bitsValue_append (as bs : List Bool) : bitsValue (as ++ bs) = bitsValue as + 2 ^ as.length * bitsValue bs := by
  induction as with
  | nil => simp [bitsValue]
  | cons a as ih =>
    rw [List.cons_append, bitsValue, bitsValue, ih, List.length_cons, Nat.pow_succ]
    ring

theorem bit_eq (b : Bool) (i : Nat) : bit b i = 2 ^ i * b.toNat := by cases b <;> simp [bit]

theorem byte_getLsbD {bs : List Bool} (fits : bs.length ≤ 8) (i : Nat) : (byte (bitsValue bs)).getLsbD i = bs.getD i false := by
  rw [byte, BitVec.getLsbD_ofNat, bitsValue_testBit]
  by_cases inside : i < 8
  · simp [inside]
  · rw [List.getD_eq_default bs false (show bs.length ≤ i by omega)]
    simp [inside]

/-- The eight bits of a flag byte. -/
theorem byte_flags {bs : List Bool} {n : Nat} (fits : bs.length ≤ 8) (value : n = bitsValue bs) :
    (List.range 8).map (byte n).getLsbD = (List.range 8).map (bs.getD · false) :=
  value ▸ List.map_congr_left fun i _ => byte_getLsbD fits i

/-- The bits of a two-byte field. -/
theorem be16_getLsbD (n : Nat) {i : Nat} (inside : i < 16) :
    (BitVec.ofNat 8 (n / 256) ++ BitVec.ofNat 8 n).getLsbD i = n.testBit i := by
  rw [BitVec.getLsbD_append, BitVec.getLsbD_ofNat, BitVec.getLsbD_ofNat]
  by_cases low : i < 8
  · simp [low]
  · have high : (n / 2 ^ 8).testBit (i - 8) = n.testBit i := by
      rw [Nat.testBit_div_two_pow]
      exact congrArg n.testBit (by omega)
    rw [if_neg low, ← high]
    simp [show i - 8 < 8 by omega]

/-- R170: the value of a LINE MASK has the bits of its lines. -/
theorem maskValue_eq (f : Fin 12 → Bool) : maskValue f = bitsValue (List.ofFn f) := by
  have sum : maskValue f = 0 + bit (f 0) 0 + bit (f 1) 1 + bit (f 2) 2 + bit (f 3) 3 + bit (f 4) 4 + bit (f 5) 5 + bit (f 6) 6 +
      bit (f 7) 7 + bit (f 8) 8 + bit (f 9) 9 + bit (f 10) 10 + bit (f 11) 11 := rfl
  have bits : bitsValue (List.ofFn f) = bitsValue [f 0, f 1, f 2, f 3, f 4, f 5, f 6, f 7, f 8, f 9, f 10, f 11] := rfl
  rw [sum, bits]
  simp only [bit_eq, bitsValue]
  omega

theorem getD_ofFn_append {n : Nat} (f : Fin n → Bool) (bs : List Bool) (i : Fin n) : (List.ofFn f ++ bs).getD i.val false = f i := by
  rw [List.getD_eq_getElem?_getD, List.getElem?_append_left (by simp)]
  simp

theorem maskValue_testBit (f : Fin 12 → Bool) (n : Fin 12) : (maskValue f).testBit n.val = f n := by
  rw [maskValue_eq, bitsValue_testBit]
  simpa using getD_ofFn_append f [] n

/-- 12.4: the stalls of QUERY_SITE with the three site flags above them. -/
theorem stallWord_eq (f : Fin 12 → Bool) (dying hot filter : Bool) :
    maskValue f + bit dying 12 + bit hot 13 + bit filter 14 = bitsValue (List.ofFn f ++ [dying, hot, filter]) := by
  rw [bitsValue_append, ← maskValue_eq, List.length_ofFn]
  simp only [bit_eq, bitsValue]
  omega

theorem stallWord_getLsbD (f : Fin 12 → Bool) (dying hot filter : Bool) :
    let n := maskValue f + bit dying 12 + bit hot 13 + bit filter 14
    let w := BitVec.ofNat 8 (n / 256) ++ BitVec.ofNat 8 n
    (∀ i : Fin 12, w.getLsbD i.val = f i) ∧ w.getLsbD 12 = dying ∧ w.getLsbD 13 = hot ∧ w.getLsbD 14 = filter := by
  dsimp only
  have bits {i : Nat} (inside : i < 16) :=
    (be16_getLsbD (bitsValue (List.ofFn f ++ [dying, hot, filter])) inside).trans (bitsValue_testBit _ i)
  rw [stallWord_eq]
  exact ⟨fun i => (bits (by omega)).trans (getD_ofFn_append f _ i), bits (by decide), bits (by decide), bits (by decide)⟩

/-- 12.4: four flags above four others in one byte. -/
theorem eightFlags_eq (a0 a1 a2 a3 b0 b1 b2 b3 : Bool) :
    bit a0 0 + bit a1 1 + bit a2 2 + bit a3 3 + 16 * (bit b0 0 + bit b1 1 + bit b2 2 + bit b3 3) =
      bitsValue [a0, a1, a2, a3, b0, b1, b2, b3] := by
  simp only [bit_eq, bitsValue]
  omega

theorem eightFlags_getD (f g : Fin 4 → Bool) (p : Fin 4) :
    [f 0, f 1, f 2, f 3, g 0, g 1, g 2, g 3].getD p.val false = f p ∧
      [f 0, f 1, f 2, f 3, g 0, g 1, g 2, g 3].getD (4 + p.val) false = g p :=
  match p with
  | 0 => ⟨rfl, rfl⟩
  | 1 => ⟨rfl, rfl⟩
  | 2 => ⟨rfl, rfl⟩
  | 3 => ⟨rfl, rfl⟩

/-- R122: a flag of the four summaries below another in one byte. -/
theorem summaryFlags_getLsbD (f g : Fin 4 → Bool) (p : Fin 4) :
    (byte (bit (f 0) 0 + bit (f 1) 1 + bit (f 2) 2 + bit (f 3) 3 +
      16 * (bit (g 0) 0 + bit (g 1) 1 + bit (g 2) 2 + bit (g 3) 3))).getLsbD p.val = f p ∧
    (byte (bit (f 0) 0 + bit (f 1) 1 + bit (f 2) 2 + bit (f 3) 3 +
      16 * (bit (g 0) 0 + bit (g 1) 1 + bit (g 2) 2 + bit (g 3) 3))).getLsbD (4 + p.val) = g p := by
  rw [eightFlags_eq, byte_getLsbD (by simp), byte_getLsbD (by simp)]
  exact eightFlags_getD f g p

/-! ### The queries -/

section
variable {rq : RequestHead} {t : Stamp} {k : Fin 6} {s₀ s : State} (now : s = s₀.moment t) (able : s.canAnswer k)
include now able

theorem exec_queryPath (p : Fin 4) :
    exec (.queryPath rq [BitVec.ofNat 8 p.val] t) s₀ =
      .next (s.answered k rq [16, BitVec.ofNat 8 p.val] (0 :: 16 :: s.pathResults p)) := by
  refine exec_answered (c := .queryPath rq [BitVec.ofNat 8 p.val] t) (status := .ok) (results := s.pathResults p) rfl now able ?_ rfl
  rw [runOf, answering, replyQueryPath, byteArg_ofNat (by decide)]
  rfl

theorem exec_queryLane (i : Fin 16) :
    exec (.queryLane rq [BitVec.ofNat 8 i.val] t) s₀ =
      .next (s.answered k rq [18, BitVec.ofNat 8 i.val] (0 :: 18 :: s.laneResults i)) := by
  refine exec_answered (c := .queryLane rq [BitVec.ofNat 8 i.val] t) (status := .ok) (results := s.laneResults i) rfl now able ?_ rfl
  rw [runOf, answering, replyQueryLane, byteArg_ofNat (by decide)]
  rfl

theorem exec_querySite : exec (.querySite rq [] t) s₀ = .next (s.answered k rq [17] (0 :: 17 :: s.siteResults)) :=
  exec_answered (c := .querySite rq [] t) (status := .ok) (results := s.siteResults) rfl now able rfl rfl

theorem exec_queryNeighbour (side : Side) :
    exec (.queryNeighbour rq [if side = .west then 0 else 1] t) s₀ =
      .next (s.answered k rq [29, if side = .west then 0 else 1] (0 :: 29 :: s.neighbourResults side)) := by
  cases side with
  | west => exact exec_answered (c := .queryNeighbour rq [0] t) (status := .ok) (results := s.neighbourResults .west) rfl now able rfl rfl
  | east => exact exec_answered (c := .queryNeighbour rq [1] t) (status := .ok) (results := s.neighbourResults .east) rfl now able rfl rfl

end

theorem pathFlags_eq (late low high fill normal other : Bool) :
    bit late 0 + bit low 1 + bit high 2 + bit fill 3 + bit normal 4 + bit other 5 = bitsValue [late, low, high, fill, normal, other] := by
  simp only [bit_eq, bitsValue]
  omega

theorem threeFlags_eq (a b c : Bool) : bit a 0 + bit b 1 + bit c 2 = bitsValue [a, b, c] := by
  simp only [bit_eq, bitsValue]
  omega

/-- R82: the four flags of a lane. -/
theorem laneFlags_getLsbD (a b c d : Bool) :
    (byte (bit a 0 + bit b 1 + bit c 2 + bit d 3)).getLsbD 0 = a ∧ (byte (bit a 0 + bit b 1 + bit c 2 + bit d 3)).getLsbD 1 = b ∧
      (byte (bit a 0 + bit b 1 + bit c 2 + bit d 3)).getLsbD 2 = c ∧ (byte (bit a 0 + bit b 1 + bit c 2 + bit d 3)).getLsbD 3 = d := by
  have value : bit a 0 + bit b 1 + bit c 2 + bit d 3 = bitsValue [a, b, c, d] := by
    simp only [bit_eq, bitsValue]
    omega
  have bits (i : Nat) := byte_getLsbD (bs := [a, b, c, d]) (by simp) i
  rw [value]
  exact ⟨bits 0, bits 1, bits 2, bits 3⟩

theorem neighbourFlags_eq (a b c d e f g h : Bool) :
    bit a 0 + bit b 1 + bit c 2 + bit d 3 + bit e 4 + bit f 5 + bit g 6 + bit h 7 = bitsValue [a, b, c, d, e, f, g, h] := by
  simp only [bit_eq, bitsValue]
  omega

/-- Settles O47: the bodies have their fields at fixed places, so each is read off the body as it is composed; flags and masks go through
`bitsValue`. -/
theorem queriesAnswerTheRecords : Obligations.QueriesAnswerTheRecords := by
  intro rq t k s₀ s now able
  refine ⟨fun p => ⟨_, exec_queryPath now able p, rfl, rfl, ?pathFlags, ?pathStamps, rfl⟩,
    fun i => ⟨_, exec_queryLane now able i, rfl, rfl, ?lanePresent, ?laneLimit, ?lanePower, ?laneCombined, rfl⟩,
    ⟨_, exec_querySite now able, rfl, rfl, fun n => ⟨?level, ?flag, ?stall, ?period⟩, ?dying, ?hot, ?filter, ?readings⟩,
    fun side => ⟨_, exec_queryNeighbour now able side, rfl, ?head, ?flags, ?stamps, fun p => ?summary⟩⟩
  case pathFlags => exact byte_flags (by simp) (pathFlags_eq ..)
  case pathStamps => exact byte_flags (by simp) (threeFlags_eq ..)
  case lanePresent => exact (laneFlags_getLsbD ..).1
  case laneLimit => exact (laneFlags_getLsbD ..).2.1
  case lanePower => exact (laneFlags_getLsbD ..).2.2.1
  case laneCombined => exact (laneFlags_getLsbD ..).2.2.2
  case level => exact (be16_getLsbD _ (by omega)).trans (maskValue_testBit (fun n => s.stu.lines[n].level) n)
  case flag => exact (be16_getLsbD _ (by omega)).trans (maskValue_testBit (fun n => s.stu.lines[n].flag) n)
  case stall => exact (stallWord_getLsbD ..).1 n
  case period => fin_cases n <;> rfl
  case dying => exact (stallWord_getLsbD (fun n => s.stu.lines[n].fanStall) ..).2.1
  case hot => exact (stallWord_getLsbD (fun n => s.stu.lines[n].fanStall) ..).2.2.1
  case filter => exact (stallWord_getLsbD (fun n => s.stu.lines[n].fanStall) ..).2.2.2
  case readings =>
    intro i
    fin_cases i <;> rfl
  case head => cases side <;> rfl
  case flags => exact byte_flags (by simp) (neighbourFlags_eq ..)
  case stamps => rfl
  case summary =>
    have low := summaryFlags_getLsbD (fun p => (s.nb side).summaries[p].outputLow.isSome)
      (fun p => (s.nb side).summaries[p].outputLow.getD false) p
    have pilot := summaryFlags_getLsbD (fun p => (s.nb side).summaries[p].pilot.isSome)
      (fun p => ((s.nb side).summaries[p].pilot.map (·.isFill)).getD false) p
    refine ⟨?_, ?_, ?_, low.1, low.2, pilot.1, pilot.2.trans ?fillMode⟩
    case fillMode =>
      cases (s.nb side).summaries[p].pilot with
      | none => rfl
      | some mode => cases mode <;> rfl
    all_goals fin_cases p <;> rfl

end Sys2Proof.Machine
end

section
/-! SUPPORT. The boundary of two pilot steps (R83, R84, R87, R90), and the claim and the release of the test generator (R91 to R93, R96).
It settles O33 and O51. -/

namespace Sys2Proof.Machine
open Sys2Proof

/-! ### The terms of a count (R83) -/

/-- R83: the rounded value lies within a half of the quotient. -/
theorem roundNearest_within (a : Int) {b : Nat} (pos : 0 < b) : 2 * (a - b * roundNearest a b).natAbs ≤ b := by
  have remainder : (2 * a.natAbs + b) % (2 * b) < 2 * b := Nat.mod_lt _ (by omega)
  have division := Nat.div_add_mod (2 * a.natAbs + b) (2 * b)
  rw [Nat.mul_assoc] at division
  unfold roundNearest
  dsimp only
  split
  · rw [Int.mul_neg, ← Int.natCast_mul]
    omega
  · rw [← Int.natCast_mul]
    omega

theorem toneTerm_within (phase : Nat) : 2 * (16 * sinTable phase - 2047 * toneTerm phase).natAbs ≤ 2047 :=
  roundNearest_within _ (by decide)

/-- R75, R83: a term is at most a quarter of the 64 pulse periods, so that two of them leave the count within 0 to 64. -/
theorem toneTerm_natAbs (phase : Nat) : (toneTerm phase).natAbs ≤ 16 := by
  have table := sinTable_natAbs phase
  have rounded := toneTerm_within phase
  omega

/-- R83: what a pilot oscillator adds to the count of its output. -/
def Osc.term (o : Osc) : Int := if o.on then toneTerm o.phase else 0

/-- R83, R90: what the test oscillator adds to the count of output p. -/
def Ttg.term (g : Ttg) (p : Fin 4) : Int := if g.held ∧ g.path = some p then toneTerm g.phase else 0

theorem Osc.term_natAbs (o : Osc) : o.term.natAbs ≤ 16 := by
  unfold Osc.term
  split
  · exact toneTerm_natAbs _
  · decide

theorem Ttg.term_natAbs (g : Ttg) (p : Fin 4) : (g.term p).natAbs ≤ 16 := by
  unfold Ttg.term
  split
  · exact toneTerm_natAbs _
  · decide

/-- R83: the count of a step is the mid level and the two terms, each rounded where its tone is active and 0 where it is not. -/
theorem stepCount_terms (p : Fin 4) (o : Osc) (g : Ttg) :
    ∃ pilot test : Int, (stepCount p o g : Int) = 32 + pilot + test ∧ stepCount p o g ≤ 64 ∧ (o.on = false → pilot = 0) ∧
      (o.on = true → 2 * (16 * sinTable o.phase - 2047 * pilot).natAbs ≤ 2047) ∧ (¬ (g.held = true ∧ g.path = some p) → test = 0) ∧
      (g.held = true ∧ g.path = some p → 2 * (16 * sinTable g.phase - 2047 * test).natAbs ≤ 2047) := by
  have count : stepCount p o g = (32 + o.term + g.term p).toNat := rfl
  have pilotBound := o.term_natAbs
  have testBound := g.term_natAbs p
  refine ⟨o.term, g.term p, by omega, by omega, fun off => if_neg (by simp [off]), fun active => ?_, fun off => if_neg off, fun active => ?_⟩
  · rw [Osc.term, if_pos active]
    exact toneTerm_within _
  · rw [Ttg.term, if_pos active]
    exact toneTerm_within _

/-- R83: with no tone active an output carries the mid level. -/
theorem stepCount_silent {o : Osc} {g : Ttg} (off : o.on = false) (free : g.held = false) (p : Fin 4) : stepCount p o g = 32 := by
  simp [stepCount, off, free]

/-! ### The boundary of two steps (R84, R87, R90) -/

/-- R84, R87: a pilot oscillator over the boundary of two steps, in station n. -/
def Osc.stepped (o : Osc) (n : Nat) : Osc := { o.endStep n with inStep := o.on }

/-- R90: the test oscillator over the boundary of two steps. -/
def Ttg.stepped (g : Ttg) : Ttg := { g.endStep with inStep := g.held }

theorem stepSize_eq (n : Nat) (m : PilotMode) : stepSize n m = 64 + 6 * (n - 1) + if m = .fill then 3 else 0 := by
  cases m <;> rfl

theorem Osc.stepped_eq (o : Osc) (n : Nat) :
    o.stepped n = { o with
      inStep := o.on
      phase :=
        if o.on = true ∧ o.inStep = true then (o.phase + (64 + 6 * (n - 1)) + (if o.mode = .fill then 3 else 0)) % 1024
        else o.phase } := by
  simp only [Osc.stepped, Osc.endStep, Bool.and_eq_true]
  split
  · rw [stepSize_eq, ← Nat.add_assoc]
  · rfl

theorem Osc.stepped_off {o : Osc} (off : o.on = false) (n : Nat) : o.stepped n = { o with inStep := false } := by
  simp [Osc.stepped_eq, off]

theorem Ttg.stepped_eq (g : Ttg) :
    g.stepped = { g with
      inStep := g.held
      phase := if g.held = true ∧ g.inStep = true then (g.phase + g.bin.getD 0) % 1024 else g.phase } := by
  simp only [Ttg.stepped, Ttg.endStep, Bool.and_eq_true]
  split <;> rfl

@[simp] theorem Osc.stepped_on (o : Osc) (n : Nat) : (o.stepped n).on = o.on := by rw [Osc.stepped_eq]

@[simp] theorem Ttg.stepped_held (g : Ttg) : g.stepped.held = g.held := by rw [Ttg.stepped_eq]

@[simp] theorem Ttg.stepped_path (g : Ttg) : g.stepped.path = g.path := by rw [Ttg.stepped_eq]

/-! ### PILOT_STEP -/

section
variable {s : State} (awake : s.awake = true)
include awake

theorem State.pilotStep_eq :
    s.pilotStep = { s with
      plg := { osc := each (fun o => o.stepped (s.station.getD 0)) s.plg.osc
               count := .ofFn fun p => stepCount p (s.plg.osc[p].stepped (s.station.getD 0)) s.ttg.stepped }
      ttg := s.ttg.stepped } := by
  refine (if_pos awake).trans ?_
  simp only [each_get]
  rfl

theorem State.pilotStep_osc (p : Fin 4) : s.pilotStep.plg.osc[p] = s.plg.osc[p].stepped (s.station.getD 0) := by
  simp only [State.pilotStep_eq awake, each_get]

theorem State.pilotStep_count (p : Fin 4) :
    s.pilotStep.plg.count[p] = stepCount p (s.plg.osc[p].stepped (s.station.getD 0)) s.ttg.stepped := by
  simp [State.pilotStep_eq awake]

theorem State.pilotStep_ttg : s.pilotStep.ttg = s.ttg.stepped := by rw [State.pilotStep_eq awake]

/-- R83, R90: a step boundary with no tone on. -/
theorem State.pilotStep_silent (off : ∀ p : Fin 4, s.plg.osc[p].on = false) (free : s.ttg.held = false) :
    s.pilotStep = { s with
      plg := { osc := each (fun o => { o with inStep := false }) s.plg.osc, count := .replicate 4 32 }
      ttg := { s.ttg with inStep := false } } := by
  have test : s.ttg.stepped = { s.ttg with inStep := false } := by simp [Ttg.stepped_eq, free]
  have pilotOff (p : Nat) (inside : p < 4) : s.plg.osc[p].on = false := off ⟨p, inside⟩
  have pilots : each (fun o => o.stepped (s.station.getD 0)) s.plg.osc = each (fun o => { o with inStep := false }) s.plg.osc := by
    ext p inside : 1
    simp [each, Osc.stepped_off (pilotOff p inside)]
  have counts : (Vector.ofFn fun p => stepCount p (s.plg.osc[p].stepped (s.station.getD 0)) s.ttg.stepped) = .replicate 4 32 := by
    ext p inside : 1
    simpa using stepCount_silent (by simp [pilotOff]) (by simp [free]) ⟨p, inside⟩
  rw [State.pilotStep_eq awake, pilots, counts, test]

end

/-- Settles O33: a step takes each oscillator to its `stepped` value, which leaves it on or off as it was, and a count is the mid level and
the terms of these values. -/
theorem pilotStepAdvances : Obligations.PilotStepAdvances := by
  refine ⟨fun n s awake station => ⟨s.pilotStep, rfl, fun p => ⟨?osc, ?count⟩, ?test, ?frame⟩,
    fun s awake _ off free => congrArg Host.Outcome.next (State.pilotStep_silent awake off free)⟩
  case osc => rw [State.pilotStep_osc awake, station, Option.getD_some, Osc.stepped_eq]
  case count =>
    have terms := stepCount_terms p (s.plg.osc[p].stepped n) s.ttg.stepped
    rw [Osc.stepped_on, Ttg.stepped_held, Ttg.stepped_path] at terms
    rwa [State.pilotStep_count awake, State.pilotStep_osc awake, State.pilotStep_ttg awake, station, Option.getD_some]
  case test => rw [State.pilotStep_ttg awake, Ttg.stepped_eq]
  case frame => rw [State.pilotStep_eq awake]

/-! ### GEN_CLAIM (R91, R92) -/

/-- R91: a claim in its ranges, as its five bytes of arguments give it. -/
theorem claimArgs_accepts {p : Fin 4} {bin secs : Nat} (lowBin : 1 ≤ bin) (highBin : bin ≤ 511)
    (plan : ¬ (64 ≤ bin ∧ bin ≤ 421 ∧ bin % 3 = 1)) (low : 10 ≤ secs) (high : secs ≤ 3600) :
    claimArgs (BitVec.ofNat 8 p.val :: (be16 bin ++ be16 secs)) = some { path := p, bin := bin, secs := secs } := by
  have value : (BitVec.ofNat 8 p.val).toNat = p.val := by
    rw [BitVec.toNat_ofNat]
    have := p.isLt
    omega
  have outside : inPilotPlan bin = false := by simpa [inPilotPlan, and_assoc] using plan
  simp only [be16, List.cons_append, List.nil_append, claimArgs, value, p.isLt, dite_true]
  rw [val16_be16 (by omega), val16_be16 (by omega)]
  exact if_pos ⟨lowBin, highBin, outside, low, high⟩

section
variable {requester : Byte} {args : List Byte} {a : ClaimArgs} {s : State} (k : Fin 6) (accepted : claimArgs args = some a)
  (used : s.kind a.path ≠ .unused)
include accepted used

theorem runGenClaim_takes (running : s.running = true) (free : s.ttg.held = false) :
    runGenClaim requester args k s =
      (State.withNotice { s with ttg := .claimed requester a } .test, .done .ok (claimResults a)) := by
  rw [runGenClaim, accepted]
  refine (if_neg used).trans ((if_neg (by simp [free])).trans ?_)
  rw [State.askNotice_eq _ _ _ (by exact running)]
  rfl

theorem runGenClaim_own (held : s.ttg.held = true) (own : s.ttg.holder = some requester) :
    runGenClaim requester args k s =
      if s.ttg.path = some a.path ∧ s.ttg.bin = some a.bin then
        ({ s with ttg := { s.ttg with time := .ofSecs a.secs } }, .done .ok (claimResults a))
      else ({ s with ttg := .claimed requester a }, .done .ok (claimResults a)) := by
  rw [runGenClaim, accepted]
  exact (if_neg used).trans ((if_pos held).trans (if_pos own))

theorem runGenClaim_renews (held : s.ttg.held = true) (own : s.ttg.holder = some requester) (path : s.ttg.path = some a.path)
    (bin : s.ttg.bin = some a.bin) :
    runGenClaim requester args k s = ({ s with ttg := { s.ttg with time := .ofSecs a.secs } }, .done .ok (claimResults a)) :=
  (runGenClaim_own k accepted used held own).trans (if_pos ⟨path, bin⟩)

theorem runGenClaim_moves (held : s.ttg.held = true) (own : s.ttg.holder = some requester)
    (other : s.ttg.path ≠ some a.path ∨ s.ttg.bin ≠ some a.bin) :
    runGenClaim requester args k s = ({ s with ttg := .claimed requester a }, .done .ok (claimResults a)) :=
  (runGenClaim_own k accepted used held own).trans (if_neg (not_and_or.mpr other))

theorem runGenClaim_held {h : Byte} (held : s.ttg.held = true) (holder : s.ttg.holder = some h) (foreign : h ≠ requester) :
    runGenClaim requester args k s = (s, .done .held (h :: be16 s.ttg.time.secs)) := by
  have other : ¬ s.ttg.holder = some requester := by simpa [holder] using foreign
  rw [runGenClaim, accepted]
  refine (if_neg used).trans ((if_pos held).trans ((if_neg other).trans ?_))
  rw [holder]
  rfl

end

/-! ### GEN_RELEASE (R93) -/

section
variable {requester : Byte} {s : State} (k : Fin 6)

theorem runGenRelease_free (free : s.ttg.held = false) : runGenRelease requester [] k s = (s, .done .notHeld []) :=
  if_neg (by simp [free])

theorem runGenRelease_foreign (held : s.ttg.held = true) (foreign : s.ttg.holder ≠ some requester) :
    runGenRelease requester [] k s = (s, .done .notOwner []) :=
  (if_pos held).trans (if_neg foreign)

theorem runGenRelease_own (running : s.running = true) (held : s.ttg.held = true) (own : s.ttg.holder = some requester) :
    runGenRelease requester [] k s = (State.withNotice { s with ttg := .free } .test, .done .ok []) := by
  refine (if_pos held).trans ((if_pos own).trans ?_)
  rw [State.askNotice_eq _ _ _ (by exact running)]
  rfl

end

/-- Settles O51: the branches of the two tables of R92 and R93; an OK answer to a claim carries its arguments again. -/
theorem testGeneratorIsClaimedAndReleased : Obligations.TestGeneratorIsClaimedAndReleased := by
  intro rq t k s₀ s now able
  refine ⟨fun p bin secs args held used lowBin highBin plan low high argsEq heldEq => ?claim, fun free => ?notHeld,
    fun held foreign => ?notOwner, fun held own => ?released⟩
  case claim =>
    have accepted : claimArgs args = some ⟨p, bin, secs⟩ := argsEq ▸ claimArgs_accepts lowBin highBin plan low high
    have results : claimResults ⟨p, bin, secs⟩ = args := argsEq.symm
    subst heldEq
    have answeredOk {u : State}
        (ran : runGenClaim rq.requester args k (s.requestIn k rq (22 :: args)) =
          (u.requestIn k rq (22 :: args), .done .ok (claimResults ⟨p, bin, secs⟩))) (ports : u.isUp = s.isUp) :
        exec (.genClaim rq args t) s₀ = .next (u.answered k rq (22 :: args) (0 :: 22 :: args)) := by
      rw [results] at ran
      exact exec_answered (c := .genClaim rq args t) rfl now able ran ports
    refine ⟨fun free => ?takes, fun held own path sameBin => ?renews, fun held own other => ?moves, fun h held holder foreign => ?heldByOther⟩
    case takes =>
      exact answeredOk (u := State.withNotice { s with ttg := .claimed rq.requester ⟨p, bin, secs⟩ } .test)
        (runGenClaim_takes k accepted (by exact used) (by exact able.1) (by exact free)) rfl
    case renews =>
      exact answeredOk (u := { s with ttg := { s.ttg with time := .ofSecs secs } })
        (runGenClaim_renews k accepted (by exact used) (by exact held) (by exact own) (by exact path) (by exact sameBin)) rfl
    case moves =>
      exact answeredOk (u := { s with ttg := .claimed rq.requester ⟨p, bin, secs⟩ })
        (runGenClaim_moves k accepted (by exact used) (by exact held) (by exact own) (by exact other)) rfl
    case heldByOther =>
      exact exec_answered (c := .genClaim rq args t) rfl now able
        (runGenClaim_held k accepted (by exact used) (by exact held) (by exact holder) foreign) rfl
  case notHeld =>
    exact exec_answered (c := .genRelease rq [] t) rfl now able (runGenRelease_free k (by exact free)) rfl
  case notOwner =>
    exact exec_answered (c := .genRelease rq [] t) rfl now able (runGenRelease_foreign k (by exact held) (by exact foreign)) rfl
  case released =>
    exact exec_answered (c := .genRelease rq [] t) (u := State.withNotice { s with ttg := .free } .test) rfl now able
      (runGenRelease_own k (by exact able.1) (by exact held) (by exact own)) rfl

end Sys2Proof.Machine
end

section
/-! SUPPORT. The PATH notice and the pilot's loss input of one path: what PMN, PLG and VDE leave of both (R86, R103, R106), and the trip of
the loss comparator (R100, R128, R137). It settles O24. -/

namespace Sys2Proof.Machine
open Sys2Proof

/-! ### A PATH notice in the send queue (R24, R25) -/

/-- R106: with a port UP, the send queue holds the notice of path p, marked for every UP port. -/
def State.noticed (s : State) (p : Fin 4) : Prop :=
  s.isUp .west = true ∨ s.isUp .east = true →
    ∃ e ∈ s.snq, e.item = .notice (.path p) ∧ (s.isUp .west = true → e.west = true) ∧ (s.isUp .east = true → e.east = true)

/-- R25: a request takes neither an entry nor a mark from the queue. -/
theorem snqAsk_keeps_entry {q : List Entry} {e : Entry} (item : Item) (prompt w x : Bool) (mem : e ∈ q) :
    ∃ e' ∈ snqAsk item prompt w x q, e'.item = e.item ∧ (e.west = true → e'.west = true) ∧ (e.east = true → e'.east = true) := by
  unfold snqAsk
  split
  · refine ⟨_, List.mem_map_of_mem mem, ?_⟩
    split
    · exact ⟨rfl, fun west => by simp [Entry.remark, west], fun east => by simp [Entry.remark, east]⟩
    · exact ⟨rfl, id, id⟩
  · split
    · exact ⟨e, List.mem_append_left _ mem, rfl, id, id⟩
    · exact ⟨e, mem, rfl, id, id⟩

theorem State.noticed_snqAsk {s : State} {p : Fin 4} (item : Item) (prompt w x : Bool) (h : s.noticed p) :
    State.noticed { s with snq := snqAsk item prompt w x s.snq } p := by
  intro up
  obtain ⟨e, mem, same, west, east⟩ := h up
  obtain ⟨e', mem', same', west', east'⟩ := snqAsk_keeps_entry item prompt w x mem
  exact ⟨e', mem', same'.trans same, west' ∘ west, east' ∘ east⟩

theorem State.noticed_askNotice {s : State} {p : Fin 4} (subject : Subject) (prompt : Bool) (h : s.noticed p) :
    (s.askNotice subject prompt).noticed p := by
  unfold State.askNotice; split
  · exact State.noticed_snqAsk _ _ _ _ h
  · exact h

theorem PathsStep.noticed {s u : State} (h : PathsStep s u) {p : Fin 4} (before : s.noticed p) : u.noticed p := by
  obtain ⟨_, _, _, paths, rfl⟩ := h
  exact foldl_keeps (fun q => State.noticed { s with snq := q } p) _ (fun _ _ => State.noticed_snqAsk _ _ _ _) paths s.snq before

/-! ### A path record replaced with its notice (R106) -/

/-- R106: the record of path p replaced, and its PATH notice asked for. -/
def State.notePath (s : State) (p : Fin 4) (f : PathRec → PathRec) : State :=
  State.askNotice (.path p) false { s with pmn := upd s.pmn p f }

section
variable (s : State) (p : Fin 4)

theorem PathStep.notePath (f : PathRec → PathRec) : PathStep p s (s.notePath p f) (f s.pmn[p]) s.vde[p] :=
  (PathStep.setPmn s p f).thenSame (.askNotice _ p)

theorem State.notePath_plg (f : PathRec → PathRec) : (s.notePath p f).plg = s.plg := State.askNotice_plg ..

theorem State.notePath_noticed {s : State} (running : s.running = true) (f : PathRec → PathRec) : (s.notePath p f).noticed p := by
  rw [State.notePath, State.askNotice_eq _ _ _ (by exact running)]
  exact snqAsk_marks_up

/-- R86: the loss input of path p replaced decides the mode of its oscillator. -/
theorem State.lossInput_osc (b : Bool) : (s.lossInput p b).plg.osc[p] = ({ s.plg.osc[p] with lossIn := b } : Osc).decided := by
  obtain ⟨q, e⟩ := s.setOsc_changes p ({ s.plg.osc[p] with lossIn := b } : Osc).decided
  rw [State.lossInput, e]
  exact (upd_get s.plg.osc p p fun _ => _).trans (if_pos rfl)

/-! ### Entry to LOSS (R100, R101) -/

/-- R100, R101: path p in LOSS with a loss stamp, its notice asked for and its loss input true, before VDE takes the event. -/
def State.inputLost (s : State) (p : Fin 4) (t : Stamp) : State :=
  State.lossInput p true (s.notePath p fun r => { r with input := .loss, lossStamp := some t })

theorem PathStep.inputLost (t : Stamp) :
    PathStep p s (s.inputLost p t) { s.pmn[p] with input := .loss, lossStamp := some t } s.vde[p] :=
  (PathStep.notePath s p _).thenSame (.lossInput _ p true)

theorem State.inputLost_osc (t : Stamp) : (s.inputLost p t).plg.osc[p] = ({ s.plg.osc[p] with lossIn := true } : Osc).decided := by
  rw [State.inputLost, State.lossInput_osc]
  simp only [State.notePath_plg]

theorem State.inputLost_vde (t : Stamp) : (s.inputLost p t).vde = s.vde := by
  obtain ⟨_, e⟩ := State.setOsc_changes (s.notePath p fun r => { r with input := .loss, lossStamp := some t }) p _
  exact (congrArg State.vde e).trans (State.askNotice_vde ..)

theorem State.enterLoss_eq (t : Stamp) :
    s.enterLoss p t = if s.kind p = .span then (s.inputLost p t).lossEvent p t else s.inputLost p t := by
  rw [← (PathStep.inputLost s p t).kind p]
  rfl

theorem State.lossEvent_plg (t : Stamp) : (s.lossEvent p t).plg = s.plg := by
  obtain ⟨_, _, e⟩ := s.lossEvent_changes p t
  rw [e]

/-- R100, R101: entry to LOSS leaves the oscillator with its loss input true, and so in FILL. -/
theorem State.enterLoss_osc (t : Stamp) : (s.enterLoss p t).plg.osc[p] = ({ s.plg.osc[p] with lossIn := true } : Osc).decided := by
  rw [State.enterLoss_eq]
  split
  · simp only [State.lossEvent_plg, State.inputLost_osc]
  · exact s.inputLost_osc p t

theorem State.enterLoss_noted (t : Stamp) :
    PathsStep (s.notePath p fun r => { r with input := .loss, lossStamp := some t }) (s.enterLoss p t) := by
  have lit : PathStep p (s.notePath p _) (s.inputLost p t) _ _ := .lossInput _ p true
  rw [State.enterLoss_eq]
  split
  · exact lit.paths.trans (PathStep.lossEvent _ p t).paths
  · exact lit.paths

theorem State.enterLoss_noticed {s : State} (running : s.running = true) (t : Stamp) : (s.enterLoss p t).noticed p :=
  (s.enterLoss_noted p t).noticed (State.notePath_noticed p running _)

end

/-! ### The loss event of a RESTORING path (R137) -/

/-- R137: a loss event of a path in RESTORING gives it the verdict of its cause back; a WATCH begins anew. -/
theorem State.returnToCause_fields (s : State) (p : Fin 4) (t : Stamp) {cause : Verdict} (held : s.vde[p].cause = some cause) :
    (s.returnToCause p t).verdict = cause ∧ (s.returnToCause p t).cause = none ∧
    (s.returnToCause p t).flaps = min 255 (s.vde[p].flaps + 1) ∧ (s.returnToCause p t).lossStamp = some t ∧
    (s.returnToCause p t).toneAbsent = 0 ∧ (s.returnToCause p t).holdOff = .stopped ∧
    (cause ≠ .watch → (s.returnToCause p t).evidence = s.vde[p].evidence ∧ (s.returnToCause p t).late = s.vde[p].late ∧
      (s.returnToCause p t).window = s.vde[p].window) ∧
    (cause = .watch → (s.returnToCause p t).watchStart = some s.clk.hut ∧
      (s.returnToCause p t).window = .running s.settings.window) := by
  unfold State.returnToCause
  simp only [held, Option.getD_some]
  split
  next watch => exact ⟨watch.symm, rfl, rfl, rfl, rfl, rfl, fun other => absurd watch other, fun _ => ⟨rfl, rfl⟩⟩
  next other => exact ⟨rfl, rfl, rfl, rfl, rfl, rfl, fun _ => ⟨rfl, rfl, rfl⟩, fun watch => absurd watch other⟩

/-! ### The trip (R99, R100) -/

/-- R99: the loss run of path p after a sample below its loss threshold. -/
def State.runRaised (s : State) (p : Fin 4) : State :=
  { s with pmn := upd s.pmn p fun r => { r with lossRun := s.settings.paths[p].lossRunLength } }

/-- R100: the sample that raises the loss run of a path not in LOSS to its loss run length brings it into LOSS. -/
theorem State.compareLoss_trips {s : State} {p : Fin 4} {code : Nat} (t : Stamp) (used : s.kind p ≠ .unused)
    (below : code < s.settings.paths[p].loss) (completes : s.pmn[p].lossRun + 1 = s.settings.paths[p].lossRunLength)
    (length : s.settings.paths[p].lossRunLength ≤ 255) (light : s.pmn[p].input ≠ .loss) :
    s.compareLoss p code t = (s.runRaised p).enterLoss p t := by
  have run : satAdd s.pmn[p].lossRun 1 = s.settings.paths[p].lossRunLength := by
    rw [satAdd, completes]
    exact Nat.min_eq_right length
  unfold State.compareLoss; dsimp only
  rw [if_pos ((s.monitored_iff p).mpr used), if_pos below, run, if_pos ⟨below, rfl, light⟩]
  rfl

/-- R99, R100: a tap sample that completes the loss run is entry to LOSS, from a state that differs from s in SMP, TCR and path records. -/
theorem State.tapSample_trips {s : State} {p : Fin 4} {ch : Fin 8} {code : Code} (t : Stamp) (here : s.atSlot ch.castSucc = true)
    (tap : ch.val = p.val) (used : s.kind p ≠ .unused) (below : code.toNat < s.settings.paths[p].loss)
    (completes : s.pmn[p].lossRun + 1 = s.settings.paths[p].lossRunLength) (length : s.settings.paths[p].lossRunLength ≤ 255)
    (light : s.pmn[p].input ≠ .loss) :
    ∃ smp tcr pmn, s.tapSample ch code t = (State.enterLoss p t { s with smp := smp, tcr := tcr, pmn := pmn }).settleAlarms := by
  have before : (s.sampled ch code).pmn[p] = _ := addSample_get ch code.toNat s.pmn p
  have compared : (s.sampled ch code).lossCompared ch code.toNat t = (s.sampled ch code).compareLoss p code.toNat t := by
    have input : ch.val < 4 := tap ▸ p.isLt
    have path : (⟨ch.val, input⟩ : Fin 4) = p := Fin.ext tap
    rw [State.lossCompared, dif_pos input, path]
  have trips := State.compareLoss_trips (s := s.sampled ch code) t used below (by rw [before]; exact completes) length
    (by rw [before]; exact light)
  rw [State.tapSample_eq code t here, compared, trips]
  exact ⟨_, _, _, rfl⟩

/-- Settles O24: the sample is entry to LOSS, whose record, pilot and notice are read off, and VDE's record is that of its loss event. -/
theorem tripEntersLoss : Obligations.TripEntersLoss := by
  intro p ch code t s₀ s now running scanning block slot tap used below completes length light
  have run : exec (.tapSample ch code t) s₀ = .next (s.tapSample ch code t) := by
    rw [now]
    rfl
  have here : s.atSlot ch.castSucc = true := (s.atSlot_iff _).mpr ⟨running, scanning, block, Fin.ext slot⟩
  obtain ⟨smp, tcr, pmn, trips⟩ := State.tapSample_trips t here tap used below completes length light
  let w : State := { s with smp := smp, tcr := tcr, pmn := pmn }
  have entered := PathStep.enterLoss w p t
  have up : (w.enterLoss p t).isUp = s.isUp := entered.paths.queue.2.1
  have noticed := State.enterLoss_noticed (s := w) p running t
  rw [State.noticed, up] at noticed
  have record := entered.record
  have osc := w.enterLoss_osc p t
  have verdict (span : s.kind p = .span) : (w.enterLoss p t).vde[p] = s.lossJudged p t := entered.verdict.trans (if_pos span)
  rw [trips, State.settleAlarms_eq] at run
  refine ⟨_, run, congrArg PathRec.input record, congrArg PathRec.lossStamp record, congrArg Osc.lossIn osc, congrArg Osc.mode osc,
    noticed, fun other => ?notSpan, fun span lit => ?event, fun cause span restoring held => ?returned⟩
  case notSpan =>
    have entry := w.enterLoss_eq p t
    rw [if_neg (by exact other)] at entry
    exact (congrArg State.vde entry).trans (w.inputLost_vde p t)
  case event =>
    have judged : (w.enterLoss p t).vde[p] = s.judgeLoss p t := (verdict span).trans (if_pos lit)
    obtain ⟨count, stamp, late, -, -, power, cut, watch⟩ := s.judgeLoss_fields p t
    have recent := s.recentLinkDown_iff p t
    dsimp only
    rw [judged]
    exact ⟨stamp, count, late, power, fun alive down => cut alive (recent.mpr down),
      fun alive idle => watch alive (Bool.eq_false_iff.mpr (mt recent.mp idle))⟩
  case returned =>
    have judged : (w.enterLoss p t).vde[p] = s.returnToCause p t := by
      rw [verdict span, State.lossJudged, restoring]
      rfl
    dsimp only
    rw [judged]
    exact s.returnToCause_fields p t held

end Sys2Proof.Machine
end

section
/-! SUPPORT. A bias reading: the 32nd conversion of a slow channel offers its reading, and PMN judges the bias-high flag from it (R54, R55,
R105, R106). It settles O31. -/

namespace Sys2Proof.Machine
open Sys2Proof

/-! ### The reading that a slow conversion forms (R53 to R55) -/

section
variable {s : State} {code : Code} {t : Stamp}

/-- R54, R55: the 32nd conversion offers the reading that it forms. -/
theorem State.slowConversion_reading (code : Nat) (full : s.smp.slowCnt[s.smp.slowPtr] = 31) :
    s.slowConversion code =
      State.offerReading s.smp.slowPtr ((s.smp.slowSum[s.smp.slowPtr] + code) / 32) { s with smp := s.smp.slowConverted code } := by
  simp only [State.slowConversion, Smp.slowConverted, full, upd, Nat.reduceAdd, Nat.reduceLeDiff, decide_true, if_true, if_false,
    Nat.lt_irrefl]

/-- R52, R54, R55: the shared slot of the 32nd conversion, with no probe waiting. -/
theorem State.sharedSlot_reading (slot : s.atSlot 8 = true) (idle : s.smp.probes = []) (full : s.smp.slowCnt[s.smp.slowPtr] = 31) :
    s.sharedSlot code t =
      (State.offerReading s.smp.slowPtr ((s.smp.slowSum[s.smp.slowPtr] + code.toNat) / 32)
        { s with smp := s.smp.cycleDone.slowConverted code.toNat }).settleAlarms := by
  have converts : s.sharedSlot code t = State.settleAlarms (State.slowConversion code.toNat { s with smp := s.smp.cycleDone }) := by
    rw [State.sharedSlot, if_pos slot]
    dsimp only [Smp.cycleDone]
    rw [idle]
  rw [converts, State.slowConversion_reading _ (by exact full)]
  rfl

end

/-! ### The bias-high flag (R105, R106) -/

/-- R105: a flag that is set stands until a reading of the limit less the margin. -/
theorem biasHighAfter_eq (limit margin : Nat) (before : Bool) (v : Nat) :
    biasHighAfter limit margin before v =
      if before then decide (¬ (v : Int) ≤ (limit : Int) - margin) else decide (v > limit) := by
  unfold biasHighAfter
  cases before with
  | true =>
    simp only [if_true, decide_eq_decide]
    omega
  | false => rfl

/-- R105: the bias-high flag of path p after a reading v of its bias; of an UNUSED path it is not judged. -/
def State.biasJudged (s : State) (p : Fin 4) (v : Nat) : Bool :=
  if s.kind p = .unused then s.pmn[p].biasHigh
  else biasHighAfter s.settings.paths[p].biasLimit s.settings.siteMargin s.pmn[p].biasHigh v

/-- R105, R106: the flag is all that a bias reading sets, and its change is all that it notifies. -/
theorem State.judgeBias_eq (s : State) (p : Fin 4) (v : Nat) (running : s.running = true) :
    s.judgeBias p v = { s with
      pmn := upd s.pmn p fun r => { r with biasHigh := s.biasJudged p v }
      snq := if s.biasJudged p v = s.pmn[p].biasHigh then s.snq else (s.withNotice (.path p)).snq } := by
  have stands (flag : Bool) (same : flag = s.pmn[p].biasHigh) : (upd s.pmn p fun r => { r with biasHigh := flag }) = s.pmn := by
    rw [same]
    exact upd_const_self s.pmn p
  unfold State.judgeBias State.biasJudged; dsimp only
  by_cases unused : s.kind p = .unused
  · have unmonitored : s.monitored p = false := Bool.eq_false_iff.mpr fun used => (s.monitored_iff p).mp used unused
    rw [unmonitored, if_pos unused, if_pos rfl, stands _ rfl]
    rfl
  · rw [(s.monitored_iff p).mpr unused, if_neg unused, Bool.true_and]
    by_cases same : biasHighAfter s.settings.paths[p].biasLimit s.settings.siteMargin s.pmn[p].biasHigh v = s.pmn[p].biasHigh
    · rw [if_pos same, stands _ same, if_neg (by rw [same, bne_self_eq_false]; nofun)]
    · rw [if_neg same, if_pos (bne_iff_ne.mpr same), State.askNotice_eq _ _ _ (by exact running)]
      rfl

/-- Settles O31: the 32nd conversion at channel p offers its reading to `State.judgeBias`. -/
theorem biasReadingJudgesFlag : Obligations.BiasReadingJudgesFlag := by
  intro p code t s₀ s now running scanning block slot idle pointer full
  have run : exec (.sharedSlot code t) s₀ = .next (s.sharedSlot code t) := by
    rw [now]
    rfl
  have here := (s.atSlot_iff 8).mpr ⟨running, scanning, block, slot⟩
  let v := (s.smp.slowSum[s.smp.slowPtr] + code.toNat) / 32
  let w : State := { s with smp := s.smp.cycleDone.slowConverted code.toNat }
  have offered : State.offerReading s.smp.slowPtr v w = w.judgeBias p v := by
    have bias : s.smp.slowPtr.val < 4 := pointer ▸ p.isLt
    have path : (⟨s.smp.slowPtr.val, bias⟩ : Fin 4) = p := Fin.ext pointer
    rw [State.offerReading, dif_pos bias, path]
  have own : (upd s.pmn p fun r => { r with biasHigh := s.biasJudged p v })[p] = { s.pmn[p] with biasHigh := s.biasJudged p v } :=
    (upd_get ..).trans (if_pos rfl)
  have flag := congrArg PathRec.biasHigh own
  rw [State.sharedSlot_reading here idle full, offered, State.settleAlarms_eq, State.judgeBias_eq _ p _ (by exact running)] at run
  refine ⟨_, v, run, rfl, ?judged, ?record, fun q other => ?others, fun same => ?quiet, fun changed => ?notified⟩
  case judged =>
    rw [← biasHighAfter_eq]
    exact flag
  case record => exact own.trans (congrArg (fun b => { s.pmn[p] with biasHigh := b }) flag.symm)
  case others => exact (upd_get ..).trans (if_neg other.symm)
  case quiet => exact if_pos (flag.symm.trans same)
  case notified => exact if_neg fun same => changed (flag.trans same)

end Sys2Proof.Machine
end

section
/-! SUPPORT. What a block end does to one path: its record, its PATH notice and its pilot's loss input, in both orders of TCR and PMN (R86,
R98, R101 to R104, R106). It settles O27. -/

namespace Sys2Proof.Machine
open Sys2Proof

/-! ### The notice and the loss input of a path (R86, R106) -/

/-- R86, R103: a path that is not in LOSS has its loss input false. -/
def State.lossInputFalse (s : State) (p : Fin 4) : Prop := s.pmn[p].input ≠ .loss → s.plg.osc[p].lossIn = false

/-- From s to u no change of the input state or of output-low of path p goes without its PATH notice, and none out of LOSS without its loss
input. -/
structure PathTold (p : Fin 4) (s u : State) : Prop where
  running   : u.running = s.running
  kept      : s.noticed p → u.noticed p
  notice    : s.running = true → u.pmn[p].input = s.pmn[p].input ∧ u.pmn[p].outputLow = s.pmn[p].outputLow ∨ u.noticed p
  lossInput : s.lossInputFalse p → u.lossInputFalse p

section
variable {p : Fin 4} {s u w : State}

theorem PathTold.trans (h : PathTold p s u) (h' : PathTold p u w) : PathTold p s w where
  running := h'.running.trans h.running
  kept := h'.kept ∘ h.kept
  notice running := by
    rcases h'.notice (h.running.trans running) with ⟨input, low⟩ | noticed
    · rcases h.notice running with ⟨input', low'⟩ | noticed
      · exact .inl ⟨input.trans input', low.trans low'⟩
      · exact .inr (h'.kept noticed)
    · exact .inr noticed
  lossInput := h'.lossInput ∘ h.lossInput

/-- What leaves the input state, output-low and the loss input has nothing to tell. -/
theorem PathTold.same (h : PathsStep s u) (input : u.pmn[p].input = s.pmn[p].input) (low : u.pmn[p].outputLow = s.pmn[p].outputLow)
    (lossIn : u.plg.osc[p].lossIn = s.plg.osc[p].lossIn) : PathTold p s u where
  running := h.queue.2.2
  kept := h.noticed
  notice _ := .inl ⟨input, low⟩
  lossInput before light := lossIn.trans (before (input ▸ light))

theorem PathTold.refl (p : Fin 4) (s : State) : PathTold p s s := .same (.refl s) rfl rfl rfl

/-- What begins with a notice need only see to the loss input. -/
theorem PathTold.noted {f : PathRec → PathRec} (h : PathsStep (s.notePath p f) u) (lossInput : s.lossInputFalse p → u.lossInputFalse p) :
    PathTold p s u where
  running := ((PathStep.notePath s p f).paths.trans h).queue.2.2
  kept := ((PathStep.notePath s p f).paths.trans h).noticed
  notice running := .inr (h.noticed (State.notePath_noticed p running f))
  lossInput := lossInput

/-- What happens to path q is nothing to tell of another. -/
theorem PathTold.other {q : Fin 4} {r : PathRec} {v : VerdictRec} (h : PathStep q s u r v) (other : q ≠ p) : PathTold p s u := by
  have record := (h.beside other).2.1
  refine .same h.paths (congrArg PathRec.input record) (congrArg PathRec.outputLow record) ?_
  obtain ⟨o, asks, rfl⟩ := h
  exact congrArg Osc.lossIn ((upd_get ..).trans (if_neg other))

end

theorem State.notePath_lossIn (s : State) (p : Fin 4) (f : PathRec → PathRec) :
    (s.notePath p f).plg.osc[p].lossIn = s.plg.osc[p].lossIn := by simp only [State.notePath_plg]

/-! ### PMN's judgement of an input mean (R101 to R103) -/

section
variable (s : State) (p : Fin 4)

/-- R103: path p out of LOSS with input mean m, its notice asked for and its loss input false, before VDE takes the restore event. -/
def State.inputRestored (m : Nat) : State :=
  State.lossInput p false (s.notePath p fun r => { r with input := lightState s.settings.paths[p] m })

/-- R103: path p leaves LOSS, with a restore event where it is SPAN. -/
def State.leaveLoss (m : Nat) : State :=
  if (s.inputRestored p m).kind p = .span then (s.inputRestored p m).restoreEvent p else s.inputRestored p m

theorem State.leaveLoss_step (m : Nat) :
    PathsStep (s.notePath p fun r => { r with input := lightState s.settings.paths[p] m }) (s.leaveLoss p m) ∧
      (∃ v, PathStep p s (s.leaveLoss p m) { s.pmn[p] with input := lightState s.settings.paths[p] m } v) ∧
      (s.leaveLoss p m).plg.osc[p].lossIn = false := by
  let noted := s.notePath p fun r => { r with input := lightState s.settings.paths[p] m }
  have restored : PathStep p noted (s.inputRestored p m) _ _ := .lossInput noted p false
  have osc : (s.inputRestored p m).plg.osc[p].lossIn = false := congrArg Osc.lossIn (noted.lossInput_osc p false)
  have taken := (PathStep.notePath s p _).thenSame restored
  unfold State.leaveLoss; split
  · refine ⟨(restored.trans (.restoreEvent _ p)).paths, ⟨_, taken.thenVerdict (.restoreEvent _ p)⟩, ?_⟩
    obtain ⟨_, _, e⟩ := (s.inputRestored p m).restoreEvent_changes p
    rw [e]
    exact osc
  · exact ⟨restored.paths, ⟨_, taken⟩, osc⟩

theorem firstState_eq_loss (c : PathSettings) (m : Nat) : firstState c m = .loss ↔ m < c.loss := by
  unfold firstState
  split
  next below => exact iff_of_true rfl below
  next above => exact iff_of_false (lightState_ne_loss c m) above

/-- R102: path p, in an input state st with light, takes the state that input mean m gives it. -/
def State.holdInput (m : Nat) (st : InputState) : State :=
  if heldState s.settings.paths[p] st m = st then s else s.notePath p fun r => { r with input := heldState s.settings.paths[p] st m }

theorem State.holdInput_cases (m : Nat) (st : InputState) :
    s.holdInput p m st = s ∨ ∃ st', s.holdInput p m st = s.notePath p fun r => { r with input := st' } := by
  unfold State.holdInput
  split
  · exact .inl rfl
  · exact .inr ⟨_, rfl⟩

/-- R101 to R103: what the judgement of an input mean can be: the first judgement below the loss threshold, which is entry to LOSS; the
restore of a path in LOSS; no change; or a change of the input state of a path not in LOSS. -/
theorem State.judgeInput_cases (m : Nat) (t : Stamp) :
    (s.pmn[p].input = .unknown ∧ m < s.settings.paths[p].loss) ∧ s.judgeInput p m t = s.enterLoss p t ∨
    ¬ (s.pmn[p].input = .unknown ∧ m < s.settings.paths[p].loss) ∧
      (s.pmn[p].input = .loss ∧ s.judgeInput p m t = s.leaveLoss p m ∨ s.judgeInput p m t = s ∨
        s.pmn[p].input ≠ .loss ∧ ∃ st, s.judgeInput p m t = s.notePath p fun r => { r with input := st }) := by
  unfold State.judgeInput; dsimp only
  cases s.pmn[p].input with
  | unknown =>
    by_cases below : m < s.settings.paths[p].loss
    · exact .inl ⟨⟨rfl, below⟩, if_pos ((firstState_eq_loss _ m).mpr below)⟩
    · exact .inr ⟨fun first => below first.2, .inr (.inr ⟨nofun, _, if_neg (mt (firstState_eq_loss _ m).mp below)⟩)⟩
  | loss =>
    refine .inr ⟨nofun, ?_⟩
    dsimp only
    split
    · exact .inl ⟨rfl, rfl⟩
    · exact .inr (.inl rfl)
  | ok => exact .inr ⟨nofun, .inr ((s.holdInput_cases p m _).imp id (⟨nofun, ·⟩))⟩
  | low => exact .inr ⟨nofun, .inr ((s.holdInput_cases p m _).imp id (⟨nofun, ·⟩))⟩
  | high => exact .inr ⟨nofun, .inr ((s.holdInput_cases p m _).imp id (⟨nofun, ·⟩))⟩

/-- R101: the loss stamp of a path record after a block end with stamp t and input mean m. -/
def PathRec.stampAfter (r : PathRec) (c : PathSettings) (m : Nat) (t : Stamp) : Option Stamp :=
  if r.input = .unknown ∧ m < c.loss then some t else r.lossStamp

theorem State.judgeInput_lossStamp (m : Nat) (t : Stamp) :
    (s.judgeInput p m t).pmn[p].lossStamp = s.pmn[p].stampAfter s.settings.paths[p] m t := by
  unfold PathRec.stampAfter
  rcases s.judgeInput_cases p m t with ⟨first, e⟩ | ⟨later, ⟨-, e⟩ | e | ⟨-, st, e⟩⟩
  · rw [e, if_pos first, (PathStep.enterLoss s p t).record]
  · obtain ⟨-, ⟨_, left⟩, -⟩ := s.leaveLoss_step p m
    rw [e, if_neg later, left.record]
  · rw [e, if_neg later]
  · rw [e, if_neg later, (PathStep.notePath s p _).record]

theorem PathTold.judgeInput (m : Nat) (t : Stamp) : PathTold p s (s.judgeInput p m t) := by
  rcases s.judgeInput_cases p m t with ⟨-, e⟩ | ⟨-, ⟨-, e⟩ | e | ⟨light, st, e⟩⟩
  · rw [e]
    exact .noted (s.enterLoss_noted p t) fun _ light => absurd (congrArg PathRec.input (PathStep.enterLoss s p t).record) light
  · obtain ⟨noted, -, lossIn⟩ := s.leaveLoss_step p m
    rw [e]
    exact .noted noted fun _ _ => lossIn
  · rw [e]
    exact .refl p s
  · rw [e]
    exact .noted (.refl _) fun before _ => (s.notePath_lossIn p _).trans (before light)

theorem PathTold.judgeOutput (n : Nat) : PathTold p s (s.judgeOutput p n) := by
  unfold State.judgeOutput; dsimp only; split
  · exact .refl p s
  · let judged (r : PathRec) : PathRec := { r with outputLow := outputLowAfter s.settings.paths[p] s.pmn[p].outputLow n }
    have input : (s.notePath p judged).pmn[p].input = s.pmn[p].input :=
      (congrArg PathRec.input (PathStep.notePath s p judged).record).trans rfl
    exact .noted (f := judged) (.refl _) fun before light => (s.notePath_lossIn p judged).trans (before (input ▸ light))

/-! ### PMN and TCR at a block end (R51) -/

theorem PathTold.pmnPathEnd (t : Stamp) (q : Fin 4) : PathTold p s (s.pmnPathEnd t q) := by
  by_cases own : q = p
  · subst own
    have formed := PathStep.setPmn s q PathRec.meansFormed
    have means : PathTold q s { s with pmn := upd s.pmn q PathRec.meansFormed } :=
      .same formed.paths ((congrArg PathRec.input formed.record).trans rfl) ((congrArg PathRec.outputLow formed.record).trans rfl) rfl
    unfold State.pmnPathEnd; dsimp only; split
    · exact (means.trans (.judgeInput _ q _ t)).trans (.judgeOutput _ q _)
    · exact means
  · obtain ⟨_, _, step⟩ := PathStep.exists_pmnPathEnd t s q
    exact .other step own

theorem PathTold.pmnBlockEnd (t : Stamp) : PathTold p s (s.pmnBlockEnd t) :=
  foldl_keeps (PathTold p s) _ (fun u q told => told.trans (.pmnPathEnd u p t q)) _ s (.refl p s)

/-- R86: the fill input leaves every loss input. -/
theorem State.fillInput_lossIn (q : Fin 4) (b : Bool) : (s.fillInput q b).plg.osc[p].lossIn = s.plg.osc[p].lossIn := by
  obtain ⟨_, e⟩ := s.setOsc_changes q ({ s.plg.osc[q] with fillIn := b } : Osc).decided
  have osc : (s.fillInput q b).plg.osc[p] = if q = p then ({ s.plg.osc[q] with fillIn := b } : Osc).decided else s.plg.osc[p] := by
    rw [State.fillInput, e]
    exact upd_get s.plg.osc q p fun _ => _
  rw [osc]
  split
  next own => exact own ▸ rfl
  next => rfl

theorem State.handLaneResult_lossIn (before : Vector Lane 16) (q : Fin 4) :
    (s.handLaneResult before q).plg.osc[p].lossIn = s.plg.osc[p].lossIn := by
  have result (u : State) (n f : Bool) : (u.laneResult q n f).plg.osc[p].lossIn = u.plg.osc[p].lossIn := by
    obtain ⟨_, _, e⟩ := u.laneResult_changes q n f
    rw [e]
  unfold State.handLaneResult; dsimp only; split
  · rw [result]
    split
    · rfl
    · exact s.fillInput_lossIn p q _
  · rfl

theorem PathTold.handLaneResult (before : Vector Lane 16) (q : Fin 4) : PathTold p s (s.handLaneResult before q) := by
  have step := PathStep.handLaneResult s q before
  by_cases own : q = p
  · subst own
    exact .same step.paths (congrArg PathRec.input step.record) (congrArg PathRec.outputLow step.record) (s.handLaneResult_lossIn q before q)
  · exact .other step own

theorem PathTold.lanesEvaluated : PathTold p s s.lanesEvaluated := by
  have noticed : s.noticed p → s.lanesEvaluated.noticed p := by
    intro before
    unfold State.lanesEvaluated; dsimp only; split
    · exact State.noticed_askNotice _ _ (by exact before)
    · exact before
  obtain ⟨_, e, -⟩ := s.lanesEvaluated_eq
  rw [e] at noticed ⊢
  exact ⟨rfl, noticed, fun _ => .inl ⟨rfl, rfl⟩, id⟩

theorem PathTold.tcrBlockEnd : PathTold p s s.tcrBlockEnd := by
  rw [State.tcrBlockEnd_eq]
  exact foldl_keeps (PathTold p s) _ (fun u q told => told.trans (.handLaneResult u p s.tcr q)) _ _ (.lanesEvaluated s p)

theorem PathTold.bothEnded (pmnFirst : Bool) (t : Stamp) : PathTold p s (s.bothEnded pmnFirst t) := by
  unfold State.bothEnded; split
  · exact .trans (.pmnBlockEnd s p t) (.tcrBlockEnd _ p)
  · exact .trans (.tcrBlockEnd s p) (.pmnBlockEnd _ p t)

end

/-! ### The path record (R98, R101 to R104) -/

section
variable {s : State} {p : Fin 4} (t : Stamp)

theorem State.pmnPathEnd_lossStamp (monitored : s.monitored p = true) :
    (s.pmnPathEnd t p).pmn[p].lossStamp = s.pmn[p].stampAfter s.settings.paths[p] (s.pmn[p].inSum / 1024) t := by
  let formed : State := { s with pmn := upd s.pmn p PathRec.meansFormed }
  have means : formed.pmn[p] = s.pmn[p].meansFormed := (PathStep.setPmn s p PathRec.meansFormed).record
  have ended : s.pmnPathEnd t p =
      State.judgeOutput p (s.pmn[p].outSum / 1024) (formed.judgeInput p (s.pmn[p].inSum / 1024) t) := if_pos monitored
  rw [ended, (PathStep.judgeOutput _ p _).record]
  exact (formed.judgeInput_lossStamp p _ t).trans ((congrArg (PathRec.stampAfter · _ _ t) means).trans rfl)

/-- R98, R101 to R104: the path record after PMN's block end. -/
theorem State.pmnBlockEnd_record :
    (s.monitored p = true → (s.pmnBlockEnd t).pmn[p] =
      s.pmn[p].ended s.settings.paths[p] (s.pmn[p].stampAfter s.settings.paths[p] (s.pmn[p].inSum / 1024) t)) ∧
    (s.monitored p = false → (s.pmnBlockEnd t).pmn[p] = s.pmn[p].meansFormed) := by
  obtain ⟨-, judged, unjudged⟩ := s.pmnBlockEnd_path t p
  refine ⟨fun monitored => ?_, fun unused => (unjudged unused).1⟩
  obtain ⟨stamp, record, -⟩ := judged monitored
  obtain ⟨w, ⟨before, record₀, -⟩, -, record', -⟩ := foldl_path (PathStep.exists_pmnPathEnd t) p s
  have settings : w.settings = s.settings := by
    obtain ⟨_, _, _, _, rfl⟩ := before
    rfl
  have monitored' : w.monitored p = true := by simpa only [State.monitored, State.kind, settings] using monitored
  have stamped := (congrArg PathRec.lossStamp record').trans (State.pmnPathEnd_lossStamp t monitored')
  have same : stamp = (s.pmnBlockEnd t).pmn[p].lossStamp := (congrArg PathRec.lossStamp record).symm
  rw [record₀, settings] at stamped
  rw [record, same]
  exact congrArg _ stamped

/-- R51: TCR leaves path records, so both orders leave PMN's. -/
theorem State.bothEnded_record (pmnFirst : Bool) :
    (s.monitored p = true → (s.bothEnded pmnFirst t).pmn[p] =
      s.pmn[p].ended s.settings.paths[p] (s.pmn[p].stampAfter s.settings.paths[p] (s.pmn[p].inSum / 1024) t)) ∧
    (s.monitored p = false → (s.bothEnded pmnFirst t).pmn[p] = s.pmn[p].meansFormed) := by
  unfold State.bothEnded; split
  · rw [((s.pmnBlockEnd t).tcrBlockEnd_path p).2.1]
    exact State.pmnBlockEnd_record t
  · have ended := State.pmnBlockEnd_record (s := s.tcrBlockEnd) (p := p) t
    obtain ⟨_, _, _, e⟩ := s.tcrBlockEnd_changes
    rw [(s.tcrBlockEnd_path p).2.1] at ended
    rw [e] at ended ⊢
    exact ended

end

/-! ### The input state and output-low, written as the rules give them (R101 to R104) -/

theorem restores_iff (c : PathSettings) (lossAtStart : Bool) (lossRun m : Nat) :
    restores c lossAtStart lossRun m = true ↔ lossAtStart = true ∧ lossRun < c.lossRunLength ∧ m ≥ c.loss + c.restoreMargin := by
  simp only [restores, Bool.and_eq_true, decide_eq_true_eq, and_assoc, ge_iff_le]

/-- R102: HIGH is left below the overload threshold less the margin. -/
theorem heldState_high (c : PathSettings) (m : Nat) :
    heldState c .high m =
      if (m : Int) ≥ (c.overload : Int) - c.restoreMargin then .high else if m < c.degrade then .low else .ok := by
  have bound : c.overload ≤ m + c.restoreMargin ↔ (m : Int) ≥ (c.overload : Int) - c.restoreMargin := by omega
  simp only [heldState, bound]

theorem outputLowAfter_eq (c : PathSettings) (before : Bool) (n : Nat) :
    outputLowAfter c before n = if before then decide (¬ n ≥ c.outputLow + c.restoreMargin) else decide (n < c.outputLow) := by
  simp only [outputLowAfter, ge_iff_le, Nat.not_le]

section
variable {s : State} (pmnFirst : Bool) (t : Stamp) (running : s.running = true) (scanning : s.smp.scanning = true)
  (due : s.smp.block = .endDue)
include running scanning due

/-- R51: a block end is taken by TCR and PMN; SMP's move to the next block and the alarms touch no path. -/
theorem exec_blockEnd {s₀ : State} (now : s = s₀.moment t) :
    ∃ smp stu, exec (.blockEnd pmnFirst t) s₀ = .next { State.bothEnded { s with smp := smp } pmnFirst t with stu := stu } := by
  have run : exec (.blockEnd pmnFirst t) s₀ = .next (s.blockEnd pmnFirst t) := by
    rw [now]
    rfl
  rw [State.blockEnd_eq pmnFirst t running scanning due, State.settleAlarms_eq] at run
  exact ⟨_, _, run⟩

end

/-- Settles O27: the record of both orders is `PathRec.ended` or `PathRec.meansFormed`, and no change of it is left untold. -/
theorem blockEndJudgesPaths : Obligations.BlockEndJudgesPaths := by
  intro pmnFirst t p s₀ s now running scanning due
  obtain ⟨smp, stu, run⟩ := exec_blockEnd pmnFirst t running scanning due now
  let w : State := { s with smp := smp }
  have told := PathTold.bothEnded w p pmnFirst t
  have up : (w.bothEnded pmnFirst t).isUp = s.isUp := by
    obtain ⟨_, _, _, _, e⟩ := w.bothEnded_changes pmnFirst t
    rw [e]
    rfl
  obtain ⟨judged, unjudged⟩ := State.bothEnded_record (s := w) (p := p) t pmnFirst
  have noticed (changed : (w.bothEnded pmnFirst t).pmn[p].input ≠ s.pmn[p].input ∨
      (w.bothEnded pmnFirst t).pmn[p].outputLow ≠ s.pmn[p].outputLow) (linked : s.isUp .west = true ∨ s.isUp .east = true) :
      ∃ e ∈ (w.bothEnded pmnFirst t).snq, e.item = .notice (.path p) := by
    rcases told.notice running with ⟨input, low⟩ | asked
    · exact absurd low (changed.resolve_left fun h => h input)
    · rw [State.noticed, up] at asked
      obtain ⟨e, mem, item, -⟩ := asked linked
      exact ⟨e, mem, item⟩
  refine ⟨_, _, _, _, run, rfl, rfl, rfl, ?_⟩
  cases monitored : s.monitored p with
  | false =>
    have record := unjudged monitored
    have unused : s.kind p = .unused := by
      by_contra used
      exact absurd ((s.monitored_iff p).mpr used) (Bool.eq_false_iff.mp monitored)
    dsimp only
    rw [record]
    exact ⟨rfl, rfl, rfl, rfl, rfl, rfl, fun _ => ⟨rfl, rfl⟩, fun used => absurd unused used⟩
  | true =>
    have record := judged monitored
    dsimp only
    refine ⟨?_, ?_, ?_, ?_, ?_, ?_, fun unused => absurd unused ((s.monitored_iff p).mp monitored), fun _ => ⟨?input, ?_, ?low, noticed⟩⟩
    all_goals rw [record]
    case low => exact outputLowAfter_eq ..
    case input =>
      change s.pmn[p].inputAfter s.settings.paths[p] (s.pmn[p].inSum / 1024) = _
      unfold PathRec.inputAfter
      cases s.pmn[p].input with
      | high => exact heldState_high ..
      | loss => simp only [restores_iff]; rfl
      | unknown => rfl
      | ok => rfl
      | low => rfl
    all_goals rfl

end Sys2Proof.Machine
end

section
/-! SUPPORT. The restore of a SPAN path at a block end, in both orders of TCR and PMN (R103, R125, R135). It settles O29. -/

namespace Sys2Proof.Machine
open Sys2Proof

section
variable {s : State} {p : Fin 4}

/-- R103: a path in LOSS whose input mean restores it leaves LOSS, and a SPAN path's verdict record takes the restore event. -/
theorem State.pmnBlockEnd_restored (t : Stamp) (span : s.kind p = .span) (before : s.pmn[p].input = .loss)
    (restored : restores s.settings.paths[p] s.pmn[p].lossAtStart s.pmn[p].lossRun (s.pmn[p].inSum / 1024) = true) :
    (s.pmnBlockEnd t).pmn[p].input ≠ .loss ∧ (s.pmnBlockEnd t).vde[p] = s.vde[p].restored s.settings.holdOff := by
  have monitored : s.monitored p = true := (s.monitored_iff p).mpr (by rw [span]; nofun)
  obtain ⟨stamp, record, verdict⟩ := (s.pmnBlockEnd_path t p).2.1 monitored
  rw [if_pos span, State.inputVerdict, before] at verdict
  have input : s.pmn[p].inputAfter s.settings.paths[p] (s.pmn[p].inSum / 1024) =
      lightState s.settings.paths[p] (s.pmn[p].inSum / 1024) := by
    rw [PathRec.inputAfter, before]
    exact if_pos restored
  refine ⟨?_, verdict.trans (if_pos restored)⟩
  rw [record]
  exact fun lost => lightState_ne_loss _ _ (input.symm.trans lost)

/-- R125: of a verdict that no light judges a lane result counts the absent tone alone. -/
theorem State.tcrBlockEnd_dark (dark : ¬ s.vde[p].judgesLight = true) : ∃ count, s.tcrBlockEnd.vde[p] = { s.vde[p] with toneAbsent := count } := by
  rw [(s.tcrBlockEnd_path p).2.2]
  split
  · rw [VerdictRec.laneJudged, if_neg dark]
    exact ⟨_, rfl⟩
  · exact ⟨s.vde[p].toneAbsent, rfl⟩

/-- R103, R135: in both orders a restored SPAN path in a loss verdict takes the restore event; TCR moves its tone-absent count alone. -/
theorem State.bothEnded_restored (pmnFirst : Bool) (t : Stamp) (span : s.kind p = .span) (loss : s.vde[p].verdict.isLoss = true)
    (before : s.pmn[p].input = .loss)
    (restored : restores s.settings.paths[p] s.pmn[p].lossAtStart s.pmn[p].lossRun (s.pmn[p].inSum / 1024) = true) :
    (s.bothEnded pmnFirst t).pmn[p].input ≠ .loss ∧
      ∃ count, (s.bothEnded pmnFirst t).vde[p] = { s.vde[p].restored s.settings.holdOff with toneAbsent := count } := by
  unfold State.bothEnded; split
  · obtain ⟨light, verdict⟩ := State.pmnBlockEnd_restored t span before restored
    obtain ⟨count, counted⟩ := State.tcrBlockEnd_dark (s := s.pmnBlockEnd t) (p := p)
      (by rw [verdict]; exact VerdictRec.dark_of_restored loss _)
    rw [verdict] at counted
    rw [((s.pmnBlockEnd t).tcrBlockEnd_path p).2.1]
    exact ⟨light, count, counted⟩
  · obtain ⟨count, counted⟩ := State.tcrBlockEnd_dark (VerdictRec.dark_of_isLoss loss)
    have record := (s.tcrBlockEnd_path p).2.1
    obtain ⟨_, _, _, e⟩ := s.tcrBlockEnd_changes
    have same : s.tcrBlockEnd.kind p = s.kind p ∧ s.tcrBlockEnd.settings = s.settings := by
      rw [e]
      exact ⟨rfl, rfl⟩
    obtain ⟨kind, settings⟩ := same
    obtain ⟨light, verdict⟩ := State.pmnBlockEnd_restored (s := s.tcrBlockEnd) t (kind.trans span) (by rw [record, before])
      (by rw [record, settings]; exact restored)
    refine ⟨light, count, ?_⟩
    rw [verdict, counted, settings, VerdictRec.restored, VerdictRec.restored, if_pos (by exact loss), if_pos loss]

end

/-- Settles O29: the record is that of the restore event but for its tone-absent count, and the path out of LOSS has its loss input false. -/
theorem restoreMovesToRestoring : Obligations.RestoreMovesToRestoring := by
  intro pmnFirst t p s₀ s now running scanning due span loss before atStart run mean
  obtain ⟨smp, stu, taken⟩ := exec_blockEnd pmnFirst t running scanning due now
  have restored := (restores_iff s.settings.paths[p] _ _ _).mpr ⟨atStart, run, mean⟩
  let w : State := { s with smp := smp }
  obtain ⟨light, count, verdict⟩ := State.bothEnded_restored (s := w) pmnFirst t span loss before restored
  have lossIn := (PathTold.bothEnded w p pmnFirst t).lossInput (fun lit => absurd before lit) light
  rw [VerdictRec.restored, if_pos (by exact loss)] at verdict
  refine ⟨_, taken, light, lossIn, ?_⟩
  dsimp only
  rw [verdict]
  exact ⟨rfl, rfl, rfl, rfl, rfl, rfl, rfl, rfl, rfl⟩

end Sys2Proof.Machine
end

section
/-! SUPPORT. The bodies that NBV reads (R112, R114, R115, 12.2, 12.3): which of them it can use, and what it takes from their bytes. -/

namespace Sys2Proof.Machine
open Sys2Proof

/-! ### Codes (R170) -/

theorem PathKind.ofCode_eq_none_iff (n : Nat) : PathKind.ofCode n = none ↔ 3 ≤ n := by
  constructor
  · intro unnamed
    by_contra low
    interval_cases n <;> cases unnamed
  · intro high
    obtain ⟨m, rfl⟩ := Nat.exists_eq_add_of_le' high
    rfl

theorem PathKind.code_of_ofCode {n : Nat} {k : PathKind} (h : PathKind.ofCode n = some k) : k.code = n := by
  unfold PathKind.ofCode at h; split at h <;> cases h <;> rfl

theorem InputState.ofCode_eq_none_iff (n : Nat) : InputState.ofCode n = none ↔ 5 ≤ n := by
  constructor
  · intro unnamed
    by_contra low
    interval_cases n <;> cases unnamed
  · intro high
    obtain ⟨m, rfl⟩ := Nat.exists_eq_add_of_le' high
    rfl

theorem InputState.code_of_ofCode {n : Nat} {st : InputState} (h : InputState.ofCode n = some st) : st.code = n := by
  unfold InputState.ofCode at h; split at h <;> cases h <;> rfl

theorem Verdict.ofCode_eq_none_iff (n : Nat) : Verdict.ofCode n = none ↔ 11 ≤ n := by
  constructor
  · intro unnamed
    by_contra low
    interval_cases n <;> cases unnamed
  · intro high
    obtain ⟨m, rfl⟩ := Nat.exists_eq_add_of_le' high
    rfl

theorem Verdict.code_of_ofCode {n : Nat} {v : Verdict} (h : Verdict.ofCode n = some v) : v.code = n := by
  unfold Verdict.ofCode at h; split at h <;> cases h <;> rfl

/-! ### STATE bodies (R114, 12.2) -/

theorem readSummary_eq_none_iff (b v : Byte) :
    readSummary b v = none ↔ 3 ≤ b.toNat / 64 ∨ 5 ≤ b.toNat / 8 % 8 ∨ 11 ≤ v.toNat / 16 := by
  rw [← PathKind.ofCode_eq_none_iff, ← InputState.ofCode_eq_none_iff, ← Verdict.ofCode_eq_none_iff, readSummary]
  cases PathKind.ofCode (b.toNat / 64) with
  | none => simp
  | some kind =>
    cases InputState.ofCode (b.toNat / 8 % 8) with
    | none => simp
    | some input => cases Verdict.ofCode (v.toNat / 16) <;> simp

/-- R114: a summary carries the fields that the codes of its two bytes name. -/
theorem readSummary_fields {b v : Byte} {m : Summary} (h : readSummary b v = some m) :
    ∃ (kind : PathKind) (input : InputState) (verdict : Verdict),
      m = { kind := some kind, input := some input, outputLow := some (b.getLsbD 1)
            pilot := some (if b.getLsbD 2 then .fill else .normal), verdict := some verdict } ∧
      kind.code = b.toNat / 64 ∧ input.code = b.toNat / 8 % 8 ∧ verdict.code = v.toNat / 16 := by
  simp only [readSummary, Option.bind_eq_bind, Option.bind_eq_some_iff, Option.pure_def, Option.some.injEq] at h
  obtain ⟨kind, isKind, input, isInput, verdict, isVerdict, rfl⟩ := h
  exact ⟨kind, input, verdict, rfl, PathKind.code_of_ofCode isKind, InputState.code_of_ofCode isInput,
    Verdict.code_of_ofCode isVerdict⟩

/-- R114: the summary of each path is that of its two bytes. -/
theorem readStateBody_eq_some_iff (body : List Byte) (m : Vector Summary 4) :
    readStateBody body = some m ↔
      body.length = 23 ∧ ∀ i : Fin 4, readSummary (body.getD (2 + 2 * i.val) 0) (body.getD (3 + 2 * i.val) 0) = some m[i] := by
  unfold readStateBody
  split
  next whole =>
    simp only [Option.bind_eq_bind, Option.bind_eq_some_iff, Option.pure_def, Option.some.injEq, whole, true_and, Fin.forall_fin_succ,
      IsEmpty.forall_iff, and_true]
    constructor
    · rintro ⟨a, ha, b, hb, c, hc, d, hd, rfl⟩
      exact ⟨ha, hb, hc, hd⟩
    · rintro ⟨ha, hb, hc, hd⟩
      refine ⟨_, ha, _, hb, _, hc, _, hd, ?_⟩
      ext i bound : 1
      interval_cases i <;> rfl
  next short => simp [short]

/-- R112: NBV can use a STATE body exactly when it has its length and each code in it names a value. -/
theorem readStateBody_eq_none_iff (body : List Byte) :
    readStateBody body = none ↔
      body.length ≠ 23 ∨ ∃ i : Fin 4, readSummary (body.getD (2 + 2 * i.val) 0) (body.getD (3 + 2 * i.val) 0) = none := by
  constructor
  · intro unread
    by_contra usable
    simp only [not_or, not_ne_iff, not_exists, Option.ne_none_iff_exists'] at usable
    obtain ⟨whole, named⟩ := usable
    choose m read using named
    have body_read : readStateBody body = some (.ofFn m) :=
      (readStateBody_eq_some_iff _ _).mpr ⟨whole, fun i => by simpa using read i⟩
    rw [unread] at body_read
    cases body_read
  · intro unusable
    refine Option.eq_none_iff_forall_ne_some.mpr fun m read => ?_
    obtain ⟨whole, fields⟩ := (readStateBody_eq_some_iff _ _).mp read
    rcases unusable with short | ⟨i, unnamed⟩
    · exact short whole
    · rw [fields i] at unnamed
      cases unnamed

/-! ### NOTICE bodies (R112, 12.3) -/

theorem readPathNotice_eq_none_iff (body : List Byte) (p : Fin 4) :
    readPathNotice body p = none ↔ body.length ≠ 15 ∨ 11 ≤ (body.getD 1 0).toNat ∨ 5 ≤ (body.getD 4 0).toNat := by
  rw [← InputState.ofCode_eq_none_iff, ← Verdict.ofCode_eq_none_iff, readPathNotice]
  split
  next whole =>
    cases Verdict.ofCode (body.getD 1 0).toNat with
    | none => simp
    | some verdict => cases InputState.ofCode (body.getD 4 0).toNat <;> simp [whole]
  next short => simp [short]

/-- R115, R119, 12.3: what a PATH notice says, from its bytes. -/
theorem readPathNotice_eq_some {body : List Byte} {p : Fin 4} {n : NoticeReport} (h : readPathNotice body p = some n) :
    ∃ r : PathReport, n = .path r ∧ r.path = p ∧ r.verdict.code = (body.getD 1 0).toNat ∧ r.prompted = (body.getD 3 0).getLsbD 1 ∧
      r.outputLow = (body.getD 3 0).getLsbD 2 ∧ r.pilot = (if (body.getD 3 0).getLsbD 4 then .fill else .normal) ∧
      r.input.code = (body.getD 4 0).toNat ∧ r.fedBy = (body.getD 5 0).toNat := by
  unfold readPathNotice at h
  split at h
  · simp only [Option.bind_eq_bind, Option.bind_eq_some_iff, Option.pure_def, Option.some.injEq] at h
    obtain ⟨verdict, isVerdict, input, isInput, rfl⟩ := h
    exact ⟨_, rfl, rfl, Verdict.code_of_ofCode isVerdict, rfl, rfl, rfl, InputState.code_of_ofCode isInput, rfl⟩
  · cases h

section
variable {subject : Byte} {rest : List Byte}

/-- R112, 12.3: subjects 0 to 3 are the paths. -/
theorem readNoticeBody_path (h : subject.toNat < 4) :
    readNoticeBody (subject :: rest) = readPathNotice (subject :: rest) ⟨subject.toNat, h⟩ := dif_pos h

/-- R116, 12.3: subject 4 is POWER, in four bytes of which the second is the form. -/
theorem readNoticeBody_power (h : subject.toNat = 4) :
    readNoticeBody (subject :: rest) =
      if rest.length = 3 ∧ (rest.getD 0 0).toNat < 2 then some (.power ((rest.getD 0 0).toNat = 1)) else none := by
  obtain rfl : subject = 4 := BitVec.eq_of_toNat_eq h
  have clear : rest.getD 0 0 = 0 ↔ (rest.getD 0 0).toNat = 0 := BitVec.toNat_inj.symm
  have set : rest.getD 0 0 = 1 ↔ (rest.getD 0 0).toNat = 1 := BitVec.toNat_inj.symm
  simp only [readNoticeBody, List.getD_cons_succ, List.length_cons, clear, set]
  generalize (rest.getD 0 0).toNat = form
  by_cases whole : rest.length = 3
  · rcases show form = 0 ∨ form = 1 ∨ 2 ≤ form by omega with rfl | rfl | none
    · simp [whole]
    · simp [whole]
    · simp [whole, show form ≠ 0 by omega, show form ≠ 1 by omega, Nat.not_lt.mpr none]
  · simp [whole]

/-- R112, 12.3: subjects 5 to 8 say nothing to NBV, and no other byte is a subject. -/
theorem readNoticeBody_other (h : 5 ≤ subject.toNat) :
    readNoticeBody (subject :: rest) =
      if subject.toNat = 5 ∧ rest.length = 5 ∨ 6 ≤ subject.toNat ∧ subject.toNat ≤ 8 ∧ rest.length = 4 then some .other else none := by
  have code (n : Byte) : subject = n ↔ subject.toNat = n.toNat := BitVec.toNat_inj.symm
  simp only [readNoticeBody, code, dif_neg (show ¬ subject.toNat < 4 by omega), List.length_cons, BitVec.ofNat_eq_ofNat,
    BitVec.toNat_ofNat, Nat.reducePow, Nat.reduceMod]
  grind

end

/-- R112: a NOTICE body that NBV cannot use: one that is empty or of no subject, one of another length than its subject's, and one in
which a code that NBV uses names no value. -/
theorem readNoticeBody_eq_none_iff (body : List Byte) :
    readNoticeBody body = none ↔
      body = [] ∨ 9 ≤ (body.getD 0 0).toNat ∨
      (body.getD 0 0).toNat ≤ 3 ∧ (body.length ≠ 15 ∨ 11 ≤ (body.getD 1 0).toNat ∨ 5 ≤ (body.getD 4 0).toNat) ∨
      (body.getD 0 0).toNat = 4 ∧ (body.length ≠ 4 ∨ 2 ≤ (body.getD 1 0).toNat) ∨
      (body.getD 0 0).toNat = 5 ∧ body.length ≠ 6 ∨
      6 ≤ (body.getD 0 0).toNat ∧ (body.getD 0 0).toNat ≤ 8 ∧ body.length ≠ 5 := by
  cases body with
  | nil => simp [readNoticeBody]
  | cons subject rest =>
    rw [List.getD_cons_zero]
    rcases show subject.toNat < 4 ∨ subject.toNat = 4 ∨ 5 ≤ subject.toNat by omega with path | power | other
    · rw [readNoticeBody_path path, readPathNotice_eq_none_iff]
      simp only [reduceCtorEq, false_or]
      omega
    · rw [readNoticeBody_power power]
      simp only [ite_eq_right_iff, reduceCtorEq, imp_false, false_or, List.getD_cons_succ, List.length_cons]
      omega
    · rw [readNoticeBody_other other]
      simp only [ite_eq_right_iff, reduceCtorEq, imp_false, false_or, List.length_cons]
      omega

/-- R112: a body of no report but usable has a subject beyond POWER. -/
theorem readNoticeBody_other_subject {body : List Byte} (h : readNoticeBody body = some .other) : 5 ≤ (body.getD 0 0).toNat := by
  cases body with
  | nil => cases h
  | cons subject rest =>
    rw [List.getD_cons_zero]
    by_contra low
    rcases show subject.toNat < 4 ∨ subject.toNat = 4 by omega with path | power
    · rw [readNoticeBody_path path] at h
      obtain ⟨_, report, -⟩ := readPathNotice_eq_some h
      cases report
    · rw [readNoticeBody_power power] at h
      split_ifs at h
      cases h

/-- R115, 12.3: a PATH report comes from a PATH notice of the path in its first byte. -/
theorem readNoticeBody_eq_path {body : List Byte} {r : PathReport} (h : readNoticeBody body = some (.path r)) :
    r.path.val = (body.getD 0 0).toNat ∧ readPathNotice body r.path = some (.path r) := by
  cases body with
  | nil => cases h
  | cons subject rest =>
    rcases show subject.toNat < 4 ∨ subject.toNat = 4 ∨ 5 ≤ subject.toNat by omega with path | power | other
    · rw [readNoticeBody_path path] at h
      obtain ⟨_, report, same, -⟩ := readPathNotice_eq_some h
      cases report
      rw [same]
      exact ⟨rfl, h⟩
    · rw [readNoticeBody_power power] at h
      split_ifs at h
      cases h
    · rw [readNoticeBody_other other] at h
      split_ifs at h
      cases h

/-- R116, 12.3: the form of a POWER notice. -/
theorem readNoticeBody_eq_power {body : List Byte} {form : Bool} (length : body.length = 4) (subject : body.getD 0 0 = 4)
    (code : body.getD 1 0 = if form then 1 else 0) : readNoticeBody body = some (.power form) := by
  obtain ⟨first, rest, rfl⟩ := List.exists_cons_of_length_eq_add_one length
  rw [List.getD_cons_zero] at subject
  rw [List.getD_cons_succ] at code
  rw [readNoticeBody_power (by rw [subject]; rfl), code, Nat.succ.inj length]
  cases form <;> rfl

end Sys2Proof.Machine
end

section
/-! SUPPORT. The frames that NBV takes (Chapter 8): the verdicts that a STATE, a PATH or a POWER notice decides (R131, R134), and what each
frame leaves of the part. It settles O35, O36, O38 and O39. -/

namespace Sys2Proof.Machine
open Sys2Proof

/-! ### Deciding events (R131, R134, R140) -/

/-- R131, R134: the verdicts that a deciding event decides. -/
def Verdict.undecided (v : Verdict) : Prop := v = .watch ∨ v = .unresolved

/-- R131, R134: the record of an undecided path that an event decides. -/
def VerdictRec.decidedAs (r : VerdictRec) (v : Verdict) (e : Evidence) : VerdictRec :=
  { r with
    verdict := v
    evidence := e
    late := decide (r.verdict = .unresolved)
    window := if r.verdict = .watch then .stopped else r.window }

theorem VerdictRec.decidedAs_watch {r : VerdictRec} (h : r.verdict = .watch) (v : Verdict) (e : Evidence) :
    r.decidedAs v e = { r with verdict := v, evidence := e, late := false, window := .stopped } := by
  simp [VerdictRec.decidedAs, h]

theorem VerdictRec.decidedAs_unresolved {r : VerdictRec} (h : r.verdict = .unresolved) (v : Verdict) (e : Evidence) :
    r.decidedAs v e = { r with verdict := v, evidence := e, late := true } := by
  simp [VerdictRec.decidedAs, h]

/-- From s to u the paths that `told` names have been handed an event which decides verdict v on evidence e: those of them undecided are
decided, each with its PATH notice, and nothing else changes. -/
def Decides (v : Verdict) (e : Evidence) (told : Fin 4 → Prop) (s u : State) : Prop :=
  ∃ vde paths, u = { s with vde := vde, snq := askPaths s.isUp paths s.snq } ∧
    ∀ p : Fin 4, (p ∈ paths ↔ told p ∧ s.vde[p].verdict.undecided) ∧ (p ∈ paths → vde[p] = s.vde[p].decidedAs v e) ∧
      (p ∉ paths → vde[p] = s.vde[p])

section
variable {v : Verdict} {e : Evidence} {told told' : Fin 4 → Prop} {s u w : State}

theorem Decides.untold (s : State) (none : ∀ p, ¬ told p) : Decides v e told s s :=
  ⟨s.vde, [], rfl, fun p => ⟨by simp [none p], nofun, fun _ => rfl⟩⟩

theorem Decides.of_iff (h : Decides v e told s u) (same : ∀ p, told p ↔ told' p) : Decides v e told' s u :=
  (funext fun p => propext (same p) : told = told') ▸ h

theorem Decides.vdeChange (h : Decides v e told s u) : VdeChange s u := by
  obtain ⟨vde, _, rfl, -⟩ := h
  exact ⟨vde, _, rfl⟩

theorem Decides.verdict_of_decided (h : Decides v e told s u) {p : Fin 4} (named : told p) (undecided : s.vde[p].verdict.undecided) :
    u.vde[p] = s.vde[p].decidedAs v e := by
  obtain ⟨_, _, rfl, each⟩ := h
  obtain ⟨decided, record, -⟩ := each p
  exact record (decided.mpr ⟨named, undecided⟩)

theorem Decides.verdict_of_not (h : Decides v e told s u) {p : Fin 4} (stands : ¬ (told p ∧ s.vde[p].verdict.undecided)) : u.vde[p] = s.vde[p] := by
  obtain ⟨_, _, rfl, each⟩ := h
  obtain ⟨decided, -, record⟩ := each p
  exact record (mt decided.mp stands)

/-- R140: with no path decided no notice is asked for. -/
theorem Decides.snq_of_none (h : Decides v e told s u) (none : ∀ p, ¬ (told p ∧ s.vde[p].verdict.undecided)) : u.snq = s.snq := by
  obtain ⟨_, paths, rfl, each⟩ := h
  obtain rfl : paths = [] := List.eq_nil_iff_forall_not_mem.mpr fun p => mt (each p).1.mp (none p)
  rfl

/-- R24, R140: the notices of the decided paths aside, the send queue keeps its entries. -/
theorem Decides.snq_filter (h : Decides v e told s u) {keep : Entry → Bool}
    (other : ∀ p, told p ∧ s.vde[p].verdict.undecided → ∀ x : Entry, x.item = .notice (.path p) → keep x = false) :
    u.snq.filter keep = s.snq.filter keep := by
  obtain ⟨_, paths, rfl, each⟩ := h
  exact askPaths_filter fun p asked => other p ((each p).1.mp asked)

/-- R140: a decided path has its notice in the send queue. -/
theorem Decides.noticed (h : Decides v e told s u) {p : Fin 4} (named : told p) (undecided : s.vde[p].verdict.undecided) : u.noticed p := by
  obtain ⟨_, paths, rfl, each⟩ := h
  obtain ⟨before, after, split⟩ := List.append_of_mem ((each p).1.mpr ⟨named, undecided⟩)
  intro up
  dsimp only
  rw [split, askPaths_append]
  exact foldl_keeps (fun q => State.noticed { s with snq := q } p) _ (fun _ _ => State.noticed_snqAsk _ _ _ _) after _
    (fun up => snqAsk_marks_up up) up

/-- R131, R134: a path once decided stands so at a second event of the same verdict. -/
theorem Decides.trans (settled : ¬ v.undecided) (h : Decides v e told s u) (h' : Decides v e told' u w) :
    Decides v e (fun p => told p ∨ told' p) s w := by
  obtain ⟨vde, paths, rfl, first⟩ := h
  obtain ⟨vde', paths', rfl, second⟩ := h'
  refine ⟨vde', paths ++ paths', by rw [askPaths_append]; rfl, fun p => ?_⟩
  obtain ⟨decided, early, stands⟩ := first p
  obtain ⟨decided', late, stands'⟩ := second p
  dsimp only at decided' late stands'
  by_cases mem : p ∈ paths
  · have once : p ∉ paths' := fun again => by
      obtain ⟨-, undecided⟩ := decided'.mp again
      rw [early mem] at undecided
      exact settled undecided
    obtain ⟨named, undecided⟩ := decided.mp mem
    exact ⟨by simpa [mem, named] using undecided, fun _ => (stands' once).trans (early mem),
      fun none => absurd (List.mem_append_left _ mem) none⟩
  · have same := stands mem
    rw [same] at decided' late stands'
    have unnamed := mt decided.mpr mem
    simp only [List.mem_append, mem, false_or]
    exact ⟨by rw [decided']; tauto, late, stands'⟩

/-- R131, R134, R140: one path handed a deciding event in RUNNING. -/
theorem Decides.decideLoss (settled : ¬ v.undecided) (running : s.running = true) (p : Fin 4) :
    Decides v e (· = p) s (s.decideLoss p v e) := by
  by_cases undecided : s.vde[p].verdict.undecided
  · have taken : s.decideLoss p v e = s.setVerdict p (s.vde[p].decidedAs v e) := by
      rw [State.decideLoss]
      rcases undecided with watch | unresolved
      · rw [if_pos watch, VerdictRec.decidedAs_watch watch]
      · rw [if_neg (by rw [unresolved]; decide), if_pos unresolved, VerdictRec.decidedAs_unresolved unresolved]
    have changed : (s.vde[p].decidedAs v e).verdict ≠ s.vde[p].verdict := fun (same : v = _) => settled (same ▸ undecided)
    rw [taken, State.setVerdict_eq running p changed]
    refine ⟨_, [p], rfl, fun q => ?_⟩
    have record : (s.vde.set p.val (s.vde[p].decidedAs v e) p.isLt)[q] = if p = q then s.vde[p].decidedAs v e else s.vde[q] :=
      upd_get s.vde p q (VerdictRec.decidedAs · v e)
    rw [record]
    by_cases same : q = p
    · subst q
      simpa using undecided
    · simp [same, Ne.symm same]
  · obtain ⟨notWatch, notUnresolved⟩ := not_or.mp undecided
    have stands : s.decideLoss p v e = s := by rw [State.decideLoss, if_neg notWatch, if_neg notUnresolved]
    rw [stands]
    exact ⟨s.vde, [], rfl, fun q => ⟨⟨nofun, fun ⟨same, un⟩ => absurd (same ▸ un) undecided⟩, nofun, fun _ => rfl⟩⟩

/-- Events handed one after another, each of which reads nothing that an earlier one changes. -/
theorem Decides.foldl {α : Type} {f : State → α → State} {told : α → Fin 4 → Prop} (settled : ¬ v.undecided) (l : List α)
    (s : State) (step : ∀ u a, VdeChange s u → Decides v e (told a) u (f u a)) :
    Decides v e (fun p => ∃ a ∈ l, told a p) s (l.foldl f s) := by
  induction l generalizing s with
  | nil => exact .untold s fun p => by simp
  | cons a l ih =>
    have first := step s a (.refl s)
    have later := ih (f s a) fun u b change => step u b (first.vdeChange.trans change)
    exact (first.trans settled later).of_iff fun p => by simp only [List.exists_mem_cons_iff]

end

/-! ### What NBV hands VDE (R120, R121) -/

/-- R120: whether path p of this station is fed by the neighbour path i on a side. -/
def State.fedBy (s : State) (side : Side) (i p : Fin 4) : Prop :=
  s.kind p = .span ∧ upstreamSide p = side ∧ s.settings.paths[p].upstream = i

/-- R131: what an upstream report decides, if it decides: its output-low first, and a prompted clear output. -/
def reportDecides (v : Verdict) (e : Evidence) (low prompted : Bool) : Prop :=
  (low = true → v = .upstreamTx ∧ e = .txLow) ∧ (low = false → prompted = true → v = .spanFault ∧ e = .promptedClear)

section
variable {v : Verdict} {e : Evidence} {s : State} (side : Side)

theorem Decides.upstreamReport {low prompted : Bool} (ruling : reportDecides v e low prompted) (settled : ¬ v.undecided)
    (running : s.running = true) (p : Fin 4) :
    Decides v e (fun q => q = p ∧ (low = true ∨ prompted = true)) s (s.upstreamReport p low prompted) := by
  obtain ⟨ofLow, ofClear⟩ := ruling
  unfold State.upstreamReport
  split
  next isLow =>
    obtain ⟨rfl, rfl⟩ := ofLow isLow
    exact (Decides.decideLoss settled running p).of_iff fun q => by simp [isLow]
  next notLow =>
    split
    next isPrompted =>
      obtain ⟨rfl, rfl⟩ := ofClear (by simpa using notLow) isPrompted
      exact (Decides.decideLoss settled running p).of_iff fun q => by simp [isPrompted]
    next notPrompted => exact .untold s fun q => by simp [notLow, notPrompted]

/-- R120: a report of the neighbour path i reaches the paths that it feeds. -/
theorem Decides.handReport {low prompted : Bool} (ruling : reportDecides v e low prompted) (settled : ¬ v.undecided)
    (running : s.running = true) (i : Fin 4) :
    Decides v e (fun p => s.fedBy side i p ∧ (low = true ∨ prompted = true)) s (s.handReport side i low prompted) := by
  unfold State.handReport
  refine (Decides.foldl (told := fun p q => q = p ∧ s.fedBy side i p ∧ (low = true ∨ prompted = true)) settled _ s
    fun u p change => ?_).of_iff fun p => by simp
  obtain ⟨_, _, rfl⟩ := change
  split
  next feeds => exact (Decides.upstreamReport ruling settled (by exact running) p).of_iff fun q => by simp [show s.fedBy side i p from feeds]
  next apart => exact .untold _ fun q named => apart named.2.1

/-- R121: a dying event reaches the SPAN paths of its side. -/
theorem Decides.handDying (running : s.running = true) :
    Decides .upstreamPower .dying (fun p => s.kind p = .span ∧ upstreamSide p = side) s (s.handDying side) := by
  unfold State.handDying
  refine (Decides.foldl (told := fun p q => q = p ∧ s.kind p = .span ∧ upstreamSide p = side) (by simp [Verdict.undecided]) _ s
    fun u p change => ?_).of_iff fun p => by simp
  obtain ⟨_, _, rfl⟩ := change
  split
  next upstream => exact (Decides.decideLoss (by simp [Verdict.undecided]) (by exact running) p).of_iff fun q => (and_iff_left upstream).symm
  next apart => exact .untold _ fun q named => apart named.2

end

/-! ### Taking a frame (R112, R113) -/

/-- The state with a delivered frame taken from its list (log entry 4). -/
def State.frameTaken (s : State) (d : Delivery) : State := { s with nbv := { s.nbv with deliveries := s.nbv.deliveries.erase d } }

@[simp] theorem State.frameTaken_nb (s : State) (d : Delivery) (side : Side) : (s.frameTaken d).nb side = s.nb side := by
  cases side <;> rfl

/-- With a frame taken and the record of its side replaced, nothing but NBV has changed. -/
theorem State.frameTaken_setNb (s : State) (d : Delivery) (r : NbRec) :
    ∃ nbv : Nbv, (s.frameTaken d).setNb d.side r = { s with nbv := nbv } ∧ State.nb { s with nbv := nbv } d.side = r ∧
      State.nb { s with nbv := nbv } (otherSide d.side) = s.nb (otherSide d.side) ∧ nbv.deliveries = s.nbv.deliveries.erase d := by
  cases d.side <;> exact ⟨_, rfl, rfl, rfl, rfl⟩

/-- R154: settling the alarms leaves all of STU but what follows the total. -/
theorem State.settleAlarms_sameButAlarms (s : State) : sameButAlarms s.settleAlarms.stu s.stu := by
  obtain ⟨_, _, _, _, lines, settled, same⟩ := s.settleAlarms_changes
  rw [settled]
  refine ⟨rfl, rfl, rfl, fun n => ?_⟩
  obtain ⟨level, line, stands⟩ := same n
  dsimp only
  rw [line]
  split
  next => rfl
  next other => rw [stands other]

/-- R112: a body that Chapter 12 does not allow, and a notice of another subject than a path or the power, change nothing. -/
theorem State.useFrame_unused {d : Delivery} (s : State) (unread : d.kind = .state ∧ readStateBody d.body = none ∨
    d.kind = .notice ∧ (readNoticeBody d.body = none ∨ readNoticeBody d.body = some .other)) : s.useFrame d = s := by
  rcases unread with ⟨state, unusable⟩ | ⟨notice, unusable | other⟩
  · simp [State.useFrame, state, unusable]
  · simp [State.useFrame, notice, unusable]
  · simp [State.useFrame, notice, other]

section
variable {d : Delivery} {t : Stamp} {s₀ s : State} (now : s = s₀.moment t) (running : s.running = true)
include now running

theorem exec_neighbourFrame :
    exec (.neighbourFrame d t) s₀ = .next
      (if d.hopsDone = 0 ∧ d.origin.toNat ≠ (s.nb d.side).station then
        (s.frameTaken d).setNb d.side { s.nb d.side with mismatch := true }
      else if (s.nb d.side).station ≠ 0 ∧ d.origin.toNat = (s.nb d.side).station then ((s.frameTaken d).useFrame d).settleAlarms
      else s.frameTaken d) := by
  have awake : s.awake = true := (Bool.and_eq_true_iff.mp running).1
  refine congrArg Host.Outcome.next ?_
  rw [← now, State.neighbourFrame, if_pos awake]
  dsimp only
  rw [if_pos (by exact running), ← s.frameTaken_nb d]
  rfl

/-- R112: a frame of the configured station is used. -/
theorem exec_neighbourFrame_used (active : (s.nb d.side).station ≠ 0) (adjacent : d.origin.toNat = (s.nb d.side).station) :
    exec (.neighbourFrame d t) s₀ = .next ((s.frameTaken d).useFrame d).settleAlarms := by
  rw [exec_neighbourFrame now running, if_neg fun mismatched => mismatched.2 adjacent, if_pos ⟨active, adjacent⟩]

end

/-- Settles O35: the frame that is not used is told by its hops, its origin and its record, or by what the readers make of its body. -/
theorem unusedFrameSetsAtMostMismatch : Obligations.UnusedFrameSetsAtMostMismatch := by
  intro d t s₀ s now running
  refine ⟨fun near other => ?_, fun kind unused => ?_, ?_, readNoticeBody_eq_none_iff d.body, readNoticeBody_other_subject⟩
  · rw [exec_neighbourFrame now running, if_pos ⟨near, other⟩]
    rfl
  · rcases unused with ⟨relayed, other⟩ | ⟨origin, unread⟩
    · refine ⟨s.frameTaken d, ?_, ⟨rfl, rfl, rfl, fun n => by split <;> rfl⟩, rfl⟩
      rw [exec_neighbourFrame now running, if_neg fun adjacent => relayed adjacent.1, if_neg fun same => other same.2]
    · by_cases active : (s.nb d.side).station = 0
      · refine ⟨s.frameTaken d, ?_, ⟨rfl, rfl, rfl, fun n => by split <;> rfl⟩, rfl⟩
        rw [exec_neighbourFrame now running, if_neg fun adjacent => adjacent.2 origin, if_neg fun same => same.1 active]
      · have stands := (s.frameTaken d).useFrame_unused (unread.resolve_left active)
        refine ⟨(s.frameTaken d).settleAlarms, ?_, State.settleAlarms_sameButAlarms _, ?_⟩
        · rw [exec_neighbourFrame_used now running active origin, stands]
        · rw [State.settleAlarms_eq]
          rfl
  · rw [readStateBody_eq_none_iff]
    simp only [readSummary_eq_none_iff]

/-! ### STATE (R114) -/

/-- R120, R131, R134: the four reports of a STATE decide the paths whose feeding output they give as low. -/
theorem Decides.handReports {s : State} (running : s.running = true) (side : Side) (m : Vector Summary 4) :
    Decides .upstreamTx .txLow (fun p => s.kind p = .span ∧ upstreamSide p = side ∧ m[s.settings.paths[p].upstream].outputLow = some true) s
      ((List.finRange 4).foldl (fun s i => s.handReport side i (m[i].outputLow.getD false) false) s) := by
  have ruling (low : Bool) : reportDecides .upstreamTx .txLow low false := ⟨fun _ => ⟨rfl, rfl⟩, fun _ => nofun⟩
  refine (Decides.foldl (told := fun i p => s.fedBy side i p ∧ (m[i].outputLow.getD false = true ∨ false = true)) (by simp [Verdict.undecided]) _ s
    fun u i change => ?_).of_iff fun p => ?_
  · obtain ⟨_, _, rfl⟩ := change
    exact Decides.handReport side (ruling _) (by simp [Verdict.undecided]) (by exact running) i
  · simp only [List.mem_finRange, true_and, State.fedBy, and_assoc, exists_and_left, exists_eq_left', Bool.false_eq_true, or_false]
    cases m[s.settings.paths[p].upstream].outputLow <;> simp

/-- Settles O36: the record is replaced, and then the reports are one deciding event. -/
theorem stateFrameUpdatesRecord : Obligations.StateFrameUpdatesRecord := by
  intro d t m decided s₀ s now running kind active origin read decides
  obtain ⟨nbv, set, own, other, deliveries⟩ := s.frameTaken_setNb d
    { (s.nb d.side).refreshed s.settings.staleTime s.clk.hut with heard := true, dying := false, summaries := m }
  have event := Decides.handReports (s := { s with nbv := nbv }) running d.side m
  have used : (s.frameTaken d).useFrame d =
      (List.finRange 4).foldl (fun s i => s.handReport d.side i (m[i].outputLow.getD false) false) { s with nbv := nbv } := by
    simp only [State.useFrame, kind, read, State.useState, State.frameTaken_nb, ← set]
    rfl
  have taken := exec_neighbourFrame_used now running active origin
  rw [used] at taken
  generalize (List.finRange 4).foldl _ _ = u at event taken
  have named (p : Fin 4) : decided p ↔ (s.kind p = .span ∧ upstreamSide p = d.side ∧
      m[s.settings.paths[p].upstream].outputLow = some true) ∧ s.vde[p].verdict.undecided := by
    rw [decides, Verdict.undecided]; tauto
  obtain ⟨vde, asked, rfl⟩ := event.vdeChange
  refine ⟨fun i => readSummary_fields (((readStateBody_eq_some_iff _ _).mp read).2 i), _, taken, ?_⟩
  have alarms := State.settleAlarms_sameButAlarms { s with nbv := nbv, vde := vde, snq := asked }
  rw [State.settleAlarms_eq]
  refine ⟨own, other, fun p => ⟨fun dec => ?_, fun undec => ?_⟩, fun none => ?_, fun keep drops => ?_, fun p dec => ?_, deliveries, alarms, rfl⟩
  · exact event.verdict_of_decided ((named p).mp dec).1 ((named p).mp dec).2
  · exact event.verdict_of_not (mt (named p).mpr undec)
  · exact event.snq_of_none fun p => mt (named p).mpr (none p)
  · exact event.snq_filter fun p dec x item => (drops x).mpr ⟨p, (named p).mpr dec, item⟩
  · exact event.noticed ((named p).mp dec).1 ((named p).mp dec).2

/-! ### PATH notices (R115, R119) -/

/-- R26: after a prompted request made with a port UP, its item has a prompted entry marked for every UP port. -/
theorem snqAsk_prompts {item : Item} {w x : Bool} {q : List Entry} (up : w = true ∨ x = true) :
    ∃ e ∈ snqAsk item true w x q, e.item = item ∧ e.prompted = true ∧ (w = true → e.west = true) ∧ (x = true → e.east = true) := by
  by_cases found : ∃ e ∈ q, e.item = item
  · rw [snqAsk_of_found _ _ _ found]
    obtain ⟨e, mem, same⟩ := found
    refine ⟨_, List.mem_map_of_mem mem, ?_⟩
    rw [if_pos same]
    exact ⟨same, Bool.or_true _, fun west => by simp [Entry.remark, west], fun east => by simp [Entry.remark, east]⟩
  · rw [snqAsk_of_absent _ _ _ fun e mem same => found ⟨e, mem, same⟩, if_pos (by simpa using up)]
    exact ⟨_, List.mem_append_right _ (List.mem_singleton_self _), rfl, rfl, id, id⟩

section
variable {s : State} {side : Side} {r : PathReport}

/-- R119: a WATCH that path q feeds prompts its PATH notice. -/
theorem State.promptReply_prompts {q : Fin 4} (fed : r.fedBy = q.val) (watch : r.verdict = .watch) (downstream : downstreamSide q = side)
    (used : s.kind q ≠ .unused) : s.promptReply side r = s.askNotice (.path q) true := by
  have same : (⟨r.fedBy, fed ▸ q.isLt⟩ : Fin 4) = q := Fin.ext fed
  rw [State.promptReply, dif_pos (fed ▸ q.isLt), same]
  exact if_pos ⟨watch, downstream, used⟩

/-- R119: no other PATH notice prompts anything. -/
theorem State.promptReply_silent (silent : r.verdict ≠ .watch ∨ 4 ≤ r.fedBy ∨
    ∀ q : Fin 4, r.fedBy = q.val → downstreamSide q ≠ side ∨ s.kind q = .unused) : s.promptReply side r = s := by
  unfold State.promptReply
  split
  next fed =>
    refine if_neg fun ⟨watch, downstream, used⟩ => ?_
    rcases silent with other | beyond | apart
    · exact other watch
    · omega
    · exact (apart ⟨r.fedBy, fed⟩ rfl).elim (· downstream) used
  next => rfl

/-- R119: what a PATH notice prompts changes the send queue alone. -/
theorem State.promptReply_changes (s : State) (side : Side) (r : PathReport) : ∃ q, s.promptReply side r = { s with snq := q } := by
  unfold State.promptReply; split
  · dsimp only; split
    · exact s.askNotice_changes _ true
    · exact ⟨s.snq, rfl⟩
  · exact ⟨s.snq, rfl⟩

/-- R26, R119: with a port UP, a prompted reply stands in the send queue with its mark. -/
theorem State.promptReply_prompted (running : s.running = true) {q : Fin 4} (fed : r.fedBy = q.val) (watch : r.verdict = .watch)
    (downstream : downstreamSide q = side) (used : s.kind q ≠ .unused) (up : s.isUp .west = true ∨ s.isUp .east = true) :
    ∃ e ∈ (s.promptReply side r).snq, e.item = .notice (.path q) ∧ e.prompted = true ∧ (s.isUp .west = true → e.west = true) ∧
      (s.isUp .east = true → e.east = true) := by
  rw [State.promptReply_prompts fed watch downstream used, State.askNotice_eq _ _ _ running]
  exact snqAsk_prompts up

end

/-- Settles O38: the record is replaced, the report is one deciding event, and the reply may be prompted after it. -/
theorem pathNoticeUpdatesSummary : Obligations.PathNoticeUpdatesSummary := by
  intro d t r s₀ s now running kind active origin read
  obtain ⟨subject, notice⟩ := readNoticeBody_eq_path read
  obtain ⟨_, report, -, fields⟩ := readPathNotice_eq_some notice
  cases report
  refine ⟨⟨subject, fields⟩, ?_⟩
  obtain ⟨nbv, set, own, other, -⟩ := s.frameTaken_setNb d
    { (s.nb d.side).refreshed s.settings.staleTime s.clk.hut with
      summaries := upd (s.nb d.side).summaries r.path fun m => m.reported r }
  have event := Decides.handReport (s := { s with nbv := nbv }) (low := r.outputLow) (prompted := r.prompted)
    (v := if r.outputLow then .upstreamTx else .spanFault) (e := if r.outputLow then .txLow else .promptedClear) d.side
    ⟨fun low => by simp [low], fun clear _ => by simp [clear]⟩ (by cases r.outputLow <;> simp [Verdict.undecided]) running r.path
  have used : (s.frameTaken d).useFrame d =
      (State.handReport d.side r.path r.outputLow r.prompted { s with nbv := nbv }).promptReply d.side r := by
    simp only [State.useFrame, kind, read, State.usePath, State.frameTaken_nb, ← set]
    rfl
  have taken := exec_neighbourFrame_used now running active origin
  rw [used] at taken
  generalize State.handReport d.side r.path r.outputLow r.prompted { s with nbv := nbv } = w at event taken
  obtain ⟨vde, asked, rfl⟩ := event.vdeChange
  obtain ⟨q, replied⟩ := State.promptReply_changes { s with nbv := nbv, vde := vde, snq := asked } d.side r
  have queue := congrArg State.snq replied
  rw [replied] at taken
  refine ⟨_, taken, ?_⟩
  rw [State.settleAlarms_eq]
  refine ⟨⟨_, own, ?_, fun i apart => ?_⟩, other, fun p => ⟨fun feeds undecided speaks => ?_, fun stands => ?_⟩,
    fun p fed watch downstream inUse up => ?_, fun silent settled => ?_⟩
  · exact (upd_get ..).trans (if_pos rfl)
  · exact (upd_get ..).trans (if_neg (Ne.symm apart))
  · have record := event.verdict_of_decided ⟨feeds, speaks⟩ undecided
    dsimp only at record ⊢
    rw [record]
    exact ⟨rfl, rfl, rfl, rfl, rfl⟩
  · refine event.verdict_of_not fun ⟨⟨feeds, speaks⟩, undecided⟩ => ?_
    rcases stands with apart | ⟨notWatch, notUnresolved⟩ | ⟨clear, unprompted⟩
    · exact apart feeds
    · exact undecided.elim notWatch notUnresolved
    · simp [clear, unprompted] at speaks
  · have prompted := State.promptReply_prompted (s := { s with nbv := nbv, vde := vde, snq := asked }) running fed watch downstream inUse up
    rw [queue] at prompted
    exact prompted
  · have same := State.promptReply_silent (s := { s with nbv := nbv, vde := vde, snq := asked }) silent
    have none := event.snq_of_none fun p ⟨_, undecided⟩ => undecided.elim (settled p).1 (settled p).2
    exact queue.symm.trans ((congrArg State.snq same).trans none)

/-! ### POWER notices (R116) -/

/-- R121, R131: a POWER notice is a dying event when it sets dying on a record that had it clear. -/
theorem Decides.dyingSet {s : State} (running : s.running = true) (side : Side) (form before : Bool) :
    Decides .upstreamPower .dying (fun p => form = true ∧ before = false ∧ s.kind p = .span ∧ upstreamSide p = side) s
      (if form && !before then s.handDying side else s) := by
  split
  next sets =>
    obtain ⟨dying, clear⟩ : form = true ∧ before = false := by simpa using sets
    exact (Decides.handDying side running).of_iff fun p => by simp [dying, clear]
  next stands => exact .untold s fun p ⟨dying, clear, _⟩ => stands (by simp [dying, clear])

/-- Settles O39: the record is replaced, and a notice that sets dying is one deciding event. -/
theorem powerNoticeSetsDying : Obligations.PowerNoticeSetsDying := by
  intro d t form s₀ s now running kind active origin length subject code
  obtain ⟨nbv, set, own, other, -⟩ := s.frameTaken_setNb d { s.nb d.side with lastHeard := some s.clk.hut, dying := form }
  have event := Decides.dyingSet (s := { s with nbv := nbv }) running d.side form (s.nb d.side).dying
  have used : (s.frameTaken d).useFrame d =
      if form && !(s.nb d.side).dying then State.handDying d.side { s with nbv := nbv } else { s with nbv := nbv } := by
    simp only [State.useFrame, kind, readNoticeBody_eq_power length subject code, State.usePower, State.frameTaken_nb, ← set]
    rfl
  have taken := exec_neighbourFrame_used now running active origin
  rw [used] at taken
  generalize (if form && !(s.nb d.side).dying then State.handDying d.side { s with nbv := nbv } else { s with nbv := nbv }) = u
    at event taken
  obtain ⟨_, _, rfl⟩ := event.vdeChange
  refine ⟨_, taken, ?_⟩
  rw [State.settleAlarms_eq]
  refine ⟨own, other, fun p => ?_, rfl, rfl, rfl, rfl, rfl, rfl⟩
  split
  next decided =>
    obtain ⟨dying, clear, span, upstream, undecided⟩ := decided
    exact event.verdict_of_decided ⟨dying, clear, span, upstream⟩ undecided
  next stands =>
    exact event.verdict_of_not fun ⟨⟨dying, clear, span, upstream⟩, undecided⟩ => stands ⟨dying, clear, span, upstream, undecided⟩

end Sys2Proof.Machine
end

section
/-! SUPPORT. The timers of NBV, RPB and STU when they run out (R117, R147, R149, R151, R157): the stall conditions line by line, and what the
owned alarms then drive. It settles O45. -/

namespace Sys2Proof.Machine
open Sys2Proof

/-! ### The line table (R149) -/

theorem State.modLine_line (s : State) (n m : Fin 12) (f : LineRec → LineRec) :
    (s.modLine n f).stu.lines[m] = if n = m then f s.stu.lines[n] else s.stu.lines[m] := upd_get ..

theorem Stu.settleStall_line (u : Stu) (n : Fin 12) : u.settleStall.lines[n] = u.lines[n].stallSettled (u.stalled n) := by
  simp [Stu.settleStall]

/-- R149: settling a line moves its stall timer and its FAN_STALL alone. -/
theorem LineRec.stallSettled_changes (r : LineRec) (stalled : Bool) :
    ∃ timer stall, r.stallSettled stalled = { r with stallTimer := timer, fanStall := stall } := by
  unfold LineRec.stallSettled
  split
  · split
    · exact ⟨_, r.fanStall, rfl⟩
    · exact ⟨r.stallTimer, r.fanStall, rfl⟩
  · exact ⟨_, _, rfl⟩

/-- R149: the stall timer starts with the stall condition. -/
theorem LineRec.stallSettled_starts {r : LineRec} (clear : r.fanStall = false) (stopped : r.stallTimer = .stopped) :
    r.stallSettled true = { r with stallTimer := .running 5000 } := by
  simp [LineRec.stallSettled, clear, stopped]

theorem Stu.stalled_of_pair {u : Stu} {n m : Fin 12} (fan : u.lines[n].fn = .fan) (pair : u.lines[n].paired = some m)
    (driven : u.lines[n].level = true) (still : u.lines[m].period = 0) : u.stalled n = true := by
  unfold Stu.stalled
  rw [fan, pair]
  dsimp only
  rw [driven, still]
  rfl

/-- R149, R154: with the stalls and the alarms settled a line has its stall timer and FAN_STALL settled, and only an ALARM line another level. -/
theorem State.stallsSettled_line (s : State) (n : Fin 12) :
    ∃ level, s.settleStall.settleAlarms.stu.lines[n] = { s.stu.lines[n].stallSettled (s.stu.stalled n) with level := level } ∧
      (s.stu.lines[n].fn ≠ .alarm → level = s.stu.lines[n].level) := by
  obtain ⟨q, settled⟩ := s.settleStall_changes
  obtain ⟨level, line, stands⟩ := s.settleStall.settleAlarms_line n
  obtain ⟨_, _, moved⟩ := s.stu.lines[n].stallSettled_changes (s.stu.stalled n)
  have before : s.settleStall.stu.lines[n] = s.stu.lines[n].stallSettled (s.stu.stalled n) := by
    rw [settled]
    exact s.stu.settleStall_line n
  rw [before] at line stands
  rw [moved] at stands
  exact ⟨level, line, stands⟩

/-- R149, R154: settling the stalls and the alarms moves the stall timers, the FAN_STALL flags and the levels of ALARM lines, and nothing
else of a line. -/
theorem State.stallsSettled_keeps (s : State) (n : Fin 12) :
    ∃ level timer stall, s.settleStall.settleAlarms.stu.lines[n] =
      { s.stu.lines[n] with level := level, stallTimer := timer, fanStall := stall } ∧
      (s.stu.lines[n].fn ≠ .alarm → level = s.stu.lines[n].level) := by
  obtain ⟨level, line, stands⟩ := s.stallsSettled_line n
  obtain ⟨timer, stall, moved⟩ := s.stu.lines[n].stallSettled_changes (s.stu.stalled n)
  rw [moved] at line
  exact ⟨level, timer, stall, line, stands⟩

/-! ### The owned alarms (R151, R154) -/

/-- R151: a FAN_STALL is a climate alarm. -/
theorem Stu.climateCount_pos {u : Stu} {n : Fin 12} (stall : u.lines[n].fanStall = true) : 1 ≤ u.climateCount := by
  have counted : 0 < countFin 12 fun n => u.lines[n].fanStall :=
    List.length_pos_of_mem (List.mem_filter.mpr ⟨List.mem_finRange n, stall⟩)
  unfold Stu.climateCount
  omega

section
variable {s : State} (running : s.running = true)
include running

/-- R151: in RUNNING the climate contribution is STU's count. -/
theorem State.settleAlarms_climate : s.settleAlarms.stu.climate = s.stu.climateCount := by
  rw [State.settleAlarms, if_pos running]

/-- R154: in RUNNING an ALARM line is driven HIGH exactly while the total is above 0. -/
theorem State.settleAlarms_alarm {n : Fin 12} (alarm : s.stu.lines[n].fn = .alarm) :
    s.settleAlarms.stu.lines[n].level = decide (0 < s.settleAlarms.stu.total) := by
  rw [State.settleAlarms, if_pos running]
  dsimp only
  rw [each_get, if_pos alarm]

end

/-! ### STATE_PERIOD_EXPIRY (R157) -/

theorem State.askState_eq {s : State} (running : s.running = true) (normal : s.stu.dying = false) :
    s.askState = { s with snq := snqAsk .state false (s.isUp .west) (s.isUp .east) s.snq } :=
  if_pos (by rw [running, normal]; rfl)

/-! ### EDGE_TIMER_EXPIRY (R147, R149) -/

section
variable {s : State} {n : Fin 12}

/-- R147: the record of a tacho that has stopped. -/
def LineRec.tachoStopped (r : LineRec) : LineRec := { r with period := 0, lastEdge := none, edgeTimer := .stopped }

/-- R147, R149, R154: the edge timer of line n run out, with the stalls and the alarms settled. -/
def State.edgeRunOut (s : State) (n : Fin 12) : State := (s.modLine n LineRec.tachoStopped).settleStall.settleAlarms

theorem exec_edgeTimerExpiry (running : s.running = true) (due : s.stu.lines[n].edgeTimer = .due) :
    exec (.edgeTimerExpiry n) s = .next (s.edgeRunOut n) :=
  congrArg Host.Outcome.next (if_pos (by rw [running, due]; rfl))

/-- R149, R151, R154: an edge timer that runs out changes STU's lines, its alarms and the send queue alone. -/
theorem State.edgeRunOut_frame (s : State) (n : Fin 12) :
    (s.edgeRunOut n).stu.hot = s.stu.hot ∧ (s.edgeRunOut n).stu.filter = s.stu.filter ∧ (s.edgeRunOut n).stu.dying = s.stu.dying ∧
      { s.edgeRunOut n with stu := s.stu, snq := s.snq } = s := by
  obtain ⟨q, settled⟩ := (s.modLine n LineRec.tachoStopped).settleStall_changes
  obtain ⟨hot, filter, dying, -⟩ := (s.modLine n LineRec.tachoStopped).settleStall.settleAlarms_sameButAlarms
  rw [settled] at hot filter dying
  rw [State.edgeRunOut, State.settleAlarms_eq, settled]
  exact ⟨hot, filter, dying, rfl⟩

/-- R147: what an edge timer that runs out leaves of the tacho's record. -/
theorem State.edgeRunOut_line (tacho : s.stu.lines[n].fn = .tacho) :
    ∃ timer stall, (s.edgeRunOut n).stu.lines[n] = { s.stu.lines[n].tachoStopped with stallTimer := timer, fanStall := stall } := by
  obtain ⟨level, timer, stall, line, stands⟩ := (s.modLine n LineRec.tachoStopped).stallsSettled_keeps n
  rw [State.modLine_line, if_pos rfl] at line stands
  rw [stands (by rw [LineRec.tachoStopped, tacho]; nofun)] at line
  exact ⟨timer, stall, line⟩

/-- R149, R154: what an edge timer that runs out leaves of another line's record. -/
theorem State.edgeRunOut_other {m : Fin 12} (other : m ≠ n) :
    ∃ level timer stall, (s.edgeRunOut n).stu.lines[m] =
      { s.stu.lines[m] with level := level, stallTimer := timer, fanStall := stall } ∧
      (s.stu.lines[m].fn ≠ .alarm → level = s.stu.lines[m].level) := by
  have kept := (s.modLine n LineRec.tachoStopped).stallsSettled_keeps m
  rw [State.modLine_line, if_neg (Ne.symm other)] at kept
  exact kept

/-- R149: the fan of a tacho that stops while it is driven HIGH starts its stall timer. -/
theorem State.edgeRunOut_fan {m : Fin 12} (tacho : s.stu.lines[n].fn = .tacho) (fan : s.stu.lines[m].fn = .fan)
    (pair : s.stu.lines[m].paired = some n) (driven : s.stu.lines[m].level = true) (clear : s.stu.lines[m].fanStall = false)
    (stopped : s.stu.lines[m].stallTimer = .stopped) :
    (s.edgeRunOut n).stu.lines[m].stallTimer = .running 5000 := by
  obtain ⟨level, line, -⟩ := (s.modLine n LineRec.tachoStopped).stallsSettled_line m
  have apart : n ≠ m := by
    rintro rfl
    rw [tacho] at fan
    cases fan
  have same : (s.modLine n LineRec.tachoStopped).stu.lines[m] = s.stu.lines[m] := by rw [State.modLine_line, if_neg apart]
  have still : (s.modLine n LineRec.tachoStopped).stu.lines[n].period = 0 := by rw [State.modLine_line, if_pos rfl]; rfl
  rw [← same] at fan pair driven clear stopped
  rw [State.edgeRunOut, line, Stu.stalled_of_pair fan pair driven still, LineRec.stallSettled_starts clear stopped]

end

/-! ### STALL_TIMER_EXPIRY (R149, R151) -/

/-- R149: the record of a fan whose stall timer has run out. -/
def LineRec.stallRaised (r : LineRec) : LineRec := { r with stallTimer := .stopped, fanStall := true }

/-- R149, R151: the stall timer of line n run out, with its notice asked for and the alarms not yet settled. -/
def State.stallRunOut (s : State) (n : Fin 12) : State := (s.modLine n LineRec.stallRaised).withNotice .climate

section
variable {s : State} {n : Fin 12}

theorem exec_stallTimerExpiry (running : s.running = true) (due : s.stu.lines[n].stallTimer = .due) :
    exec (.stallTimerExpiry n) s = .next (s.stallRunOut n).settleAlarms := by
  have noticed := State.askNotice_eq (s.modLine n LineRec.stallRaised) .climate false (by exact running)
  exact congrArg Host.Outcome.next ((if_pos (by rw [running, due]; rfl)).trans (congrArg State.settleAlarms noticed))

theorem State.stallRunOut_line (s : State) (n : Fin 12) : (s.stallRunOut n).stu.lines[n] = s.stu.lines[n].stallRaised :=
  (State.modLine_line ..).trans (if_pos rfl)

theorem State.stallRunOut_other {m : Fin 12} (other : m ≠ n) : (s.stallRunOut n).stu.lines[m] = s.stu.lines[m] :=
  (State.modLine_line ..).trans (if_neg (Ne.symm other))

/-- R151, R154: the FAN_STALL counts in STU's contribution and in the total. -/
theorem State.stallRunOut_alarms (running : s.running = true) (n : Fin 12) :
    1 ≤ (s.stallRunOut n).settleAlarms.stu.climate ∧ 1 ≤ (s.stallRunOut n).settleAlarms.stu.total := by
  have counted : 1 ≤ (s.stallRunOut n).stu.climateCount := Stu.climateCount_pos (n := n) (by rw [State.stallRunOut_line]; rfl)
  rw [State.settleAlarms_climate (by exact running), State.settleAlarms_total (by exact running)]
  omega

end

/-- Settles O45: each expiry meets its guard, and STU's two settle the stalls or ask for the notice, and then settle the alarms. -/
theorem timersRunOut : Obligations.TimersRunOut := by
  refine ⟨fun side s running due => ?stale, fun s running due normal => ?period, fun n s running tacho due => ?edge,
    fun n s running fan due => ?stall⟩
  case stale => exact congrArg Host.Outcome.next (if_pos (by rw [running, due]; rfl))
  case period =>
    have expires : s.statePeriodExpiry = State.askState { s with stateTimer := .seconds s.settings.statePeriod } :=
      if_pos (by rw [running, due]; rfl)
    exact congrArg Host.Outcome.next (expires.trans (State.askState_eq (by exact running) (by exact normal)))
  case edge =>
    obtain ⟨_, _, own⟩ := State.edgeRunOut_line tacho
    obtain ⟨hot, filter, dying, frame⟩ := s.edgeRunOut_frame n
    refine ⟨_, exec_edgeTimerExpiry running due, by rw [own]; rfl, by rw [own]; rfl, by rw [own]; rfl, fun m other => ?_,
      by rw [own]; rfl, fun m => State.edgeRunOut_fan tacho, hot, filter, dying, frame⟩
    obtain ⟨level, _, _, line, stands⟩ := State.edgeRunOut_other other
    rw [line]
    split
    next => rfl
    next driven => rw [stands driven]
  case stall =>
    obtain ⟨climate, total⟩ := State.stallRunOut_alarms running n
    obtain ⟨hot, filter, dying, lines⟩ := (s.stallRunOut n).settleAlarms_sameButAlarms
    refine ⟨_, exec_stallTimerExpiry running due, ?_, climate, total, by rw [State.settleAlarms_eq]; rfl, fun m other quiet => ?_,
      fun m alarm => ?_, hot, filter, dying, by rw [State.settleAlarms_eq]; rfl⟩
    · rw [lines, State.stallRunOut_line, if_neg (by rw [LineRec.stallRaised, fan]; nofun)]
      rfl
    · rw [lines, State.stallRunOut_other other, if_neg quiet]
    · have apart : m ≠ n := by
        rintro rfl
        rw [fan] at alarm
        cases alarm
      rw [State.settleAlarms_alarm (by exact running) (by rw [State.stallRunOut_other apart, alarm])]
      exact decide_eq_true total

end Sys2Proof.Machine
end

section
/-! SUPPORT. What verdicts, pilots and automatic lanes agree on, path by path: the view of one path, what R63, R65, R86, R123 and R130 say of
it, and the operations that leave it. -/

namespace Sys2Proof.Machine
open Sys2Proof

/-! ### The view of a path -/

/-- What the rules on verdicts and pilots compare of one path: the phase and the path's kind, its verdict, its input state, the states of its
two automatic lanes with the presence of the fill lane, and its pilot's mode with the two inputs that decide it. -/
structure PathView where
  running : Bool
  kind    : PathKind
  verdict : Verdict
  input   : InputState
  normal  : LaneState
  fill    : LaneState
  tone    : Bool
  lossIn  : Bool
  fillIn  : Bool
  mode    : PilotMode

/-- The view of path p with its automatic lanes read in the given lane table. -/
def State.pathViewIn (lanes : Vector Lane 16) (s : State) (p : Fin 4) : PathView :=
  { running := s.running, kind := s.kind p, verdict := s.vde[p].verdict, input := s.pmn[p].input,
    normal := lanes[normalLane p].state, fill := lanes[fillLane p].state, tone := lanes[fillLane p].present,
    lossIn := s.plg.osc[p].lossIn, fillIn := s.plg.osc[p].fillIn, mode := s.plg.osc[p].mode }

/-- The view of path p. -/
def State.pathView (s : State) (p : Fin 4) : PathView := s.pathViewIn s.tcr p

/-- R86: the mode that a pilot's two inputs decide. -/
def modeOf (lossIn fillIn : Bool) : PilotMode := if lossIn || fillIn then .fill else .normal

/-- R63, R65, R86, R123, R130: what holds of the view of a path. -/
structure PathView.sound (v : PathView) : Prop where
  unjudged : v.running = true → v.kind ≠ .span → v.verdict = .notApplicable
  watched  : v.verdict = .watch → v.input = .loss
  together : v.normal = v.fill
  parked   : v.running = false ∨ v.kind ≠ .span → v.fill = .parked
  silent   : v.fill ≠ .running → v.tone = false
  lossIn   : v.lossIn = decide (v.input = .loss)
  fillIn   : v.fillIn = v.tone
  mode     : v.mode = modeOf v.lossIn v.fillIn

/-- The view of every path is sound. -/
def State.pathsSound (s : State) : Prop := ∀ p, (s.pathView p).sound

theorem modeOf_eq (lost : Prop) [Decidable lost] (tone : Bool) :
    modeOf (decide lost) tone = if lost ∨ tone = true then .fill else .normal := by simp [modeOf]

theorem State.pathsSound_iff (s : State) : s.pathsSound ↔ s.verdictsSound ∧ s.pilotsSound := by
  refine ⟨fun h => ⟨fun p => ⟨(h p).unjudged, (h p).watched⟩, fun p => ?_⟩, fun ⟨verdicts, pilots⟩ p => ?_⟩
  · obtain ⟨-, -, together, parked, silent, lossIn, fillIn, mode⟩ := h p
    rw [lossIn, fillIn] at mode
    exact ⟨together, parked, silent, lossIn, fillIn, mode.trans (modeOf_eq _ _)⟩
  · obtain ⟨together, parked, silent, lossIn, fillIn, mode⟩ := pilots p
    refine ⟨(verdicts p).1, (verdicts p).2, together, parked, silent, lossIn, fillIn, mode.trans ((modeOf_eq _ _).symm.trans ?_)⟩
    exact (congrArg₂ modeOf lossIn fillIn).symm

theorem State.pathsSound_of_view {s u : State} (same : u.pathView = s.pathView) (h : s.pathsSound) : u.pathsSound := by
  intro p
  rw [same]
  exact h p

/-! ### The shared operations -/

section
variable (s : State)

@[simp] theorem State.pathView_setPort (side : Side) (p : Port) : (s.setPort side p).pathView = s.pathView := by cases side <;> rfl

@[simp] theorem State.pathView_setNb (side : Side) (r : NbRec) : (s.setNb side r).pathView = s.pathView := by cases side <;> rfl

@[simp] theorem State.pathView_setSignal (side : Side) (level : Bool) : (s.setSignal side level).pathView = s.pathView := by
  cases side <;> rfl

@[simp] theorem State.pathView_askNotice (x : Subject) (prompt : Bool) : (s.askNotice x prompt).pathView = s.pathView := by
  obtain ⟨_, e⟩ := s.askNotice_changes x prompt
  rw [e]
  rfl

@[simp] theorem State.pathView_askState : s.askState.pathView = s.pathView := by
  obtain ⟨_, e⟩ := s.askState_changes
  rw [e]
  rfl

@[simp] theorem State.pathView_settleAlarms : s.settleAlarms.pathView = s.pathView := by
  rw [s.settleAlarms_eq]
  rfl

/-- A lane table that leaves the state and the presence of every automatic lane. -/
theorem State.pathView_setLanes {lanes : Vector Lane 16}
    (same : ∀ i : Fin 16, i.val < 8 → lanes[i].state = s.tcr[i].state ∧ lanes[i].present = s.tcr[i].present) :
    State.pathView { s with tcr := lanes } = s.pathView := by
  funext p
  have normal := same (normalLane p) (by simp only [normalLane]; omega)
  have fill := same (fillLane p) (by simp only [fillLane]; omega)
  simp only [State.pathView, State.pathViewIn, normal, fill]
  rfl

/-- Path records that keep their input states. -/
theorem State.pathView_setPmn {pmn : Vector PathRec 4} (same : ∀ p : Fin 4, pmn[p].input = s.pmn[p].input) :
    State.pathView { s with pmn := pmn } = s.pathView := by
  funext p
  simp only [State.pathView, State.pathViewIn, same p]
  rfl

theorem State.pathView_updPmn (p : Fin 4) {f : PathRec → PathRec} (same : (f s.pmn[p]).input = s.pmn[p].input) :
    State.pathView { s with pmn := upd s.pmn p f } = s.pathView := by
  refine s.pathView_setPmn fun q => ?_
  rw [upd_get]
  split
  next own => rw [same, own]
  next => rfl

/-- R1: ticks pace timers alone. -/
@[simp] theorem State.pathView_elapse (d n : Nat) : (s.elapse d n).pathView = s.pathView := by
  funext p
  have running : (s.elapse d n).running = s.running := by simp [State.running]
  have kind : (s.elapse d n).kind p = s.kind p := by simp [State.kind, State.settings, State.station]
  simp only [State.pathView, State.pathViewIn, running, kind, State.elapse_vde, State.elapse_tcr, State.elapse_plg, State.elapse_pmn,
    each_get]
  rfl

@[simp] theorem State.pathView_moment (t : Stamp) : (s.moment t).pathView = s.pathView := by
  rcases s.moment_cases t with ⟨-, e⟩ | ⟨-, -, e⟩ <;> simp [e]

/-! ### The line ports, RLY and NBV -/

@[simp] theorem State.pathView_symbolReceived (side : Side) (sym : Symbol) (t : Stamp) :
    (s.symbolReceived side sym t).pathView = s.pathView := by
  unfold State.symbolReceived; split
  · exact s.pathView_setPort side _
  · rfl

@[simp] theorem State.pathView_linkUp (side : Side) : (s.linkUp side).pathView = s.pathView := by
  unfold State.linkUp State.markCutOff; split <;> simp

@[simp] theorem State.pathView_agedMark (side : Side) : (s.agedMark side).pathView = s.pathView := by
  unfold State.agedMark; split <;> simp

@[simp] theorem State.pathView_relay (side : Side) (f : Frame) : (s.relay side f).pathView = s.pathView := by
  rw [s.relay_eq]
  exact s.pathView_setPort _ _

@[simp] theorem State.pathView_receivedFrame (r : ReceivedFrame) : (s.receivedFrame r).pathView = s.pathView := by
  unfold State.receivedFrame; split
  · dsimp only; split
    · rfl
    · split
      · rfl
      · exact State.pathView_relay _ _ _
  · rfl

@[simp] theorem State.pathView_promptReply (side : Side) (r : PathReport) : (s.promptReply side r).pathView = s.pathView := by
  obtain ⟨_, e⟩ := s.promptReply_changes side r
  rw [e]
  rfl

@[simp] theorem State.pathView_staleExpiry (side : Side) : (s.staleExpiry side).pathView = s.pathView := by
  unfold State.staleExpiry; split <;> simp

/-! ### Pilots' steps, the test generator and STU -/

/-- R84, R87: the boundary of two steps moves phases alone. -/
@[simp] theorem State.pathView_pilotStep : s.pilotStep.pathView = s.pathView := by
  by_cases awake : s.awake = true
  · funext p
    simp only [State.pathView, State.pathViewIn, State.pilotStep_osc awake, Osc.stepped_eq]
    rw [State.pilotStep_eq awake]
    rfl
  · rw [State.pilotStep, if_neg awake]

@[simp] theorem State.pathView_testExpiry : s.testExpiry.pathView = s.pathView := by
  unfold State.testExpiry; split
  · exact State.pathView_askNotice _ _ _
  · rfl

@[simp] theorem State.pathView_settleStall : s.settleStall.pathView = s.pathView := by
  obtain ⟨_, e⟩ := s.settleStall_changes
  rw [e]
  rfl

@[simp] theorem State.pathView_enterDying : s.enterDying.pathView = s.pathView := by
  unfold State.enterDying; split <;> rfl

@[simp] theorem State.pathView_judgeRevival : s.judgeRevival.pathView = s.pathView := by
  unfold State.judgeRevival; split <;> rfl

@[simp] theorem State.pathView_statePeriodExpiry : s.statePeriodExpiry.pathView = s.pathView := by
  unfold State.statePeriodExpiry; split
  · exact State.pathView_askState _
  · rfl

@[simp] theorem State.pathView_modLine (n : Fin 12) (f : LineRec → LineRec) : (s.modLine n f).pathView = s.pathView := rfl

@[simp] theorem State.pathView_lineEvent (n : Fin 12) (level : Bool) (t : Stamp) : (s.lineEvent n level t).pathView = s.pathView := by
  unfold State.lineEvent
  cases s.stu.lines[n].fn with
  | inp =>
    unfold State.inputChange; dsimp only; split <;> simp
  | tacho => simp
  | powerGood =>
    unfold State.powerGoodChange; dsimp only; split <;> simp
  | out => rfl
  | fan => rfl
  | alarm => rfl

@[simp] theorem State.pathView_hutLineChange (n : Fin 12) (level : Bool) (t : Stamp) :
    (s.hutLineChange n level t).pathView = s.pathView := by
  unfold State.hutLineChange; dsimp only; split
  · simp
    rfl
  · rfl

@[simp] theorem State.pathView_edgeTimerExpiry (n : Fin 12) : (s.edgeTimerExpiry n).pathView = s.pathView := by
  unfold State.edgeTimerExpiry; split <;> simp

@[simp] theorem State.pathView_stallTimerExpiry (n : Fin 12) : (s.stallTimerExpiry n).pathView = s.pathView := by
  unfold State.stallTimerExpiry; split <;> simp

/-! ### Slow readings -/

/-- R55, R105, R148, R150, R152: no reading touches an input state, a verdict, a pilot or a lane. -/
@[simp] theorem State.pathView_offerReading (i : Fin 10) (v : Nat) : (s.offerReading i v).pathView = s.pathView := by
  have bias (p : Fin 4) : (s.judgeBias p v).pathView = s.pathView := by
    unfold State.judgeBias; dsimp only; split
    · rw [State.pathView_askNotice]
      exact s.pathView_updPmn p rfl
    · rfl
  have hot : (s.judgeHot v).pathView = s.pathView := by
    unfold State.judgeHot; dsimp only; split
    · rfl
    · simp
      rfl
  have battery : (s.judgeBattery v).pathView = s.pathView := by
    unfold State.judgeBattery; split
    · simp
    · split <;> simp
  have filter : (s.judgeFilter v).pathView = s.pathView := by
    unfold State.judgeFilter; dsimp only; split
    · rfl
    · exact State.pathView_askNotice _ _ _
  unfold State.offerReading
  split
  · exact bias _
  · split
    · exact hot
    · split
      · exact battery
      · split
        · exact filter
        · rfl

@[simp] theorem State.pathView_slowConversion (code : Nat) : (s.slowConversion code).pathView = s.pathView := by
  unfold State.slowConversion; dsimp only; split
  · exact State.pathView_offerReading _ _ _
  · rfl

end

end Sys2Proof.Machine
end

section
/-! SUPPORT. What VDE, PMN, PLG and TCR make of the view of one path: verdicts judged anew, entry to LOSS and its end, and the lane results of
a block end. -/

namespace Sys2Proof.Machine
open Sys2Proof

/-! ### One path's view replaced -/

theorem State.pathsSound_update {s u : State} {p : Fin 4} {v : PathView} (change : u.pathView = Function.update s.pathView p v)
    (own : v.sound) (h : s.pathsSound) : u.pathsSound := by
  intro q
  rw [change]
  by_cases same : q = p
  · subst q
    rwa [Function.update_self]
  · rw [Function.update_of_ne same]
    exact h q

theorem State.pathView_replaced {s u : State} {p : Fin 4} {v : PathView} (own : u.pathView p = v)
    (others : ∀ q, p ≠ q → u.pathView q = s.pathView q) : u.pathView = Function.update s.pathView p v := by
  funext q
  by_cases same : q = p
  · subst q
    rw [Function.update_self, own]
  · rw [Function.update_of_ne same, others q (Ne.symm same)]

section
variable (s : State) (p : Fin 4)

theorem State.pathView_setVde (r : VerdictRec) :
    State.pathView { s with vde := s.vde.set p.val r p.isLt } =
      Function.update s.pathView p { s.pathView p with verdict := r.verdict } := by
  have get (q : Fin 4) : (s.vde.set p.val r p.isLt)[q] = if p = q then r else s.vde[q] := upd_get s.vde p q fun _ => r
  refine State.pathView_replaced ?_ fun q other => ?_
  · simp only [State.pathView, State.pathViewIn, get, if_true]
    rfl
  · simp only [State.pathView, State.pathViewIn, get, if_neg other]
    rfl

/-- R140: a verdict record replaced shows its verdict. -/
theorem State.pathView_setVerdict (r : VerdictRec) :
    (s.setVerdict p r).pathView = Function.update s.pathView p { s.pathView p with verdict := r.verdict } := by
  unfold State.setVerdict; dsimp only; split
  · exact s.pathView_setVde p r
  · rw [State.pathView_askNotice]
    exact s.pathView_setVde p r

/-- R106: a path record replaced, with its notice, shows its input state. -/
theorem State.pathView_notePath (f : PathRec → PathRec) :
    (s.notePath p f).pathView = Function.update s.pathView p { s.pathView p with input := (f s.pmn[p]).input } := by
  rw [State.notePath, State.pathView_askNotice]
  refine State.pathView_replaced ?_ fun q other => ?_
  · simp only [State.pathView, State.pathViewIn, upd_get, if_true]
    rfl
  · simp only [State.pathView, State.pathViewIn, upd_get, if_neg other]
    rfl

theorem State.pathView_setOsc (o : Osc) :
    (s.setOsc p o).pathView =
      Function.update s.pathView p { s.pathView p with lossIn := o.lossIn, fillIn := o.fillIn, mode := o.mode } := by
  have get (q : Fin 4) : (s.plg.osc.set p.val o p.isLt)[q] = if p = q then o else s.plg.osc[q] := upd_get s.plg.osc p q fun _ => o
  obtain ⟨_, e⟩ := s.setOsc_changes p o
  rw [e]
  refine State.pathView_replaced ?_ fun q other => ?_
  · simp only [State.pathView, State.pathViewIn, get, if_true]
    rfl
  · simp only [State.pathView, State.pathViewIn, get, if_neg other]
    rfl

/-- R86: a loss input replaced decides the mode. -/
theorem State.pathView_lossInput (b : Bool) :
    (s.lossInput p b).pathView =
      Function.update s.pathView p { s.pathView p with lossIn := b, mode := modeOf b (s.pathView p).fillIn } :=
  s.pathView_setOsc p _

/-- R86: a fill input replaced decides the mode. -/
theorem State.pathView_fillInput (b : Bool) :
    (s.fillInput p b).pathView =
      Function.update s.pathView p { s.pathView p with fillIn := b, mode := modeOf (s.pathView p).lossIn b } :=
  s.pathView_setOsc p _

end

/-! ### Verdicts judged anew (Chapter 9) -/

/-- From s to u of all views that of path p alone changes, and of it the verdict: NOT_APPLICABLE stands (R123), and a path comes to WATCH in
LOSS alone (R130). -/
def Rejudged (p : Fin 4) (s u : State) : Prop :=
  ∃ verdict, u.pathView = Function.update s.pathView p { s.pathView p with verdict := verdict } ∧
    (verdict = s.vde[p].verdict ∨ s.vde[p].verdict ≠ .notApplicable ∧ (verdict = .watch → s.pmn[p].input = .loss))

section
variable {p : Fin 4} {s u : State}

theorem Rejudged.refl (p : Fin 4) (s : State) : Rejudged p s s := ⟨_, (Function.update_eq_self p s.pathView).symm, .inl rfl⟩

theorem Rejudged.sound (h : Rejudged p s u) (own : (s.pathView p).sound) : (u.pathView p).sound := by
  obtain ⟨verdict, change, rfl | ⟨judged, watched⟩⟩ := h
  · rw [change, Function.update_self]
    exact own
  · rw [change, Function.update_self]
    exact { own with unjudged := fun running other => absurd (own.unjudged running other) judged, watched := watched }

theorem Rejudged.pathsSound (h : Rejudged p s u) (sound : s.pathsSound) : u.pathsSound := by
  have own := h.sound (sound p)
  obtain ⟨verdict, change, -⟩ := h
  rw [change, Function.update_self] at own
  exact State.pathsSound_update change own sound

theorem Rejudged.setVerdict {r : VerdictRec} (judged : s.vde[p].verdict ≠ .notApplicable)
    (watched : r.verdict = .watch → s.pmn[p].input = .loss) : Rejudged p s (s.setVerdict p r) :=
  ⟨_, s.pathView_setVerdict p r, .inr ⟨judged, watched⟩⟩

theorem Verdict.judged_of_isLight {v : Verdict} (light : v.isLight = true) : v ≠ .notApplicable := by rintro rfl; cases light

theorem Verdict.judged_of_isLoss {v : Verdict} (loss : v.isLoss = true) : v ≠ .notApplicable := by rintro rfl; cases loss

/-- R126: a light evaluation gives a light verdict, so neither WATCH nor RESTORING. -/
theorem lightVerdict_isLight {normal fill : Bool} {n confirm : Nat} {v : Verdict} (light : lightVerdict normal fill n confirm = some v) :
    v.isLight = true := by
  unfold lightVerdict at light
  split at light
  · cases light; rfl
  · split at light
    · cases light; rfl
    · split at light
      · cases light; rfl
      · cases light

/-- R126: a light evaluation gives no WATCH. -/
theorem Rejudged.lightEvaluation (judged : s.vde[p].verdict ≠ .notApplicable) : Rejudged p s (s.lightEvaluation p) := by
  unfold State.lightEvaluation; dsimp only; split
  next v light =>
    refine .setVerdict judged fun watch => absurd (lightVerdict_isLight light) ?_
    rw [show v = .watch from watch]
    decide
  next => exact .refl p s

/-- R125: the tone-absent count is no verdict. -/
theorem Rejudged.laneResult (normal fill : Bool) : Rejudged p s (s.laneResult p normal fill) := by
  have counted (n : Nat) : State.pathView { s with vde := s.vde.set p.val { s.vde[p] with toneAbsent := n } p.isLt } = s.pathView :=
    (s.pathView_setVde p _).trans (Function.update_eq_self p s.pathView)
  unfold State.laneResult; dsimp only
  generalize (if s.pmn[p].input = .loss then s.vde[p].toneAbsent else if (normal || fill) = true then 0 else satAdd s.vde[p].toneAbsent 1) = n
  have same : (s.vde.set p.val { s.vde[p] with toneAbsent := n } p.isLt)[p].verdict = s.vde[p].verdict := by simp
  split
  next light =>
    have judged : s.vde[p].verdict ≠ .notApplicable := by
      intro standing
      rw [standing] at light
      simp [Verdict.isLight] at light
    obtain ⟨verdict, change, allowed⟩ := Rejudged.lightEvaluation (s := { s with vde := s.vde.set p.val { s.vde[p] with toneAbsent := n } p.isLt })
      (p := p) (by rwa [same])
    rw [counted] at change
    rw [same] at allowed
    exact ⟨verdict, change, allowed⟩
  next => exact ⟨_, (counted n).trans (Function.update_eq_self p s.pathView).symm, .inl rfl⟩

/-- R128, R137: a loss event reaches a path that is in LOSS. -/
theorem Rejudged.lossEvent (lost : s.pmn[p].input = .loss) (t : Stamp) : Rejudged p s (s.lossEvent p t) := by
  unfold State.lossEvent; split
  next light => exact .setVerdict (Verdict.judged_of_isLight light) fun _ => lost
  next =>
    split
    next restoring => exact .setVerdict (by rw [restoring]; nofun) fun _ => lost
    next => exact .refl p s

/-- R131, R134: what decides a WATCH or an UNRESOLVED gives another verdict than WATCH. -/
theorem Rejudged.decideLoss {v : Verdict} (decided : v ≠ .watch) (e : Evidence) : Rejudged p s (s.decideLoss p v e) := by
  unfold State.decideLoss; dsimp only; split
  next watch => exact .setVerdict (by rw [watch]; nofun) fun still => absurd still decided
  next =>
    split
    next unresolved => exact .setVerdict (by rw [unresolved]; nofun) fun still => absurd still decided
    next => exact .refl p s

theorem Rejudged.upstreamReport (low prompted : Bool) : Rejudged p s (s.upstreamReport p low prompted) := by
  unfold State.upstreamReport; split
  · exact .decideLoss (by nofun) _
  · split
    · exact .decideLoss (by nofun) _
    · exact .refl p s

/-- R139: a RECHECK brings a WATCH to a path in LOSS alone. -/
theorem Rejudged.recheckPath : Rejudged p s (s.recheckPath p) := by
  unfold State.recheckPath; dsimp only; split
  next resolved =>
    obtain ⟨loss, lost⟩ := Bool.and_eq_true_iff.mp resolved
    exact .setVerdict (Verdict.judged_of_isLoss (Bool.or_eq_true_iff.mpr (.inr loss))) fun _ => of_decide_eq_true lost
  next =>
    split
    next light => exact .lightEvaluation (Verdict.judged_of_isLight light)
    next => exact .refl p s

/-- R132: a window that runs out ends a WATCH. -/
theorem Rejudged.windowExpiry : Rejudged p s (s.windowExpiry p) := by
  unfold State.windowExpiry; dsimp only; split
  next due =>
    have watch : s.vde[p].verdict = .watch := by simpa using (Bool.and_eq_true_iff.mp (Bool.and_eq_true_iff.mp due).1).2
    have expired : Rejudged p s (s.setVerdict p { s.vde[p] with verdict := .unresolved, evidence := .timeout, late := false, window := .stopped }) :=
      .setVerdict (by rw [watch]; nofun) nofun
    rwa [Rejudged, State.pathView_settleAlarms]
  next => exact .refl p s

/-- R136: a hold-off that runs out brings a light evaluation to a RESTORING path. -/
theorem Rejudged.holdOffExpiry : Rejudged p s (s.holdOffExpiry p) := by
  unfold State.holdOffExpiry; dsimp only; split
  next due =>
    have restoring : s.vde[p].verdict = .restoring := by simpa using (Bool.and_eq_true_iff.mp (Bool.and_eq_true_iff.mp due).1).2
    have stopped : State.pathView { s with vde := s.vde.set p.val { s.vde[p] with holdOff := .stopped } p.isLt } = s.pathView :=
      (s.pathView_setVde p _).trans (Function.update_eq_self p s.pathView)
    have same : (s.vde.set p.val { s.vde[p] with holdOff := .stopped } p.isLt)[p].verdict = s.vde[p].verdict := by simp
    obtain ⟨verdict, change, allowed⟩ := Rejudged.lightEvaluation (s := { s with vde := s.vde.set p.val { s.vde[p] with holdOff := .stopped } p.isLt })
      (p := p) (by rw [same, restoring]; nofun)
    rw [stopped] at change
    rw [same] at allowed
    exact ⟨verdict, (State.pathView_settleAlarms _).trans change, allowed⟩
  next => exact .refl p s

end

/-! ### What link-downs and neighbours decide (R120, R121, R131, R134) -/

section
variable {s : State} (h : s.pathsSound) (side : Side)
include h

theorem State.linkDownEvent_pathsSound : (s.linkDownEvent side).pathsSound := by
  unfold State.linkDownEvent; split
  · refine foldl_keeps State.pathsSound _ (fun u p sound => ?_) _ s h
    split
    · exact (Rejudged.decideLoss (by nofun) _).pathsSound sound
    · exact sound
  · exact h

theorem State.handReport_pathsSound (i : Fin 4) (low prompted : Bool) : (s.handReport side i low prompted).pathsSound := by
  unfold State.handReport
  refine foldl_keeps State.pathsSound _ (fun u p sound => ?_) _ s h
  split
  · exact (Rejudged.upstreamReport low prompted).pathsSound sound
  · exact sound

theorem State.handDying_pathsSound : (s.handDying side).pathsSound := by
  unfold State.handDying
  refine foldl_keeps State.pathsSound _ (fun u p sound => ?_) _ s h
  split
  · exact (Rejudged.decideLoss (by nofun) _).pathsSound sound
  · exact sound

end

theorem State.useFrame_pathsSound {s : State} (d : Delivery) (h : s.pathsSound) : (s.useFrame d).pathsSound := by
  have recorded (side : Side) (r : NbRec) : (s.setNb side r).pathsSound := State.pathsSound_of_view (by simp) h
  have states (side : Side) (m : Vector Summary 4) : (s.useState side m).pathsSound :=
    foldl_keeps State.pathsSound _ (fun u i sound => State.handReport_pathsSound sound side i _ _) _ _ (recorded side _)
  have paths (side : Side) (r : PathReport) : (s.usePath side r).pathsSound :=
    State.pathsSound_of_view (State.pathView_promptReply ..) (State.handReport_pathsSound (recorded side _) side _ _ _)
  have powers (side : Side) (dying : Bool) : (s.usePower side dying).pathsSound := by
    unfold State.usePower; dsimp only; split
    · exact State.handDying_pathsSound (recorded side _) side
    · exact recorded side _
  unfold State.useFrame
  cases d.kind with
  | state =>
    dsimp only; split
    · exact states _ _
    · exact h
  | notice =>
    dsimp only; split
    · exact paths _ _
    · exact powers _ _
    · exact h
    · exact h
  | request => exact h
  | answer => exact h

theorem State.neighbourFrame_pathsSound {s : State} (d : Delivery) (h : s.pathsSound) : (s.neighbourFrame d).pathsSound := by
  unfold State.neighbourFrame; split
  · dsimp only; split
    · split
      · exact State.pathsSound_of_view (State.pathView_setNb _ _ _) h
      · split
        · exact State.pathsSound_of_view (State.pathView_settleAlarms _) (State.useFrame_pathsSound (s := s.frameTaken d) d h)
        · exact h
    · exact h
  · exact h

/-! ### Entry to LOSS and its end (R86, R100, R101, R103) -/

section
variable {s : State} {p : Fin 4}

theorem State.enterLoss_pathsSound (t : Stamp) (h : s.pathsSound) : (s.enterLoss p t).pathsSound := by
  have lost : (s.inputLost p t).pathsSound := by
    refine State.pathsSound_update (p := p)
      (v := { s.pathView p with input := .loss, lossIn := true, mode := modeOf true (s.pathView p).fillIn }) ?_ ?_ h
    · rw [State.inputLost, State.pathView_lossInput, State.pathView_notePath, Function.update_self, Function.update_idem]
    · exact { h p with watched := fun _ => rfl, lossIn := rfl, mode := rfl }
  rw [State.enterLoss_eq]
  split
  · exact (Rejudged.lossEvent (congrArg PathRec.input (PathStep.inputLost s p t).record) t).pathsSound lost
  · exact lost

/-- R135: a restore event takes a path out of WATCH. -/
theorem VerdictRec.restored_ne_watch (v : VerdictRec) (holdOff : Nat) : (v.restored holdOff).verdict ≠ .watch := by
  unfold VerdictRec.restored
  split
  next => nofun
  next light => exact fun watch => light (by rw [watch]; rfl)

theorem State.pathView_restoreEvent (s : State) (p : Fin 4) :
    (s.restoreEvent p).pathView =
      Function.update s.pathView p { s.pathView p with verdict := (s.vde[p].restored s.settings.holdOff).verdict } := by
  unfold State.restoreEvent VerdictRec.restored; dsimp only; split
  · exact s.pathView_setVerdict p _
  · exact (Function.update_eq_self p s.pathView).symm

/-- R86, R103: a path that leaves LOSS with another verdict than WATCH. -/
theorem PathView.sound.relit {v : PathView} (h : v.sound) {input : InputState} {verdict : Verdict} (light : input ≠ .loss)
    (unwatched : verdict ≠ .watch) (unjudged : v.running = true → v.kind ≠ .span → verdict = .notApplicable) :
    PathView.sound { v with verdict := verdict, input := input, lossIn := false, mode := modeOf false v.fillIn } :=
  { h with unjudged := unjudged, watched := fun watch => absurd watch unwatched, lossIn := by simp [light], mode := rfl }

/-- R103, R135: in RUNNING a path that leaves LOSS leaves WATCH too: one that is not SPAN was not in it. -/
theorem State.leaveLoss_pathsSound (m : Nat) (running : s.running = true) (h : s.pathsSound) : (s.leaveLoss p m).pathsSound := by
  have light := lightState_ne_loss s.settings.paths[p] m
  have lit : (s.inputRestored p m).pathView = Function.update s.pathView p
      { s.pathView p with
        input := lightState s.settings.paths[p] m, lossIn := false, mode := modeOf false (s.pathView p).fillIn } := by
    rw [State.inputRestored, State.pathView_lossInput, State.pathView_notePath, Function.update_self, Function.update_idem]
  have kind : (s.inputRestored p m).kind p = (s.pathView p).kind := by
    have := congrArg PathView.kind (congrFun lit p)
    rwa [Function.update_self] at this
  unfold State.leaveLoss; split
  next span =>
    rw [kind] at span
    have restored := State.pathView_restoreEvent (s.inputRestored p m) p
    rw [lit, Function.update_self, Function.update_idem] at restored
    exact State.pathsSound_update restored ((h p).relit light (VerdictRec.restored_ne_watch _ _) fun _ other => absurd span other) h
  next other =>
    rw [kind] at other
    have standing := (h p).unjudged running other
    exact State.pathsSound_update lit ((h p).relit light (by rw [standing]; nofun) (h p).unjudged) h

theorem PathRec.inputAfter_ne_loss {r : PathRec} {c : PathSettings} {m : Nat} (light : r.input ≠ .loss)
    (later : ¬ (r.input = .unknown ∧ m < c.loss)) : r.inputAfter c m ≠ .loss := by
  unfold PathRec.inputAfter
  cases before : r.input with
  | loss => exact absurd before light
  | unknown => exact fun lost => later ⟨before, (firstState_eq_loss c m).mp lost⟩
  | ok => exact heldState_ne_loss c m (by nofun)
  | low => exact heldState_ne_loss c m (by nofun)
  | high => exact heldState_ne_loss c m (by nofun)

/-- R101 to R103: PMN's judgement of an input mean. -/
theorem State.judgeInput_pathsSound (m : Nat) (t : Stamp) (running : s.running = true) (h : s.pathsSound) :
    (s.judgeInput p m t).pathsSound := by
  obtain ⟨_, judged⟩ := PathStep.judgeInput s p m t
  rcases s.judgeInput_cases p m t with ⟨-, e⟩ | ⟨later, ⟨-, e⟩ | e | ⟨light, st, e⟩⟩
  · rw [e]
    exact State.enterLoss_pathsSound t h
  · rw [e]
    exact State.leaveLoss_pathsSound m running h
  · rwa [e]
  · have after : st ≠ .loss := by
      have record := congrArg PathRec.input judged.record
      rw [e, (PathStep.notePath s p _).record] at record
      rw [show st = s.pmn[p].inputAfter s.settings.paths[p] m from record]
      exact PathRec.inputAfter_ne_loss light later
    rw [e]
    refine State.pathsSound_update (s.pathView_notePath p _) { h p with watched := ?_, lossIn := ?_ } h
    · exact fun watch => absurd ((h p).watched watch) light
    · exact (h p).lossIn.trans (by simp [show (s.pathView p).input ≠ .loss from light, after])

theorem State.pmnPathEnd_pathsSound (t : Stamp) (running : s.running = true) (h : s.pathsSound) : (s.pmnPathEnd t p).pathsSound := by
  have formed : State.pathsSound { s with pmn := upd s.pmn p PathRec.meansFormed } :=
    State.pathsSound_of_view (s.pathView_updPmn p (by rfl)) h
  have output (u : State) (n : Nat) : (u.judgeOutput p n).pathView = u.pathView := by
    unfold State.judgeOutput; dsimp only; split
    · rfl
    · rw [State.pathView_askNotice]
      exact u.pathView_updPmn p rfl
  unfold State.pmnPathEnd; dsimp only; split
  · exact State.pathsSound_of_view (output _ _) (State.judgeInput_pathsSound _ t (by exact running) formed)
  · exact formed

/-- R98, R101 to R104: PMN's block end. -/
theorem State.pmnBlockEnd_pathsSound (t : Stamp) (running : s.running = true) (h : s.pathsSound) : (s.pmnBlockEnd t).pathsSound := by
  refine (foldl_keeps (fun u => u.running = true ∧ u.pathsSound) _ (fun u p sound => ⟨?_, ?_⟩) _ s ⟨running, h⟩).2
  · obtain ⟨_, _, step⟩ := PathStep.exists_pmnPathEnd t u p
    exact step.paths.queue.2.2.trans sound.1
  · exact State.pmnPathEnd_pathsSound t sound.1 sound.2

end

/-! ### Lane results (R78, R80, R86) -/

theorem PathStep.pathViewIn_other {p q : Fin 4} {s u : State} {r : PathRec} {v : VerdictRec} (h : PathStep p s u r v) (other : p ≠ q)
    (lanes : Vector Lane 16) : u.pathViewIn lanes q = s.pathViewIn lanes q := by
  obtain ⟨o, asks, rfl⟩ := h
  simp only [State.pathViewIn, State.withPath, upd_get, if_neg other]
  rfl

/-- R78: a block end leaves the state of every lane. -/
theorem evaluateLanes_state (lanes : Vector Lane 16) (i : Fin 16) : (evaluateLanes lanes)[i].state = lanes[i].state :=
  (evaluateLanes_sameWatch lanes i).state

/-- R78: of a path whose lanes do not run a block end leaves the view. -/
theorem State.pathViewIn_stopped {s : State} {p : Fin 4} {lanes : Vector Lane 16} (stopped : lanes[fillLane p].state ≠ .running) :
    s.pathViewIn (evaluateLanes lanes) p = s.pathViewIn lanes p := by
  simp only [State.pathViewIn, evaluateLanes_state, evaluateLanes_stopped lanes (fillLane p) stopped]

/-- R86: the presence of a fill lane that runs, with the fill input that follows it. -/
theorem PathView.sound.toned {v : PathView} (h : v.sound) (active : v.fill = .running) (tone : Bool) :
    PathView.sound { v with tone := tone, fillIn := tone, mode := modeOf v.lossIn tone } :=
  { h with silent := fun stopped => absurd active stopped, fillIn := rfl, mode := rfl }

/-- R80, R86: what TCR hands on of a path whose lanes are evaluated brings its fill input up to its fill lane. -/
theorem State.handLaneResult_sound {s : State} {p : Fin 4} {before : Vector Lane 16} (lanes : s.tcr = evaluateLanes before)
    (h : (s.pathViewIn before p).sound) : ((s.handLaneResult before p).pathView p).sound := by
  have view : s.pathView p = { s.pathViewIn before p with tone := (evaluateLanes before)[fillLane p].present } := by
    simp only [State.pathView, State.pathViewIn, lanes, evaluateLanes_state]
  have running (active : s.tcr[normalLane p].state = .running) : before[fillLane p].state = .running := by
    rw [lanes, evaluateLanes_state] at active
    exact h.together.symm.trans active
  unfold State.handLaneResult; dsimp only; split
  next handed =>
    have active := running handed.2
    refine (Rejudged.laneResult _ _).sound ?_
    split
    next same =>
      have tone : before[fillLane p].present = (evaluateLanes before)[fillLane p].present := by rw [← lanes, same]
      rw [view, ← tone]
      exact h
    next =>
      rw [State.pathView_fillInput, Function.update_self, view, lanes]
      exact h.toned active _
  next unhanded =>
    have stopped : before[fillLane p].state ≠ .running := by
      intro active
      by_cases span : s.kind p = .span
      · exact unhanded ⟨span, by rw [lanes, evaluateLanes_state]; exact h.together.trans active⟩
      · exact absurd ((h.parked (.inr span)).symm.trans active) (by nofun)
    rw [State.pathView, lanes, State.pathViewIn_stopped stopped]
    exact h

/-- R80: TCR hands on the results of the paths of a list in turn; those of the list are sound before their lanes were evaluated, and the
others since. -/
theorem State.handLaneResults_sound {before : Vector Lane 16} (l : List (Fin 4)) (nodup : l.Nodup) :
    ∀ s : State, s.tcr = evaluateLanes before → (∀ p ∈ l, (s.pathViewIn before p).sound) → (∀ p ∉ l, (s.pathView p).sound) →
      (l.foldl (fun s p => s.handLaneResult before p) s).pathsSound := by
  induction l with
  | nil => exact fun s _ _ handed p => handed p List.not_mem_nil
  | cons p l ih =>
    intro s lanes waiting handed
    obtain ⟨fresh, nodup⟩ := List.nodup_cons.mp nodup
    have step := PathStep.handLaneResult s p before
    refine ih nodup _ (step.paths.tcr.trans lanes) (fun q mem => ?_) (fun q done => ?_)
    · rw [step.pathViewIn_other (fun same => fresh (same ▸ mem))]
      exact waiting q (List.mem_cons_of_mem p mem)
    · by_cases same : p = q
      · subst q
        exact State.handLaneResult_sound lanes (waiting p List.mem_cons_self)
      · rw [State.pathView, step.paths.tcr, step.pathViewIn_other same]
        exact handed q (by simp [Ne.symm same, done])

/-- R77 to R81: TCR's block end. -/
theorem State.tcrBlockEnd_pathsSound {s : State} (h : s.pathsSound) : s.tcrBlockEnd.pathsSound := by
  obtain ⟨q, evaluated, -⟩ := s.lanesEvaluated_eq
  rw [State.tcrBlockEnd_eq, evaluated]
  exact State.handLaneResults_sound _ (List.nodup_finRange 4) _ rfl (fun p _ => h p) fun p out => absurd (List.mem_finRange p) out

end Sys2Proof.Machine
end

section
/-! SUPPORT. That every command, and so every step, keeps verdicts, input states, automatic lanes and pilot modes agreed. It settles O59. -/

namespace Sys2Proof.Machine
open Sys2Proof

/-! ### Resets, the restart and the answers -/

/-- R65, R123: outside RUNNING the kind of a path is free. -/
theorem PathView.sound.idle {v : PathView} (h : v.sound) (was : v.running = false) {running : Bool} (is : running = false)
    (kind : PathKind) : PathView.sound { v with running := running, kind := kind } :=
  { h with unjudged := fun runs => absurd (is.symm.trans runs) (by decide), parked := fun _ => h.parked (.inl was) }

theorem State.pathsSound_idle {s u : State} (was : s.running = false) (is : u.running = false)
    (same : ∀ p, u.pathView p = { s.pathView p with running := u.running, kind := u.kind p }) (h : s.pathsSound) : u.pathsSound := by
  intro p
  rw [same p]
  exact (h p).idle was is _

/-- R64, R89, R110, R123: outside RUNNING with TCR, PLG, PMN and VDE at their start values. -/
theorem State.pathsSound_of_reset {s : State} (idle : s.running = false) (tcr : s.tcr = lanesReset) (osc : s.plg.osc = Plg.reset.osc)
    (pmn : s.pmn = .replicate 4 .reset) (vde : s.vde = .replicate 4 .reset) : s.pathsSound := by
  have held := (State.pathsSound_iff (.held s.pins 0 none 0 [])).mpr
    ⟨State.held_verdictsSound _ _ _ _ _, State.held_pilotsSound _ _ _ _ _⟩
  refine State.pathsSound_idle rfl idle (fun p => ?_) held
  simp only [State.pathView, State.pathViewIn, tcr, osc, pmn, vde]
  rfl

section
variable {s : State} (h : s.pathsSound)
include h

theorem State.answersLeft_pathsSound (slots : List (Fin 6)) : (s.answersLeft slots).pathsSound := by
  unfold State.answersLeft; dsimp only; split
  · split
    · exact State.pathsSound_of_reset (State.restart_not_running _) rfl rfl rfl rfl
    · exact h
  · exact h

theorem State.complete_pathsSound (k : Fin 6) (status : Status) (results : List Byte) : (s.complete k status results).pathsSound := by
  unfold State.complete State.askAnswer; dsimp only; split
  · exact h
  · exact State.answersLeft_pathsSound (by exact h) _

theorem State.entryToDown_pathsSound (side : Side) : (s.entryToDown side).pathsSound := by
  have closed (p : Port) : (s.setPort side p).pathsSound := State.pathsSound_of_view (s.pathView_setPort side p) h
  unfold State.entryToDown
  refine State.pathsSound_of_view (State.pathView_settleAlarms _) (State.linkDownEvent_pathsSound ?_ side)
  exact State.pathsSound_of_view (State.pathView_setNb _ side _) (State.answersLeft_pathsSound (by exact closed _) _)

theorem State.signalDetectChange_pathsSound (side : Side) (level : Bool) : (s.signalDetectChange side level).pathsSound := by
  have set : (s.setSignal side level).pathsSound := State.pathsSound_of_view (by simp) h
  unfold State.signalDetectChange; dsimp only; split
  · exact State.entryToDown_pathsSound set side
  · exact set

theorem State.silenceExpiry_pathsSound (side : Side) : (s.silenceExpiry side).pathsSound := by
  unfold State.silenceExpiry; split
  · exact State.entryToDown_pathsSound h side
  · exact h

theorem State.grant_pathsSound (side : Side) : (s.grant side).pathsSound := by
  have granted (p : Port) : (s.setPort side p).pathsSound := State.pathsSound_of_view (s.pathView_setPort side p) h
  unfold State.grant; split
  · split
    · exact granted _
    · exact State.answersLeft_pathsSound (by exact granted _) _
    · exact h
  · exact h

theorem State.transmitDone_pathsSound (side : Side) : (s.transmitDone side).pathsSound := by
  unfold State.transmitDone; split
  · exact State.grant_pathsSound (State.pathsSound_of_view (s.pathView_setPort side _) h) side
  · exact h

end

/-! ### Pool watches (R67 to R71) -/

section
variable {s : State}

/-- R63, R68: a watch freed takes no automatic lane with it. -/
theorem State.pathView_freeWatch {i : Fin 16} (pool : 8 ≤ i.val) (lanes : s.lanesSound) : (s.freeWatch i).pathView = s.pathView := by
  refine (State.pathView_askNotice _ _ _).trans (s.pathView_setLanes fun j automatic => ?_)
  rw [freeWatch_get, if_neg]
  · exact ⟨rfl, rfl⟩
  · rintro (rfl | mate)
    · omega
    · have := (((State.lanesSound_iff s).mp lanes i).2 j mate).1
      omega

theorem State.pathView_watchExpiry (i : Fin 16) (lanes : s.lanesSound) : (s.watchExpiry i).pathView = s.pathView := by
  unfold State.watchExpiry; split
  next due =>
    simp only [Bool.and_eq_true, decide_eq_true_eq] at due
    exact State.pathView_freeWatch due.1.2 lanes
  next => rfl

/-- R67, R68: a watch is tuned in pool lanes. -/
theorem pool_of_allocated {lanes : Vector Lane 16} {a : WatchArgs} {i : Fin 16}
    (found : (if a.second.isSome then freePair lanes else freeLane lanes) = some i) :
    8 ≤ i.val ∧ (a.second.isSome = true → 8 ≤ (nextLane i).val) := by
  split at found
  next pair =>
    have chosen := List.find?_some found
    simp only [Bool.and_eq_true, poolFree_iff] at chosen
    exact ⟨chosen.1.2.1, fun _ => chosen.2.1⟩
  next single => exact ⟨((poolFree_iff _ _).mp (List.find?_some found)).1, fun pair => absurd pair single⟩

theorem allocate_automatic {lanes : Vector Lane 16} {a : WatchArgs} {i j : Fin 16} (requester : Byte) (on off : Nat)
    (found : (if a.second.isSome then freePair lanes else freeLane lanes) = some i) (automatic : j.val < 8) :
    (allocate lanes requester a on off i)[j] = lanes[j] := by
  obtain ⟨pool, pool'⟩ := pool_of_allocated found
  have apart : i ≠ j := by rintro rfl; omega
  cases pair : a.second with
  | none => rw [allocate_single pair, if_neg apart]
  | some both =>
    have apart' : nextLane i ≠ j := by
      have := pool' (by rw [pair]; rfl)
      rintro rfl
      omega
    rw [allocate_pair pair, if_neg apart', if_neg apart]

theorem State.pathView_toneWatch (s : State) (requester : Byte) (a : WatchArgs) : (s.toneWatch requester a).1.pathView = s.pathView := by
  rcases s.toneWatch_cases requester a with ⟨i, -, e⟩ | ⟨-, ⟨i, found, e⟩ | ⟨-, e⟩⟩
  · rw [e]
    refine s.pathView_setLanes fun j _ => ?_
    rw [renewed_get]
    split <;> exact ⟨rfl, rfl⟩
  · rw [e]
    refine (State.pathView_askNotice _ _ _).trans (s.pathView_setLanes fun j automatic => ?_)
    rw [allocate_automatic _ _ _ found automatic]
    exact ⟨rfl, rfl⟩
  · rw [e]

end

/-! ### Requests -/

/-- R161 to R163: a request keeps the views sound where its execution does; TONE_DROP needs the lane table for it. -/
theorem State.takeRequest_pathsSound {s : State} (rq : RequestHead) (body : List Byte) {run : Fin 6 → State → State × Reply}
    (hrun : ∀ k u, u.lanesSound → u.pathsSound → (run k u).1.pathsSound) (lanes : s.lanesSound) (h : s.pathsSound) :
    (s.takeRequest rq body run).pathsSound := by
  unfold State.takeRequest; split
  · dsimp only; split
    · exact h
    · split
      · exact h
      next k _ =>
        have inSlot : (s.requestIn k rq body).pathsSound := h
        have ran := hrun k (s.requestIn k rq body) lanes inSlot
        split
        · exact State.complete_pathsSound inSlot _ _ _
        · split
          next u status results done =>
            rw [show run k (s.requestIn k rq body) = (u, .done status results) from done] at ran
            exact State.complete_pathsSound ran _ _ _
          next u waiting =>
            rw [show run k (s.requestIn k rq body) = (u, .waiting) from waiting] at ran
            exact ran
  · exact h

section
variable (s : State) (args : List Byte) (k : Fin 6)

theorem State.pathView_runProbe : (runProbe args k s).1.pathView = s.pathView := by
  unfold runProbe; split
  · split <;> rfl
  · rfl

theorem State.pathView_runToneWatch (requester : Byte) : (runToneWatch requester args k s).1.pathView = s.pathView := by
  unfold runToneWatch; split
  next a _ =>
    have watched := s.pathView_toneWatch requester a
    split
    next e => rwa [e] at watched
    next e => rwa [e] at watched
  next => rfl

theorem State.pathView_runToneDrop (requester : Byte) (lanes : s.lanesSound) :
    (runToneDrop requester args k s).1.pathView = s.pathView := by
  unfold runToneDrop; split
  · split
    · rfl
    next pool =>
      split
      · rfl
      · split
        · exact State.pathView_freeWatch (Nat.not_lt.mp pool) lanes
        · rfl
  · rfl

theorem State.pathView_runGenClaim (requester : Byte) : (runGenClaim requester args k s).1.pathView = s.pathView := by
  unfold runGenClaim; split
  · split
    · rfl
    · split
      · split
        · split <;> rfl
        · rfl
      · exact State.pathView_askNotice _ _ _
  · rfl

theorem State.pathView_runGenRelease (requester : Byte) : (runGenRelease requester args k s).1.pathView = s.pathView := by
  unfold runGenRelease; split
  · split
    · split
      · exact State.pathView_askNotice _ _ _
      · rfl
    · rfl
  · rfl

theorem State.pathView_runLines (level : Bool) : (runLines level args k s).1.pathView = s.pathView := by
  unfold runLines; split
  · exact (State.pathView_settleAlarms _).trans (State.pathView_settleStall _)
  · rfl

theorem State.pathView_runLinesAck : (runLinesAck args k s).1.pathView = s.pathView := by
  unfold runLinesAck; split <;> rfl

theorem State.pathView_runRestart (broadcast : Bool) : (runRestart broadcast args k s).1.pathView = s.pathView := by
  unfold runRestart; split
  · split
    · rfl
    · split <;> rfl
  · rfl

theorem State.runRecheck_pathsSound (h : s.pathsSound) : (runRecheck args k s).1.pathsSound := by
  unfold runRecheck; split
  · split
    · exact h
    · exact State.pathsSound_of_view (State.pathView_settleAlarms _) (Rejudged.recheckPath.pathsSound h)
  · exact h

end

/-! ### The sampler (R49 to R51, R73, R74, R98, R99) -/

/-- R73: a lane state after a block start. -/
def LaneState.started (st : LaneState) : LaneState := if st = .starting then .running else st

/-- R73: the two automatic lanes of a path start together, with the presence they had. -/
theorem PathView.sound.started {v : PathView} (h : v.sound) :
    PathView.sound { v with normal := v.normal.started, fill := v.fill.started } :=
  { h with
    together := congrArg LaneState.started h.together
    parked := fun idle => congrArg LaneState.started (h.parked idle)
    silent := fun still => h.silent fun runs => still (congrArg LaneState.started runs) }

theorem State.pathView_started (s : State) (p : Fin 4) :
    State.pathView { s with tcr := each Lane.atBlockStart s.tcr } p =
      { s.pathView p with normal := (s.pathView p).normal.started, fill := (s.pathView p).fill.started } := by
  simp only [State.pathView, State.pathViewIn, each_get, Lane.atBlockStart_eq]
  rfl

section
variable {s : State} (h : s.pathsSound)
include h

theorem State.blockStart_pathsSound : s.blockStart.pathsSound := by
  unfold State.blockStart; split
  next =>
    have started : State.pathsSound { s with tcr := each Lane.atBlockStart s.tcr } := by
      intro p
      rw [State.pathView_started]
      exact (h p).started
    refine State.pathsSound_of_view ?_ started
    exact State.pathView_setPmn { s with tcr := each Lane.atBlockStart s.tcr }
      (pmn := .ofFn fun p => s.pmn[p].atBlockStart (s.monitored p)) fun p => by simp [PathRec.atBlockStart]
  next => exact h

theorem State.compareLoss_pathsSound (p : Fin 4) (code : Nat) (t : Stamp) : (s.compareLoss p code t).pathsSound := by
  have counted (n : Nat) : State.pathsSound { s with pmn := upd s.pmn p fun r => { r with lossRun := n } } :=
    State.pathsSound_of_view (s.pathView_updPmn p (f := fun r => { r with lossRun := n }) rfl) h
  unfold State.compareLoss; dsimp only
  generalize (if code < s.settings.paths[p].loss then satAdd s.pmn[p].lossRun 1 else 0) = run
  split
  · split
    · exact State.enterLoss_pathsSound t (counted run)
    · exact counted run
  · exact h

theorem State.tapSample_pathsSound (ch : Fin 8) (code : Code) (t : Stamp) : (s.tapSample ch code t).pathsSound := by
  have sampled : (s.sampled ch code).pathView = s.pathView := by
    refine (State.pathView_setPmn { s with tcr := each (Lane.accumulate ch code.toNat) s.tcr } (pmn := addSample ch code.toNat s.pmn)
      fun p => ?_).trans (s.pathView_setLanes fun i _ => ?_)
    · rw [addSample_get]
    · rw [each_get]
      unfold Lane.accumulate
      split <;> exact ⟨rfl, rfl⟩
  have taken : (s.sampled ch code).pathsSound := State.pathsSound_of_view sampled h
  unfold State.tapSample; split
  · refine State.pathsSound_of_view (State.pathView_settleAlarms _) ?_
    split
    · exact State.compareLoss_pathsSound taken _ _ t
    · exact taken
  · exact h

theorem State.blockEnd_pathsSound (pmnFirst : Bool) (t : Stamp) : (s.blockEnd pmnFirst t).pathsSound := by
  unfold State.blockEnd; split
  next ends =>
    have running : s.running = true := (Bool.and_eq_true_iff.mp (Bool.and_eq_true_iff.mp ends).1).1
    have due : State.pathsSound { s with smp := { s.smp with block := .startDue } } := h
    refine State.pathsSound_of_view (State.pathView_settleAlarms _) ?_
    split
    · exact State.tcrBlockEnd_pathsSound (State.pmnBlockEnd_pathsSound t (by exact running) due)
    · refine State.pmnBlockEnd_pathsSound t ?_ (State.tcrBlockEnd_pathsSound due)
      obtain ⟨_, _, _, e⟩ := State.tcrBlockEnd_changes { s with smp := { s.smp with block := .startDue } }
      rw [e]
      exact running
  next => exact h

theorem State.sharedSlot_pathsSound (code : Code) (t : Stamp) : (s.sharedSlot code t).pathsSound := by
  unfold State.sharedSlot; split
  · dsimp only; split
    · exact State.complete_pathsSound (by exact h) _ _ _
    · exact State.pathsSound_of_view ((State.pathView_settleAlarms _).trans (State.pathView_slowConversion _ _)) h
  · exact h

end

/-! ### Loads (R36 to R44, R64, R65) -/

/-- R65: the automatic lanes of a SPAN path are tuned, and the others left. -/
theorem Lane.tuned_state (c : Settings) {i : Fin 16} {p : Fin 4} (own : i.val / 2 = p.val) (l : Lane) :
    (l.tuned c i).state = (if c.paths[p].kind = .span then .starting else l.state) ∧ (l.tuned c i).present = l.present := by
  have automatic : i.val < 8 := by omega
  have place : i.val / 2 % 4 = p.val := by omega
  simp only [Lane.tuned, automatic, place, Fin.eta, true_and]
  split <;> exact ⟨rfl, rfl⟩

/-- R43, R65, R89, R123: the view of a path of a kind at the entry to RUNNING. -/
def PathView.entered (kind : PathKind) : PathView :=
  { running := true, kind := kind, verdict := if kind = .span then .pending else .notApplicable, input := .unknown
    normal := if kind = .span then .starting else .parked, fill := if kind = .span then .starting else .parked
    tone := false, lossIn := false, fillIn := false, mode := .normal }

theorem PathView.entered_sound (kind : PathKind) : (PathView.entered kind).sound where
  unjudged _ other := if_neg other
  watched := by unfold PathView.entered; split <;> nofun
  together := rfl
  parked idle := if_neg (idle.resolve_left nofun)
  silent _ := rfl
  lossIn := rfl
  fillIn := rfl
  mode := rfl

theorem normalLane_half (p : Fin 4) : (normalLane p).val / 2 = p.val := by simp only [normalLane]; omega

theorem fillLane_half (p : Fin 4) : (fillLane p).val / 2 = p.val := by simp only [fillLane]; omega

section
variable {s : State} (h : s.pathsSound)
include h

/-- R43, R65, R89, R123: at the entry to RUNNING every path is judged anew, and only a SPAN path has lanes that start. -/
theorem State.blocksEntered_pathsSound (idle : s.running = false) (awake : s.awake = true) : s.blocksEntered.pathsSound := by
  intro p
  obtain ⟨-, -, together, parked, silent, -⟩ := h p
  have stopped := parked (.inl idle)
  have tone : s.tcr[fillLane p].present = false := silent (by rw [stopped]; nofun)
  obtain ⟨normal, -⟩ := Lane.tuned_state s.settings (normalLane_half p) s.tcr[normalLane p]
  obtain ⟨fill, present⟩ := Lane.tuned_state s.settings (fillLane_half p) s.tcr[fillLane p]
  rw [show s.tcr[normalLane p].state = .parked from together.trans stopped] at normal
  rw [show s.tcr[fillLane p].state = .parked from stopped] at fill
  have input : s.blocksEntered.pmn[p].input = .unknown := by simp [State.blocksEntered, PathRec.reset]
  have running : s.blocksEntered.running = true := by simp [State.running, State.blocksEntered, show s.pins.rstn = true from awake]
  have view : s.blocksEntered.pathView p = .entered (s.settings.paths[p].kind) := by
    simp only [State.pathView, State.pathViewIn, State.blocksEntered_lane, State.blocksEntered_verdict, State.blocksEntered_osc,
      normal, fill, present, input, tone, running]
    rfl
  rw [view]
  exact PathView.entered_sound _

theorem State.enterRunning_pathsSound (idle : s.running = false) (awake : s.awake = true) : s.enterRunning.pathsSound := by
  have sited (u : State) : u.enterSite.pathView = u.pathView := by
    obtain ⟨_, e⟩ := u.enterSite_changes
    rw [e]
    rfl
  rw [State.enterRunning_eq]
  refine State.pathsSound_of_view ?_ (State.blocksEntered_pathsSound h idle awake)
  have timed (u : State) : State.pathView { u with stateTimer := .seconds s.settings.statePeriod } = u.pathView := rfl
  have asked : (State.askState { s.blocksEntered.enterSite with stateTimer := .seconds s.settings.statePeriod }).pathView =
      s.blocksEntered.pathView := by
    rw [State.pathView_askState, timed, sited]
  rw [State.pathView_settleAlarms]
  split
  · exact asked
  · rw [State.pathView_enterDying, asked]

/-- R42, R64: outside RUNNING settings are taken, with thresholds for the lanes. -/
theorem State.settle_pathsSound (c : Settings) {cfl : Cfl} (idle : s.running = false) (still : cfl.phase ≠ .running) :
    State.pathsSound { s with cfl := cfl, tcr := .ofFn fun i => s.tcr[i].withThresholds c i } := by
  have lane (i : Fin 16) : (.ofFn fun i => s.tcr[i].withThresholds c i : Vector Lane 16)[i] = s.tcr[i].withThresholds c i := by simp
  have state (i : Fin 16) : (s.tcr[i].withThresholds c i).state = s.tcr[i].state := (Lane.withThresholds_sameWatch c i _).state
  have present (i : Fin 16) : (s.tcr[i].withThresholds c i).present = s.tcr[i].present := by
    unfold Lane.withThresholds
    split <;> rfl
  refine State.pathsSound_idle (s := s) idle (by simp [State.running, still]) (fun p => ?_) h
  simp only [State.pathView, State.pathViewIn, lane, state, present]

theorem State.loadEnd_pathsSound (outcome : StartOutcome) (reason : StartReason) (c : Settings) (loading : s.loading = true) :
    (s.loadEnd outcome reason c).pathsSound := by
  obtain ⟨awake, isLoading⟩ := Bool.and_eq_true_iff.mp loading
  have phase : s.cfl.phase = .loading := of_decide_eq_true isLoading
  have idle : s.running = false := by simp [State.running, phase]
  unfold State.loadEnd; dsimp only; split
  · exact State.enterRunning_pathsSound (State.settle_pathsSound h c idle (by simp [phase])) (by simp [State.running, phase]) awake
  · exact State.settle_pathsSound h c idle (by simp)

theorem State.loadTimerExpiry_pathsSound : s.loadTimerExpiry.pathsSound := by
  unfold State.loadTimerExpiry; split
  next due => exact State.loadEnd_pathsSound (by exact h) _ _ _ (by exact (Bool.and_eq_true_iff.mp due).1)
  next => exact h

theorem State.i2cNack_pathsSound : (if s.transacting then s.loadFailed else s).pathsSound := by
  split
  next transacting => exact State.loadEnd_pathsSound h _ _ _ (State.loading_of_transacting transacting)
  next => exact h

theorem State.imageReadDone_pathsSound (image : List Byte) : (s.imageReadDone image).pathsSound := by
  unfold State.imageReadDone; split
  next read => exact State.loadEnd_pathsSound h _ _ _ (State.loading_of_transacting (Bool.and_eq_true_iff.mp read).1)
  next => exact h

/-- R36: a release finds the part outside RUNNING and leaves it there; the straps it latches may change the kinds. -/
theorem State.rstnRelease_pathsSound (straps : BitVec 6) (sdaHold : Option Nat) : (s.rstnRelease straps sdaHold).pathsSound := by
  unfold State.rstnRelease; split
  next => exact h
  next asleep =>
    refine State.pathsSound_idle (s := s) (State.running_of_asleep (by simpa using asleep)) ?_ (fun p => rfl) h
    simp [State.running, State.startLoad]

end

/-! ### Every command and every step -/

theorem exec_pathsSound (c : Instr) {s : State} (lanes : s.lanesSound) (h : s.pathsSound) : ∃ u, exec c s = .next u ∧ u.pathsSound := by
  have later (t : Stamp) : (s.moment t).pathsSound := State.pathsSound_of_view (s.pathView_moment t) h
  have request (rq : RequestHead) (body : List Byte) (t : Stamp) {run : Fin 6 → State → State × Reply}
      (hrun : ∀ k u, u.lanesSound → u.pathsSound → (run k u).1.pathsSound) : ((s.moment t).takeRequest rq body run).pathsSound := by
    refine State.takeRequest_pathsSound rq body hrun ?_ (later t)
    rcases s.moment_cases t with ⟨-, e⟩ | ⟨-, -, e⟩
    · rwa [e]
    · rw [e]
      exact State.lanesSound_ticks _ (s.elapse_tcr _ _) lanes
  have unseen (rq : RequestHead) (body : List Byte) (t : Stamp) {run : Fin 6 → State → State × Reply}
      (hrun : ∀ k (u : State), (run k u).1.pathView = u.pathView) : ((s.moment t).takeRequest rq body run).pathsSound :=
    request rq body t fun k u _ => State.pathsSound_of_view (hrun k u)
  cases c with
  | powerOnReset straps => exact ⟨_, rfl, State.pathsSound_of_reset rfl rfl rfl rfl rfl⟩
  | rstnRelease straps sdaHold => exact ⟨_, rfl, State.rstnRelease_pathsSound h straps sdaHold⟩
  | millisecondTick =>
    refine ⟨_, rfl, ?_⟩
    unfold State.millisecondTick; split
    · exact State.pathsSound_of_view (s.pathView_elapse _ _) h
    · exact h
  | symbolReceived side sym t => exact ⟨_, rfl, State.pathsSound_of_view (State.pathView_symbolReceived _ side sym t) (later t)⟩
  | signalDetectChange side level t => exact ⟨_, rfl, State.signalDetectChange_pathsSound (later t) side level⟩
  | silenceExpiry side t => exact ⟨_, rfl, State.silenceExpiry_pathsSound (later t) side⟩
  | linkUp side t => exact ⟨_, rfl, State.pathsSound_of_view (State.pathView_linkUp _ side) (later t)⟩
  | agedMark side t => exact ⟨_, rfl, State.pathsSound_of_view (State.pathView_agedMark _ side) (later t)⟩
  | receivedFrame f => exact ⟨_, rfl, State.pathsSound_of_view (s.pathView_receivedFrame f) h⟩
  | transmitDone side t => exact ⟨_, rfl, State.transmitDone_pathsSound (later t) side⟩
  | i2cNack stage => exact ⟨_, rfl, State.i2cNack_pathsSound h⟩
  | loadTimerExpiry => exact ⟨_, rfl, State.loadTimerExpiry_pathsSound h⟩
  | imageReadDone image => exact ⟨_, rfl, State.imageReadDone_pathsSound h image⟩
  | blockStart => exact ⟨_, rfl, State.blockStart_pathsSound h⟩
  | tapSample channel code t => exact ⟨_, rfl, State.tapSample_pathsSound (later t) channel code t⟩
  | blockEnd pmnFirst t => exact ⟨_, rfl, State.blockEnd_pathsSound (later t) pmnFirst t⟩
  | sharedSlot code t => exact ⟨_, rfl, State.sharedSlot_pathsSound (later t) code t⟩
  | pilotStep => exact ⟨_, rfl, State.pathsSound_of_view s.pathView_pilotStep h⟩
  | neighbourFrame d t => exact ⟨_, rfl, State.neighbourFrame_pathsSound d (later t)⟩
  | staleExpiry side => exact ⟨_, rfl, State.pathsSound_of_view (s.pathView_staleExpiry side) h⟩
  | windowExpiry path => exact ⟨_, rfl, Rejudged.windowExpiry.pathsSound h⟩
  | holdOffExpiry path => exact ⟨_, rfl, Rejudged.holdOffExpiry.pathsSound h⟩
  | watchExpiry lane => exact ⟨_, rfl, State.pathsSound_of_view (State.pathView_watchExpiry lane lanes) h⟩
  | testExpiry => exact ⟨_, rfl, State.pathsSound_of_view s.pathView_testExpiry h⟩
  | statePeriodExpiry => exact ⟨_, rfl, State.pathsSound_of_view s.pathView_statePeriodExpiry h⟩
  | hutLineChange line level t => exact ⟨_, rfl, State.pathsSound_of_view (State.pathView_hutLineChange _ line level t) (later t)⟩
  | edgeTimerExpiry line => exact ⟨_, rfl, State.pathsSound_of_view (s.pathView_edgeTimerExpiry line) h⟩
  | stallTimerExpiry line => exact ⟨_, rfl, State.pathsSound_of_view (s.pathView_stallTimerExpiry line) h⟩
  | unknownRequest rq body t =>
    refine ⟨_, rfl, ?_⟩
    split
    · exact later t
    · exact unseen rq body t fun _ _ => rfl
  | queryPath rq args t => exact ⟨_, rfl, unseen rq _ t fun _ _ => rfl⟩
  | querySite rq args t => exact ⟨_, rfl, unseen rq _ t fun _ _ => rfl⟩
  | queryLane rq args t => exact ⟨_, rfl, unseen rq _ t fun _ _ => rfl⟩
  | queryNeighbour rq args t => exact ⟨_, rfl, unseen rq _ t fun _ _ => rfl⟩
  | probe rq args t => exact ⟨_, rfl, unseen rq _ t fun k u => u.pathView_runProbe args k⟩
  | toneWatch rq args t => exact ⟨_, rfl, unseen rq _ t fun k u => u.pathView_runToneWatch args k _⟩
  | toneDrop rq args t =>
    exact ⟨_, rfl, request rq _ t fun k u sound => State.pathsSound_of_view (u.pathView_runToneDrop args k _ sound)⟩
  | genClaim rq args t => exact ⟨_, rfl, unseen rq _ t fun k u => u.pathView_runGenClaim args k _⟩
  | genRelease rq args t => exact ⟨_, rfl, unseen rq _ t fun k u => u.pathView_runGenRelease args k _⟩
  | linesSet rq args t => exact ⟨_, rfl, unseen rq _ t fun k u => u.pathView_runLines args k true⟩
  | linesClear rq args t => exact ⟨_, rfl, unseen rq _ t fun k u => u.pathView_runLines args k false⟩
  | linesAck rq args t => exact ⟨_, rfl, unseen rq _ t fun k u => u.pathView_runLinesAck args k⟩
  | recheck rq args t => exact ⟨_, rfl, request rq _ t fun k u _ => u.runRecheck_pathsSound args k⟩
  | restartRequest rq args t => exact ⟨_, rfl, unseen rq _ t fun k u => u.pathView_runRestart args k _⟩
  | grantAtSymbolBoundary side t => exact ⟨_, rfl, State.grant_pathsSound (later t) side⟩

/-- Settles O59: of the commands that touch the view of a path, verdicts are judged anew where a verdict stands, entry to LOSS and its end move
input state, loss input and verdict together, a block end brings the fill input up to the fill lane, and a load or a reset starts them all. -/
theorem everyStepKeepsVerdictsAndPilots : Obligations.EveryStepKeepsVerdictsAndPilots := by
  intro s u lanes verdicts pilots h
  rw [← State.pathsSound_iff]
  have sound : s.pathsSound := s.pathsSound_iff.mpr ⟨verdicts, pilots⟩
  unfold step at h; split at h
  next =>
    obtain rfl := Host.Outcome.next.inj h
    unfold State.idle; split
    · exact State.pathsSound_of_view (s.pathView_elapse _ _) sound
    · exact sound
  next c rest _ =>
    obtain ⟨v, taken, kept⟩ := exec_pathsSound c (s := { s with pending := rest }) lanes sound
    obtain rfl := Host.Outcome.next.inj (taken.symm.trans h)
    exact kept

end Sys2Proof.Machine
end

section
/-! SUPPORT. A verdict record that VDE judges anew in RUNNING, with its notice and the alarms settled after it: the window and the hold-off
that run out, and RECHECK. It settles O40 and O53. -/

namespace Sys2Proof.Machine
open Sys2Proof

/-! ### One record judged anew (R140, R154) -/

/-- R140: the record of path p replaced in RUNNING; a change of verdict puts PATHp in SNQ. -/
def State.judged (s : State) (p : Fin 4) (r : VerdictRec) : State :=
  { (if r.verdict = s.vde[p].verdict then s else s.withNotice (.path p)) with vde := s.vde.set p.val r p.isLt }

section
variable {s : State} {p : Fin 4} {r : VerdictRec}

theorem State.judged_self : s.judged p s.vde[p] = s := by
  rw [State.judged, if_pos rfl, Fin.getElem_fin, Vector.set_getElem_self]

theorem State.setVerdict_judged (running : s.running = true) : s.setVerdict p r = s.judged p r := by
  by_cases same : r.verdict = s.vde[p].verdict
  · rw [State.judged, if_pos same]
    exact if_pos same
  · rw [State.setVerdict_eq running p same, State.judged, if_neg same]
    rfl

/-- R126: a light evaluation in RUNNING. -/
theorem State.lightEvaluation_judged (running : s.running = true) :
    s.lightEvaluation p =
      s.judged p (s.vde[p].lightJudged s.tcr[normalLane p].present s.tcr[fillLane p].present s.settings.foreignConfirm) := by
  unfold State.lightEvaluation VerdictRec.lightJudged
  dsimp only
  cases lightVerdict s.tcr[normalLane p].present s.tcr[fillLane p].present s.vde[p].toneAbsent s.settings.foreignConfirm with
  | some verdict => exact State.setVerdict_judged running
  | none => exact State.judged_self.symm

/-- A record replaced twice, the verdict unchanged the first time. -/
theorem State.judged_set {held : VerdictRec} (same : held.verdict = s.vde[p].verdict) :
    State.judged { s with vde := s.vde.set p.val held p.isLt } p r = s.judged p r := by
  have verdict : (s.vde.set p.val held p.isLt)[p].verdict = s.vde[p].verdict := by simpa using same
  unfold State.judged
  rw [verdict, Vector.set_set]
  split <;> rfl

theorem State.judged_settled_vde (q : Fin 4) : (s.judged p r).settleAlarms.vde[q] = if p = q then r else s.vde[q] := by
  rw [State.settleAlarms_eq]
  exact upd_get s.vde p q fun _ => r

/-- R140, R154: what one record judged anew and the alarms settled after it leave: the other records, and all but verdicts, SNQ and the
alarms. -/
theorem State.judged_settled_frame :
    (s.judged p r).settleAlarms.snq = (if r.verdict = s.vde[p].verdict then s.snq else (s.withNotice (.path p)).snq) ∧
      sameButAlarms (s.judged p r).settleAlarms.stu s.stu ∧
      { (s.judged p r).settleAlarms with vde := s.vde, snq := s.snq, stu := s.stu } = s := by
  have stu : (s.judged p r).stu = s.stu := by
    unfold State.judged
    split <;> rfl
  refine ⟨?_, stu ▸ State.settleAlarms_sameButAlarms (s.judged p r), ?_⟩
  · rw [State.settleAlarms_eq]
    exact apply_ite State.snq _ _ _
  · rw [State.settleAlarms_eq, State.judged]
    split <;> rfl

end

/-! ### The window and the hold-off run out (R132, R136) -/

/-- R126, R136: a light evaluation that decides a path in RESTORING gives another verdict. -/
theorem VerdictRec.lightJudged_restoring {v : VerdictRec} {normal fill : Bool} {confirm : Nat} (restoring : v.verdict = .restoring) :
    v.lightJudged normal fill confirm =
      if (v.lightJudged normal fill confirm).verdict = .restoring then v
      else { v with
        verdict := (v.lightJudged normal fill confirm).verdict, evidence := .none, late := false, cause := none, holdOff := .stopped } := by
  unfold VerdictRec.lightJudged
  cases light : lightVerdict normal fill v.toneAbsent confirm with
  | some verdict =>
    have decided : verdict ≠ .restoring := by
      rintro rfl
      exact absurd (lightVerdict_isLight light) (by decide)
    exact (if_neg decided).symm
  | none => exact (if_pos restoring).symm

/-- R132: the record of a path in WATCH after its window ran out. -/
def VerdictRec.timedOut (r : VerdictRec) : VerdictRec :=
  { r with verdict := .unresolved, evidence := .timeout, late := false, window := .stopped }

/-- R136: a record with its hold-off stopped. -/
def VerdictRec.heldOff (r : VerdictRec) : VerdictRec := { r with holdOff := .stopped }

/-- R136: the record of path p after its hold-off ran out. -/
def State.holdOffJudged (s : State) (p : Fin 4) : VerdictRec :=
  s.vde[p].heldOff.lightJudged s.tcr[normalLane p].present s.tcr[fillLane p].present s.settings.foreignConfirm

section
variable {s : State} {p : Fin 4} (running : s.running = true)
include running

theorem State.windowExpiry_due (watch : s.vde[p].verdict = .watch) (due : s.vde[p].window = .due) :
    s.windowExpiry p = (s.judged p s.vde[p].timedOut).settleAlarms := by
  have expires : s.windowExpiry p = (s.setVerdict p s.vde[p].timedOut).settleAlarms :=
    if_pos (by simp [running, watch, due, -Fin.getElem_fin])
  rw [expires, State.setVerdict_judged running]

theorem State.holdOffExpiry_due (restoring : s.vde[p].verdict = .restoring) (due : s.vde[p].holdOff = .due) :
    s.holdOffExpiry p = (s.judged p (s.holdOffJudged p)).settleAlarms := by
  have expires : s.holdOffExpiry p =
      (State.lightEvaluation p { s with vde := s.vde.set p.val s.vde[p].heldOff p.isLt }).settleAlarms :=
    if_pos (by simp [running, restoring, due, -Fin.getElem_fin])
  have held : (s.vde.set p.val s.vde[p].heldOff p.isLt)[p] = s.vde[p].heldOff := by simp
  rw [expires, State.lightEvaluation_judged (by exact running), held, State.judged_set (s := s) (held := s.vde[p].heldOff) rfl]
  rfl

end

/-- Settles O40: the guard of each expiry is what the statement supposes, and each judges one record anew. -/
theorem verdictTimersRunOut : Obligations.VerdictTimersRunOut := by
  refine ⟨fun p s running watch due => ?_, fun p s running restoring due => ?_⟩
  · obtain ⟨snq, alarms, frame⟩ := State.judged_settled_frame (s := s) (p := p) (r := s.vde[p].timedOut)
    have judged := State.judged_settled_vde (s := s) (p := p) (r := s.vde[p].timedOut)
    rw [if_neg (by rw [watch]; nofun)] at snq
    have own := (judged p).trans (if_pos rfl)
    exact ⟨_, congrArg Host.Outcome.next (State.windowExpiry_due running watch due), own,
      fun q other => (judged q).trans (if_neg other.symm), snq, by rw [own]; rfl, by rw [own]; rfl, alarms, frame⟩
  · obtain ⟨snq, alarms, frame⟩ := State.judged_settled_frame (s := s) (p := p) (r := s.holdOffJudged p)
    have judged := State.judged_settled_vde (s := s) (p := p) (r := s.holdOffJudged p)
    obtain ⟨-, verdict, -⟩ := VerdictRec.lightJudged_fields (v := s.vde[p].heldOff) (normal := s.tcr[normalLane p].present)
      (fill := s.tcr[fillLane p].present) (confirm := s.settings.foreignConfirm)
    have still : s.vde[p].heldOff.verdict = .restoring := restoring
    rw [still] at verdict
    rw [restoring] at snq
    exact ⟨_, (s.holdOffJudged p).verdict, congrArg Host.Outcome.next (State.holdOffExpiry_due running restoring due), verdict,
      (judged p).trans ((if_pos rfl).trans (VerdictRec.lightJudged_restoring still)),
      fun q other => (judged q).trans (if_neg other.symm), snq, alarms, frame⟩

/-! ### RECHECK (R139) -/

/-- R139: the record of path p after a RECHECK. -/
def State.rechecked (s : State) (p : Fin 4) : VerdictRec :=
  if s.vde[p].verdict.isResolvedLoss && s.pmn[p].input = .loss then s.vde[p].watching s.settings.window s.clk.hut
  else if s.vde[p].verdict.isLight then
    s.vde[p].lightJudged s.tcr[normalLane p].present s.tcr[fillLane p].present s.settings.foreignConfirm
  else s.vde[p]

section
variable {s : State} {p : Fin 4}

theorem State.recheckPath_judged (running : s.running = true) : s.recheckPath p = s.judged p (s.rechecked p) := by
  unfold State.recheckPath State.rechecked
  dsimp only
  split
  · exact State.setVerdict_judged running
  · split
    · exact State.lightEvaluation_judged running
    · exact State.judged_self.symm

theorem State.rechecked_resolved (resolved : s.vde[p].verdict.isResolvedLoss = true) (lost : s.pmn[p].input = .loss) :
    s.rechecked p = s.vde[p].watching s.settings.window s.clk.hut :=
  if_pos (by simp [resolved, lost, -Fin.getElem_fin])

theorem State.rechecked_light (light : s.vde[p].verdict.isLight = true) :
    s.rechecked p = s.vde[p].lightJudged s.tcr[normalLane p].present s.tcr[fillLane p].present s.settings.foreignConfirm := by
  have unresolved : s.vde[p].verdict.isResolvedLoss = false := by
    generalize s.vde[p].verdict = verdict at light
    cases verdict with
    | pending | clear | sympathetic | foreignLight => rfl
    | _ => cases light
  rw [State.rechecked, if_neg (by rw [unresolved]; nofun), if_pos light]

theorem State.rechecked_standing (standing : s.vde[p].verdict = .watch ∨ s.vde[p].verdict = .restoring) :
    s.rechecked p = s.vde[p] := by
  unfold State.rechecked
  rcases standing with watch | restoring
  · rw [watch]; rfl
  · rw [restoring]; rfl

/-- The alarms settled while a request is in its slot. -/
theorem State.settleAlarms_requestIn (s : State) (k : Fin 6) (rq : RequestHead) (body : List Byte) :
    (s.requestIn k rq body).settleAlarms = s.settleAlarms.requestIn k rq body := by
  unfold State.settleAlarms
  by_cases running : s.running = true
  · rw [if_pos running, if_pos (by exact running)]
    rfl
  · rw [if_neg running, if_neg (by exact running)]

theorem State.judged_requestIn (r : VerdictRec) (k : Fin 6) (rq : RequestHead) (body : List Byte) :
    (s.requestIn k rq body).judged p r = (s.judged p r).requestIn k rq body := by
  by_cases same : r.verdict = s.vde[p].verdict
  · rw [State.judged, State.judged, if_pos same, if_pos (by exact same)]
    rfl
  · rw [State.judged, State.judged, if_neg same, if_neg (by exact same)]
    rfl

variable {k : Fin 6} {rq : RequestHead} {body : List Byte}

theorem runRecheck_notApplicable (other : s.vde[p].verdict = .notApplicable) :
    runRecheck [BitVec.ofNat 8 p.val] k s = (s, .done .notApplicable []) := by
  rw [runRecheck, byteArg_ofNat (by decide) p]
  exact if_pos other

theorem runRecheck_judged (running : s.running = true) (judges : s.vde[p].verdict ≠ .notApplicable) :
    runRecheck [BitVec.ofNat 8 p.val] k (s.requestIn k rq body) =
      ((s.judged p (s.rechecked p)).settleAlarms.requestIn k rq body, .done .ok [byte p.val, byte (s.rechecked p).verdict.code]) := by
  have taken : State.settleAlarms ((s.requestIn k rq body).recheckPath p) =
      (s.judged p (s.rechecked p)).settleAlarms.requestIn k rq body := by
    rw [State.recheckPath_judged (by exact running), ← State.settleAlarms_requestIn, ← State.judged_requestIn]
    rfl
  have record := (State.judged_settled_vde (s := s) (p := p) (r := s.rechecked p) p).trans (if_pos rfl)
  rw [runRecheck, byteArg_ofNat (by decide) p]
  refine (if_neg (by exact judges)).trans ?_
  rw [taken]
  exact congrArg (fun r : VerdictRec => (_, Reply.done .ok [byte p.val, byte r.verdict.code])) record

/-- The answer to a request that judged one record, the alarms set aside. -/
theorem State.judged_answered (r : VerdictRec) (k : Fin 6) (rq : RequestHead) (body answer : List Byte) :
    { (s.judged p r).settleAlarms.answered k rq body answer with stu := s.stu } = (s.judged p r).answered k rq body answer := by
  rw [State.settleAlarms_eq, State.judged]
  split <;> rfl

end

/-- Settles O53: a RECHECK judges one record anew, and its answer carries that record's verdict. -/
theorem recheckAnswersVerdictAfter : Obligations.RecheckAnswersVerdictAfter := by
  intro rq p t k s₀ s now able
  have request : requestOf (.recheck rq [BitVec.ofNat 8 p.val] t) = some (rq, [27, BitVec.ofNat 8 p.val], t) := rfl
  refine ⟨fun other => ?_, fun judges => ?_⟩
  · exact exec_answered (u := s) request now able (runRecheck_notApplicable (k := k) (by exact other)) rfl
  · have ports : (s.judged p (s.rechecked p)).settleAlarms.isUp = s.isUp := by
      rw [State.settleAlarms_eq, State.judged]
      split <;> rfl
    obtain ⟨-, alarms, -⟩ := State.judged_settled_frame (s := s) (p := p) (r := s.rechecked p)
    exact ⟨_, s.rechecked p, exec_answered request now able (runRecheck_judged able.1 judges) ports, State.rechecked_resolved,
      fun light => (State.rechecked_light light).trans rfl, State.rechecked_standing, alarms, State.judged_answered ..⟩

end Sys2Proof.Machine
end

section
/-! SUPPORT. What the rules on the site compare: the stall conditions line by line, what is settled before the owned alarms are, and the view of
the site with the operations that leave it. -/

namespace Sys2Proof.Machine
open Sys2Proof

/-! ### Lines whose stall conditions stand (R148, R149) -/

/-- R149: two records of a line that the stall conditions tell nothing apart of. -/
structure LineRec.SameCondition (r r' : LineRec) : Prop where
  fn     : r'.fn = r.fn
  paired : r'.paired = r.paired
  period : r'.period = r.period
  driven : r.fn = .fan → r'.level = r.level

/-- R148, R149: nor what follows from them: whether the stall timer runs, and FAN_STALL. -/
structure LineRec.SameStall (r r' : LineRec) : Prop extends r.SameCondition r' where
  stallTimer : r'.stallTimer = .stopped ↔ r.stallTimer = .stopped
  fanStall   : r'.fanStall = r.fanStall

theorem LineRec.SameCondition.refl (r : LineRec) : r.SameCondition r := ⟨rfl, rfl, rfl, fun _ => rfl⟩

theorem LineRec.SameStall.refl (r : LineRec) : r.SameStall r := ⟨.refl r, .rfl, rfl⟩

/-- R143: a line that is no FAN takes a level, and its flag may be set. -/
theorem LineRec.SameStall.setLevel {r : LineRec} {level flag : Bool} (stands : r.fn = .fan → level = r.level) :
    r.SameStall { r with level := level, flag := flag } := ⟨⟨rfl, rfl, rfl, stands⟩, .rfl, rfl⟩

/-- R1: ticks bring no timer to a stop and start none. -/
theorem LineRec.SameStall.ticks (r : LineRec) (n : Nat) : r.SameStall (r.ticks n) := by
  refine ⟨⟨rfl, rfl, rfl, fun _ => rfl⟩, ?_, rfl⟩
  unfold LineRec.ticks Countdown.ticks
  cases r.stallTimer with
  | stopped => exact .rfl
  | due => exact .rfl
  | running ms =>
    dsimp only
    split
    · exact .rfl
    · split <;> simp

/-- R148: while HOT is set every FAN line is driven HIGH. -/
def Stu.fansDriven (u : Stu) : Prop := u.hot = true → ∀ n : Fin 12, u.lines[n].fn = .fan → u.lines[n].level = true

/-- R148, R149: the part of `State.siteSound` that STU's lines and HOT decide alone. -/
def Stu.settled (u : Stu) : Prop :=
  u.fansDriven ∧ ∀ n : Fin 12,
    (u.stalled n = true → u.lines[n].stallTimer ≠ .stopped ∨ u.lines[n].fanStall = true) ∧
    (u.stalled n = false → u.lines[n].stallTimer = .stopped ∧ u.lines[n].fanStall = false)

theorem Stu.stalled_iff (u : Stu) (n : Fin 12) :
    u.stalled n = true ↔
      u.lines[n].fn = .fan ∧ ∃ m, u.lines[n].paired = some m ∧ u.lines[n].level = true ∧ u.lines[m].period = 0 := by
  unfold Stu.stalled
  split
  next m fan pair =>
    rw [Bool.and_eq_true, decide_eq_true_eq]
    refine ⟨fun both => ⟨fan, m, pair, both⟩, fun ⟨_, m', pair', both⟩ => ?_⟩
    obtain rfl := Option.some.inj (pair.symm.trans pair')
    exact both
  next other =>
    refine ⟨nofun, fun ⟨fan, m, pair, _⟩ => absurd pair (other m fan)⟩

theorem Stu.stalled_congr {u v : Stu} (lines : ∀ n : Fin 12, u.lines[n].SameCondition v.lines[n]) (n : Fin 12) :
    v.stalled n = u.stalled n := by
  rw [Bool.eq_iff_iff, Stu.stalled_iff, Stu.stalled_iff, (lines n).fn, (lines n).paired]
  refine and_congr_right fun fan => exists_congr fun m => and_congr_right fun _ => ?_
  rw [(lines n).driven fan, (lines m).period]

theorem Stu.settled_congr {u v : Stu} (hot : v.hot = u.hot) (lines : ∀ n : Fin 12, u.lines[n].SameStall v.lines[n]) (h : u.settled) :
    v.settled := by
  obtain ⟨fans, stalls⟩ := h
  refine ⟨fun isHot n fan => ?_, fun n => ?_⟩
  · rw [(lines n).fn] at fan
    rw [(lines n).driven fan]
    exact fans (hot ▸ isHot) n fan
  · rw [Stu.stalled_congr fun m => (lines m).toSameCondition, (lines n).fanStall, ne_eq, (lines n).stallTimer]
    exact stalls n

/-- R149: settling a line leaves all of it that its stall condition reads. -/
theorem Stu.stalled_settleStall (u : Stu) (n : Fin 12) : u.settleStall.stalled n = u.stalled n := by
  refine Stu.stalled_congr (fun m => ?_) n
  rw [u.settleStall_line]
  obtain ⟨_, _, settled⟩ := LineRec.stallSettled_changes u.lines[m] (u.stalled m)
  rw [settled]
  exact ⟨rfl, rfl, rfl, fun _ => rfl⟩

/-- R149: a line brought to its stall condition. -/
theorem LineRec.stallSettled_sound (r : LineRec) :
    ((r.stallSettled true).stallTimer ≠ .stopped ∨ (r.stallSettled true).fanStall = true) ∧
      (r.stallSettled false).stallTimer = .stopped ∧ (r.stallSettled false).fanStall = false := by
  refine ⟨?_, rfl, rfl⟩
  rw [LineRec.stallSettled, if_pos rfl]
  split
  next => exact .inl nofun
  next runs =>
    rw [Bool.and_eq_true, not_and_or, decide_eq_true_eq, Bool.not_eq_true', Bool.not_eq_false] at runs
    exact runs

/-- R149: with the fans as HOT drives them, settling the stall conditions settles STU. -/
theorem Stu.settleStall_settled {u : Stu} (fans : u.fansDriven) : u.settleStall.settled := by
  refine ⟨fun hot n => ?_, fun n => ?_⟩
  · rw [u.settleStall_line]
    obtain ⟨_, _, settled⟩ := LineRec.stallSettled_changes u.lines[n] (u.stalled n)
    rw [settled]
    exact fans hot n
  · obtain ⟨holds, ends⟩ := LineRec.stallSettled_sound u.lines[n]
    rw [u.stalled_settleStall, u.settleStall_line]
    exact ⟨fun stalled => stalled ▸ holds, fun moves => moves ▸ ends⟩

/-! ### What the settling of the alarms finds and leaves (R154) -/

/-- R27: whether a STATE waits in a send queue. -/
def stateWaits (q : List Entry) : Bool := q.any (·.item = .state)

/-- R27: whether a STATE waits in the send queue while the power state is DYING. -/
def State.stateHeld (s : State) : Bool := s.stu.dying && stateWaits s.snq

/-- R27, R148, R149: what of `State.siteSound` holds before the owned alarms are settled. -/
def State.siteSettled (s : State) : Prop := s.stu.settled ∧ s.stateHeld = false

/-- R154: the contributions, the total and the ALARM lines are true to what the alarms' owners hold. -/
def State.alarmsTrue (s : State) : Prop :=
  s.stu.vdeAlarms = s.vdeCount ∧ s.stu.pmnAlarms = s.pmnCount ∧ s.stu.climate = s.stu.climateCount ∧
    s.stu.total = s.vdeCount + s.pmnCount + s.stu.climateCount + s.stu.dying.toNat ∧
    ∀ n : Fin 12, s.stu.lines[n].fn = .alarm → s.stu.lines[n].level = decide (0 < s.stu.total)

theorem State.stateHeld_eq_false_iff (s : State) : s.stateHeld = false ↔ (s.stu.dying = true → ∀ e ∈ s.snq, e.item ≠ .state) := by
  rw [State.stateHeld, Bool.and_eq_false_imp, stateWaits, List.any_eq_false]
  simp

theorem State.siteSound_iff (s : State) : s.siteSound ↔ s.siteSettled ∧ (s.running = true → s.alarmsTrue) := by
  rw [State.siteSettled, State.stateHeld_eq_false_iff]
  exact ⟨fun ⟨fans, stalls, held, alarms⟩ => ⟨⟨⟨fans, stalls⟩, held⟩, alarms⟩,
    fun ⟨⟨⟨fans, stalls⟩, held⟩, alarms⟩ => ⟨fans, stalls, held, alarms⟩⟩

theorem State.siteSound.settled {s : State} (h : s.siteSound) : s.siteSettled := (s.siteSound_iff.mp h).1

/-- R154: outside RUNNING no alarm is compared. -/
theorem State.siteSettled.idle {s : State} (h : s.siteSettled) (idle : s.running = false) : s.siteSound :=
  s.siteSound_iff.mpr ⟨h, fun running => absurd (running.symm.trans idle) Bool.true_eq_false.mp⟩

theorem Stu.climateCount_congr {u v : Stu} (hot : v.hot = u.hot) (filter : v.filter = u.filter)
    (stalls : ∀ n : Fin 12, v.lines[n].fanStall = u.lines[n].fanStall) : v.climateCount = u.climateCount := by
  rw [Stu.climateCount, Stu.climateCount, hot, filter, funext stalls]

/-- R154: settling the alarms makes them true. -/
theorem State.settleAlarms_alarmsTrue {s : State} (running : s.running = true) : s.settleAlarms.alarmsTrue := by
  obtain ⟨hot, filter, dying, lines⟩ := s.settleAlarms_sameButAlarms
  have stalls (n : Fin 12) : s.settleAlarms.stu.lines[n].fanStall = s.stu.lines[n].fanStall := by
    rw [lines]
    split <;> rfl
  have climate : s.settleAlarms.stu.climateCount = s.stu.climateCount := Stu.climateCount_congr hot filter stalls
  have vde : s.settleAlarms.vdeCount = s.vdeCount := by
    rw [State.settleAlarms_eq]
    rfl
  have pmn : s.settleAlarms.pmnCount = s.pmnCount := by
    rw [State.settleAlarms_eq]
    rfl
  refine ⟨?_, ?_, ?_, ?_, fun n alarm => State.settleAlarms_alarm running ?_⟩
  · rw [vde, State.settleAlarms, if_pos running]
  · rw [pmn, State.settleAlarms, if_pos running]
  · rw [climate, State.settleAlarms_climate running]
  · rw [vde, pmn, climate, dying, State.settleAlarms_total running]
  · rw [lines] at alarm
    split at alarm
    next alarm => exact alarm
    next => exact alarm

theorem State.settleAlarms_running (s : State) : s.settleAlarms.running = s.running := by
  rw [State.settleAlarms_eq]
  rfl

/-- R154: settling the alarms completes what was settled before them. -/
theorem State.siteSettled.settleAlarms {s : State} (h : s.siteSettled) : s.settleAlarms.siteSound := by
  obtain ⟨settled, held⟩ := h
  refine (State.siteSound_iff _).mpr ⟨⟨Stu.settled_congr s.settleAlarms_sameButAlarms.1 (fun n => ?_) settled, ?_⟩, fun running => ?_⟩
  · obtain ⟨level, line, stands⟩ := s.settleAlarms_line n
    rw [line]
    exact .setLevel fun fan => stands (by rw [fan]; nofun)
  · rw [State.stateHeld, State.settleAlarms_dying, State.settleAlarms_eq]
    exact held
  · exact State.settleAlarms_alarmsTrue (s.settleAlarms_running ▸ running)

end Sys2Proof.Machine
end

section
/-! SUPPORT. The view of the site, and the operations that leave it or settle it anew: one lemma per operation, in the order of the model's files. -/

namespace Sys2Proof.Machine
open Sys2Proof

/-! ### The view of the site -/

/-- What the rules on the site compare: STU, whether a STATE waits while the power state is DYING, the phase, and the owned alarms that VDE
and PMN hold. -/
structure SiteView where
  stu       : Stu
  stateHeld : Bool
  running   : Bool
  vde       : Nat
  pmn       : Nat

def State.siteView (s : State) : SiteView :=
  { stu := s.stu, stateHeld := s.stateHeld, running := s.running, vde := s.vdeCount, pmn := s.pmnCount }

section
variable {s u : State}

theorem State.siteSettled_of_view (same : u.siteView = s.siteView) (h : s.siteSettled) : u.siteSettled := by
  obtain ⟨stu, held, -⟩ := SiteView.mk.inj same
  rwa [State.siteSettled, stu, held]

theorem State.siteSound_of_view (same : u.siteView = s.siteView) (h : s.siteSound) : u.siteSound := by
  obtain ⟨stu, held, running, vde, pmn⟩ := SiteView.mk.inj same
  rw [State.siteSound_iff, State.siteSettled, State.alarmsTrue] at h ⊢
  rwa [stu, held, running, vde, pmn]

/-- R27: entries that leave the send queue, or lose marks, bring no STATE into it. -/
theorem State.siteSound_setSnq {q : List Entry} (items : ∀ e ∈ q, ∃ e' ∈ s.snq, e'.item = e.item) (h : s.siteSound) :
    State.siteSound { s with snq := q } := by
  obtain ⟨⟨settled, held⟩, alarms⟩ := s.siteSound_iff.mp h
  rw [State.stateHeld_eq_false_iff] at held
  refine (State.siteSound_iff _).mpr ⟨⟨settled, (State.stateHeld_eq_false_iff _).mpr fun dying e mem => ?_⟩, alarms⟩
  obtain ⟨e', mem', same⟩ := items e mem
  exact same ▸ held dying e' mem'

/-- R1, R143, R145: time passes, an input takes a level, or a LINES_ACK clears flags: the lines stand but for what neither the stalls nor
the alarms read. -/
theorem State.siteSound_of_lines {lines : Vector LineRec 12} (stu : u.stu = { s.stu with lines := lines })
    (same : ∀ n : Fin 12, s.stu.lines[n].SameStall lines[n] ∧ (s.stu.lines[n].fn = .alarm → lines[n].level = s.stu.lines[n].level))
    (snq : u.snq = s.snq) (running : u.running = s.running) (vde : u.vdeCount = s.vdeCount) (pmn : u.pmnCount = s.pmnCount)
    (h : s.siteSound) : u.siteSound := by
  obtain ⟨⟨settled, held⟩, alarms⟩ := s.siteSound_iff.mp h
  have climate : ({ s.stu with lines := lines } : Stu).climateCount = s.stu.climateCount :=
    Stu.climateCount_congr rfl rfl fun n => (same n).1.fanStall
  rw [State.siteSound_iff, State.siteSettled, State.stateHeld, State.alarmsTrue, stu, snq, running, vde, pmn, climate]
  refine ⟨⟨Stu.settled_congr (u := s.stu) rfl (fun n => (same n).1) settled, held⟩, fun runs => ?_⟩
  obtain ⟨vde, pmn, climate, total, driven⟩ := alarms runs
  refine ⟨vde, pmn, climate, total, fun n alarm => ?_⟩
  rw [(same n).1.fn] at alarm
  exact ((same n).2 alarm).trans (driven n alarm)

end

/-! ### The shared operations -/

theorem stateWaits_eq_items (q : List Entry) : stateWaits q = (q.map (·.item)).any (· = .state) := by
  rw [List.any_map]
  rfl

/-- R24: a request for a NOTICE brings no STATE into the queue, and takes none out. -/
theorem snqAsk_stateWaits (subject : Subject) (prompt w x : Bool) (q : List Entry) :
    stateWaits (snqAsk (.notice subject) prompt w x q) = stateWaits q := by
  rw [stateWaits_eq_items, stateWaits_eq_items]
  rcases snqAsk_items (.notice subject) prompt w x q with same | ⟨-, joined⟩
  · rw [same]
  · rw [joined, List.any_append]
    simp

theorem askPaths_stateWaits (up : Side → Bool) (paths : List (Fin 4)) (q : List Entry) : stateWaits (askPaths up paths q) = stateWaits q :=
  foldl_keeps (fun q' => stateWaits q' = stateWaits q) _ (fun _ _ => (snqAsk_stateWaits ..).trans) paths q rfl

section
variable (s : State)

theorem State.siteView_setSnq {q : List Entry} (same : s.stu.dying = true → stateWaits q = stateWaits s.snq) :
    State.siteView { s with snq := q } = s.siteView := by
  have held : State.stateHeld { s with snq := q } = s.stateHeld := by
    rw [State.stateHeld, State.stateHeld]
    cases dying : s.stu.dying with
    | false => rfl
    | true => exact congrArg (true && ·) (same dying)
  rw [State.siteView, held]
  rfl

@[simp] theorem State.siteView_askNotice (x : Subject) (prompt : Bool) : (s.askNotice x prompt).siteView = s.siteView := by
  unfold State.askNotice; split
  · exact s.siteView_setSnq fun _ => snqAsk_stateWaits ..
  · rfl

/-- R27, R157: no STATE joins while the power state is DYING. -/
@[simp] theorem State.siteView_askState : s.askState.siteView = s.siteView := by
  unfold State.askState; split
  next normal =>
    refine s.siteView_setSnq fun dying => ?_
    rw [dying] at normal
    simp at normal
  next => rfl

@[simp] theorem State.siteView_setPort (side : Side) (p : Port) : (s.setPort side p).siteView = s.siteView := by cases side <;> rfl

@[simp] theorem State.siteView_setNb (side : Side) (r : NbRec) : (s.setNb side r).siteView = s.siteView := by cases side <;> rfl

@[simp] theorem State.siteView_setSignal (side : Side) (level : Bool) : (s.setSignal side level).siteView = s.siteView := by
  cases side <;> rfl

/-- R108: path records that keep their owned alarms. -/
theorem State.pmnCount_congr {s u : State} (kind : ∀ p, u.kind p = s.kind p)
    (same : ∀ p : Fin 4, u.pmn[p].input = s.pmn[p].input ∧ u.pmn[p].outputLow = s.pmn[p].outputLow ∧ u.pmn[p].biasHigh = s.pmn[p].biasHigh) :
    u.pmnCount = s.pmnCount := by
  have path (p : Fin 4) : u.pmnPathCount p = s.pmnPathCount p := by
    obtain ⟨input, low, bias⟩ := same p
    simp only [State.pmnPathCount, State.monitored, kind, input, low, bias]
  simp only [State.pmnCount, path]

theorem State.siteView_setPmn {pmn : Vector PathRec 4}
    (same : ∀ p : Fin 4, pmn[p].input = s.pmn[p].input ∧ pmn[p].outputLow = s.pmn[p].outputLow ∧ pmn[p].biasHigh = s.pmn[p].biasHigh) :
    State.siteView { s with pmn := pmn } = s.siteView := by
  have count : State.pmnCount { s with pmn := pmn } = s.pmnCount := State.pmnCount_congr (fun _ => rfl) same
  rw [State.siteView, count]
  rfl

/-- R1: ticks pace timers alone. -/
theorem State.elapse_siteSound {s : State} (d n : Nat) (h : s.siteSound) : (s.elapse d n).siteSound := by
  refine State.siteSound_of_lines (lines := each (LineRec.ticks n) s.stu.lines) (by simp) (fun i => ?_) (by simp) (by simp [State.running])
    ?_ ?_ h
  · rw [each_get]
    exact ⟨.ticks _ n, fun _ => rfl⟩
  · simp only [State.vdeCount, State.elapse_vde, each_get]
    rfl
  · refine State.pmnCount_congr (fun p => by simp [State.kind, State.settings, State.station]) fun p => ?_
    rw [State.elapse_pmn]
    exact ⟨rfl, rfl, rfl⟩

theorem State.moment_siteSound {s : State} (t : Stamp) (h : s.siteSound) : (s.moment t).siteSound := by
  rcases s.moment_cases t with ⟨-, e⟩ | ⟨-, -, e⟩
  · rwa [e]
  · rw [e]
    exact State.elapse_siteSound _ _ h

/-! ### The line ports, RLY and NBV -/

@[simp] theorem State.siteView_symbolReceived (side : Side) (sym : Symbol) (t : Stamp) :
    (s.symbolReceived side sym t).siteView = s.siteView := by
  unfold State.symbolReceived; split
  · exact s.siteView_setPort side _
  · rfl

@[simp] theorem State.siteView_linkUp (side : Side) : (s.linkUp side).siteView = s.siteView := by
  unfold State.linkUp State.markCutOff; split <;> simp

@[simp] theorem State.siteView_agedMark (side : Side) : (s.agedMark side).siteView = s.siteView := by
  unfold State.agedMark; split <;> simp

@[simp] theorem State.siteView_receivedFrame (r : ReceivedFrame) : (s.receivedFrame r).siteView = s.siteView := by
  unfold State.receivedFrame; split
  · dsimp only; split
    · rfl
    · split
      · rfl
      · rw [State.relay_eq]
        exact State.siteView_setPort _ _ _
  · rfl

@[simp] theorem State.siteView_promptReply (side : Side) (r : PathReport) : (s.promptReply side r).siteView = s.siteView := by
  unfold State.promptReply; split
  · dsimp only; split <;> simp
  · rfl

@[simp] theorem State.siteView_staleExpiry (side : Side) : (s.staleExpiry side).siteView = s.siteView := by
  unfold State.staleExpiry; split <;> simp

/-! ### Pilots' steps, the test generator, the pool and the STATE period timer -/

@[simp] theorem State.siteView_pilotStep : s.pilotStep.siteView = s.siteView := by
  unfold State.pilotStep; split <;> rfl

@[simp] theorem State.siteView_testExpiry : s.testExpiry.siteView = s.siteView := by
  unfold State.testExpiry; split
  · exact State.siteView_askNotice _ _ _
  · rfl

@[simp] theorem State.siteView_freeWatch (i : Fin 16) : (s.freeWatch i).siteView = s.siteView := by
  rw [State.freeWatch, State.siteView_askNotice]
  rfl

@[simp] theorem State.siteView_watchExpiry (i : Fin 16) : (s.watchExpiry i).siteView = s.siteView := by
  unfold State.watchExpiry; split <;> simp

@[simp] theorem State.siteView_toneWatch (requester : Byte) (a : WatchArgs) : (s.toneWatch requester a).1.siteView = s.siteView := by
  rcases s.toneWatch_cases requester a with ⟨i, -, e⟩ | ⟨-, ⟨i, -, e⟩ | ⟨-, e⟩⟩
  · rw [e]
    rfl
  · rw [e]
    exact State.siteView_askNotice _ _ _
  · rw [e]

@[simp] theorem State.siteView_statePeriodExpiry : s.statePeriodExpiry.siteView = s.siteView := by
  unfold State.statePeriodExpiry; split
  · exact State.siteView_askState _
  · rfl

/-! ### Requests that leave the site -/

section
variable (args : List Byte) (k : Fin 6)

theorem State.siteView_runProbe : (runProbe args k s).1.siteView = s.siteView := by
  unfold runProbe; split
  · split <;> rfl
  · rfl

theorem State.siteView_runToneWatch (requester : Byte) : (runToneWatch requester args k s).1.siteView = s.siteView := by
  unfold runToneWatch; split
  next a _ =>
    have watched := s.siteView_toneWatch requester a
    split
    next e => rwa [e] at watched
    next e => rwa [e] at watched
  next => rfl

theorem State.siteView_runToneDrop (requester : Byte) : (runToneDrop requester args k s).1.siteView = s.siteView := by
  unfold runToneDrop; split
  · split
    · rfl
    · split
      · rfl
      · split
        · exact s.siteView_freeWatch _
        · rfl
  · rfl

theorem State.siteView_runGenClaim (requester : Byte) : (runGenClaim requester args k s).1.siteView = s.siteView := by
  unfold runGenClaim; split
  · split
    · rfl
    · split
      · split
        · split <;> rfl
        · rfl
      · exact State.siteView_askNotice _ _ _
  · rfl

theorem State.siteView_runGenRelease (requester : Byte) : (runGenRelease requester args k s).1.siteView = s.siteView := by
  unfold runGenRelease; split
  · split
    · split
      · exact State.siteView_askNotice _ _ _
      · rfl
    · rfl
  · rfl

theorem State.siteView_runRestart (broadcast : Bool) : (runRestart broadcast args k s).1.siteView = s.siteView := by
  unfold runRestart; split
  · split
    · rfl
    · split <;> rfl
  · rfl

end

/-! ### The sampler's block start -/

@[simp] theorem State.siteView_blockStart : s.blockStart.siteView = s.siteView := by
  unfold State.blockStart; split
  · exact s.siteView_setPmn (pmn := .ofFn fun p => s.pmn[p].atBlockStart (s.monitored p)) fun p => by simp [PathRec.atBlockStart]
  · rfl

end

end Sys2Proof.Machine
end

section
/-! SUPPORT. That every command, and so every step, keeps the site sound: what is settled before the owned alarms, operation by operation, and
the alarms after them. It settles O60. -/

namespace Sys2Proof.Machine
open Sys2Proof

/-! ### VDE, PMN, PLG and TCR (Chapters 5 to 9) -/

/-- R27: path records, oscillators, verdicts and PATH notices leave what is settled before the alarms. -/
theorem PathsStep.siteSettled {s u : State} (h : PathsStep s u) (settled : s.siteSettled) : u.siteSettled := by
  obtain ⟨_, _, _, paths, rfl⟩ := h
  refine ⟨settled.1, ?_⟩
  rw [State.stateHeld, askPaths_stateWaits]
  exact settled.2

section
variable (s : State)

theorem PathsStep.decideLoss (p : Fin 4) (v : Verdict) (e : Evidence) : PathsStep s (s.decideLoss p v e) := by
  unfold State.decideLoss; dsimp only; split
  · exact (PathStep.setVerdict s p _).paths
  · split
    · exact (PathStep.setVerdict s p _).paths
    · exact .refl s

theorem PathsStep.upstreamReport (p : Fin 4) (low prompted : Bool) : PathsStep s (s.upstreamReport p low prompted) := by
  unfold State.upstreamReport; split
  · exact .decideLoss s p _ _
  · split
    · exact .decideLoss s p _ _
    · exact .refl s

theorem PathsStep.linkDownEvent (side : Side) : PathsStep s (s.linkDownEvent side) := by
  unfold State.linkDownEvent; split
  · refine foldl_keeps (PathsStep s) _ (fun u p h => ?_) _ s (.refl s)
    split
    · exact h.trans (.decideLoss u p _ _)
    · exact h
  · exact .refl s

theorem PathsStep.handReport (side : Side) (i : Fin 4) (low prompted : Bool) : PathsStep s (s.handReport side i low prompted) := by
  unfold State.handReport
  refine foldl_keeps (PathsStep s) _ (fun u p h => ?_) _ s (.refl s)
  split
  · exact h.trans (.upstreamReport u p _ _)
  · exact h

theorem PathsStep.handDying (side : Side) : PathsStep s (s.handDying side) := by
  unfold State.handDying
  refine foldl_keeps (PathsStep s) _ (fun u p h => ?_) _ s (.refl s)
  split
  · exact h.trans (.decideLoss u p _ _)
  · exact h

theorem PathsStep.recheckPath (p : Fin 4) : PathsStep s (s.recheckPath p) := by
  unfold State.recheckPath; dsimp only; split
  · exact (PathStep.setVerdict s p _).paths
  · split
    · exact (PathStep.lightEvaluation s p).paths
    · exact .refl s

end

section
variable {s : State}

theorem State.windowExpiry_siteSound (p : Fin 4) (h : s.siteSound) : (s.windowExpiry p).siteSound := by
  unfold State.windowExpiry; dsimp only; split
  · exact ((PathStep.setVerdict s p _).paths.siteSettled h.settled).settleAlarms
  · exact h

theorem State.holdOffExpiry_siteSound (p : Fin 4) (h : s.siteSound) : (s.holdOffExpiry p).siteSound := by
  unfold State.holdOffExpiry; dsimp only; split
  · exact (((PathStep.setVde s p _).paths.trans (PathStep.lightEvaluation _ p).paths).siteSettled h.settled).settleAlarms
  · exact h

/-! ### NBV (Chapter 8) -/

theorem State.useFrame_siteSettled (d : Delivery) (h : s.siteSettled) : (s.useFrame d).siteSettled := by
  have recorded (side : Side) (r : NbRec) : (s.setNb side r).siteSettled := State.siteSettled_of_view (by simp) h
  have states (side : Side) (m : Vector Summary 4) : (s.useState side m).siteSettled :=
    foldl_keeps State.siteSettled _ (fun u i settled => (PathsStep.handReport u side i _ _).siteSettled settled) _ _ (recorded side _)
  have paths (side : Side) (r : PathReport) : (s.usePath side r).siteSettled :=
    State.siteSettled_of_view (State.siteView_promptReply ..) ((PathsStep.handReport _ side _ _ _).siteSettled (recorded side _))
  have powers (side : Side) (dying : Bool) : (s.usePower side dying).siteSettled := by
    unfold State.usePower; dsimp only; split
    · exact (PathsStep.handDying _ side).siteSettled (recorded side _)
    · exact recorded side _
  unfold State.useFrame
  cases d.kind with
  | state =>
    dsimp only; split
    · exact states _ _
    · exact h
  | notice =>
    dsimp only; split
    · exact paths _ _
    · exact powers _ _
    · exact h
    · exact h
  | request => exact h
  | answer => exact h

theorem State.neighbourFrame_siteSound (d : Delivery) (h : s.siteSound) : (s.neighbourFrame d).siteSound := by
  unfold State.neighbourFrame; split
  · dsimp only; split
    · split
      · exact State.siteSound_of_view (State.siteView_setNb _ _ _) h
      · split
        · exact (State.useFrame_siteSettled (s := s.frameTaken d) d h.settled).settleAlarms
        · exact h
    · exact h
  · exact h

/-! ### The restart and the answers (R29, R46, R163) -/

/-- R156: STU at its start values, with an empty send queue. -/
theorem State.siteSound_of_reset (idle : s.running = false) (stu : s.stu = .reset) (snq : s.snq = []) : s.siteSound := by
  have reset := (State.held_siteSound s.pins 0 none 0 []).settled
  refine State.siteSettled.idle ?_ idle
  rw [State.siteSettled, State.stateHeld, stu, snq]
  exact reset

theorem State.answersLeft_siteSound (slots : List (Fin 6)) (h : s.siteSound) : (s.answersLeft slots).siteSound := by
  unfold State.answersLeft; dsimp only; split
  · split
    · exact State.siteSound_of_reset (State.restart_not_running _) rfl rfl
    · exact h
  · exact h

theorem State.complete_siteSound (k : Fin 6) (status : Status) (results : List Byte) (h : s.siteSound) :
    (s.complete k status results).siteSound := by
  unfold State.complete State.askAnswer; dsimp only; split
  · refine State.siteSound_of_view (State.siteView_setSnq _ fun _ => ?_) h
    rw [stateWaits, List.any_append]
    simp [stateWaits]
  · exact State.answersLeft_siteSound _ h

/-- R28, R29: entries that lose marks or leave, and the ANSWER entries among them. -/
theorem State.clearMarks_siteSound (side : Side) (h : s.siteSound) : (s.clearMarks side).siteSound := by
  refine State.answersLeft_siteSound _ (State.siteSound_setSnq (fun e mem => ?_) h)
  obtain ⟨e', mem', rfl⟩ := List.mem_map.mp (List.mem_of_mem_filter mem)
  exact ⟨e', mem', by cases side <;> rfl⟩

theorem State.takeMark_siteSound (side : Side) (e : Entry) (h : s.siteSound) : (s.takeMark side e).siteSound := by
  refine State.answersLeft_siteSound _ (State.siteSound_setSnq (fun x mem => ?_) h)
  obtain ⟨x', mem', rfl⟩ := List.mem_map.mp (List.mem_of_mem_filter mem)
  refine ⟨x', mem', ?_⟩
  split
  · cases side <;> rfl
  · rfl

theorem State.entryToDown_siteSound (side : Side) (h : s.siteSound) : (s.entryToDown side).siteSound := by
  have down : (s.portDown side).siteSound := State.siteSound_of_view (s.siteView_setPort side _) h
  have marked : (State.markCutOff side true ((s.portDown side).clearMarks side)).siteSound :=
    State.siteSound_of_view (State.siteView_setNb _ side _) (State.clearMarks_siteSound side down)
  rw [State.entryToDown_eq]
  exact ((PathsStep.linkDownEvent _ side).siteSettled marked.settled).settleAlarms

theorem State.signalDetectChange_siteSound (side : Side) (level : Bool) (h : s.siteSound) : (s.signalDetectChange side level).siteSound := by
  have set : (s.setSignal side level).siteSound := State.siteSound_of_view (by simp) h
  unfold State.signalDetectChange; dsimp only; split
  · exact State.entryToDown_siteSound side set
  · exact set

theorem State.silenceExpiry_siteSound (side : Side) (h : s.siteSound) : (s.silenceExpiry side).siteSound := by
  unfold State.silenceExpiry; split
  · exact State.entryToDown_siteSound side h
  · exact h

theorem State.grant_siteSound (side : Side) (h : s.siteSound) : (s.grant side).siteSound := by
  have granted (p : Port) : (s.setPort side p).siteSound := State.siteSound_of_view (s.siteView_setPort side p) h
  unfold State.grant; split
  · split
    · exact granted _
    · exact State.takeMark_siteSound side _ (granted _)
    · exact h
  · exact h

theorem State.transmitDone_siteSound (side : Side) (h : s.siteSound) : (s.transmitDone side).siteSound := by
  unfold State.transmitDone; split
  · exact State.grant_siteSound side (State.siteSound_of_view (s.siteView_setPort side _) h)
  · exact h

end

/-! ### STU (Chapter 10) -/

section
variable {s : State}

theorem State.siteSettled.setStu {u : Stu} (settled : u.settled) (dying : u.dying = s.stu.dying) (h : s.siteSettled) :
    State.siteSettled { s with stu := u } := by
  refine ⟨settled, ?_⟩
  rw [State.stateHeld, dying]
  exact h.2

theorem State.settleStall_siteSettled (fans : s.stu.fansDriven) (held : s.stateHeld = false) : s.settleStall.siteSettled := by
  have settled : State.siteSettled { s with stu := s.stu.settleStall } := ⟨Stu.settleStall_settled fans, held⟩
  unfold State.settleStall; dsimp only; split
  · exact State.siteSettled_of_view (State.siteView_askNotice _ _ _) settled
  · exact settled

theorem State.modLine_siteSettled {n : Fin 12} {f : LineRec → LineRec} (same : s.stu.lines[n].SameStall (f s.stu.lines[n]))
    (h : s.siteSettled) : (s.modLine n f).siteSettled := by
  refine h.setStu (Stu.settled_congr (u := s.stu) rfl (fun m => ?_) h.1) rfl
  rw [show (upd s.stu.lines n f)[m] = _ from upd_get ..]
  split
  next own => exact own ▸ same
  next => exact .refl _

theorem State.modLine_fansDriven {n : Fin 12} {f : LineRec → LineRec}
    (own : (f s.stu.lines[n]).fn = .fan → s.stu.lines[n].fn = .fan ∧ (f s.stu.lines[n]).level = s.stu.lines[n].level)
    (h : s.stu.fansDriven) : (s.modLine n f).stu.fansDriven := by
  intro hot m
  rw [State.modLine_line]
  split
  next =>
    intro fan
    obtain ⟨fan, level⟩ := own fan
    exact level.trans (h hot n fan)
  next => exact h hot m

/-- R27, R152: the entry to DYING takes every STATE out of the queue. -/
theorem State.enterDying_siteSettled (h : s.siteSettled) : s.enterDying.siteSettled := by
  unfold State.enterDying; split
  · exact h
  · exact ⟨h.1, (State.stateHeld_eq_false_iff _).mpr fun _ => snqDying_no_state _ _ _⟩

theorem State.judgeRevival_siteSettled (h : s.siteSettled) : s.judgeRevival.siteSettled := by
  unfold State.judgeRevival; split
  · exact ⟨h.1, rfl⟩
  · exact h

theorem State.judgeBattery_siteSettled (v : Nat) (h : s.siteSettled) : (s.judgeBattery v).siteSettled := by
  unfold State.judgeBattery; split
  · exact State.judgeRevival_siteSettled h
  · split
    · exact State.enterDying_siteSettled h
    · exact h

theorem driveFans_line (hot : Bool) (lines : Vector LineRec 12) (n : Fin 12) :
    (driveFans hot lines)[n] = if lines[n].fn = .fan then { lines[n] with level := hot || lines[n].requested } else lines[n] := by
  rw [driveFans, each_get]

/-- R148: the FAN lines are driven as HOT then says. -/
theorem driveFans_fansDriven {u : Stu} (hot : Bool) : Stu.fansDriven { u with hot := hot, lines := driveFans hot u.lines } := by
  intro isHot n
  dsimp only at isHot ⊢
  rw [driveFans_line, isHot]
  split
  next => exact fun _ => rfl
  next other => exact fun fan => absurd fan other

theorem State.judgeHot_siteSettled (v : Nat) (h : s.siteSettled) : (s.judgeHot v).siteSettled := by
  unfold State.judgeHot; dsimp only; split
  · exact h
  · refine State.settleStall_siteSettled ?_ ?_
    · rw [State.askNotice_stu]
      exact driveFans_fansDriven _
    · have asked := congrArg SiteView.stateHeld (State.siteView_askNotice { s with stu := { s.stu with
        hot := hotAfter s.settings.hotLimit s.settings.hotHysteresis s.stu.hot v
        lines := driveFans (hotAfter s.settings.hotLimit s.settings.hotHysteresis s.stu.hot v) s.stu.lines } } .climate false)
      exact asked.trans h.2

theorem State.judgeFilter_siteSettled (v : Nat) (h : s.siteSettled) : (s.judgeFilter v).siteSettled := by
  unfold State.judgeFilter; dsimp only; split
  · exact h
  · exact State.siteSettled_of_view (State.siteView_askNotice _ _ _) (h.setStu h.1 rfl)

theorem State.offerReading_siteSettled (i : Fin 10) (v : Nat) (h : s.siteSettled) : (s.offerReading i v).siteSettled := by
  have bias (p : Fin 4) : (s.judgeBias p v).siteSettled := by
    unfold State.judgeBias; dsimp only; split
    · exact ((PathStep.setPmn s p _).thenSame (.askNotice _ p)).paths.siteSettled h
    · exact h
  unfold State.offerReading; split
  · exact bias _
  · split
    · exact State.judgeHot_siteSettled v h
    · split
      · exact State.judgeBattery_siteSettled v h
      · split
        · exact State.judgeFilter_siteSettled v h
        · exact h

theorem State.slowConversion_siteSettled (code : Nat) (h : s.siteSettled) : (s.slowConversion code).siteSettled := by
  unfold State.slowConversion; dsimp only; split
  · exact State.offerReading_siteSettled _ _ h
  · exact h

theorem State.inputChange_siteSettled {n : Fin 12} (level : Bool) (inp : s.stu.lines[n].fn = .inp) (h : s.siteSettled) :
    (s.inputChange n level).siteSettled := by
  have taken (met : Bool) : (s.modLine n fun r => { r with level := level, flag := r.flag || met }).siteSettled :=
    State.modLine_siteSettled (.setLevel fun fan => absurd (inp.symm.trans fan) nofun) h
  unfold State.inputChange; dsimp only; split
  · exact State.siteSettled_of_view (State.siteView_askNotice _ _ _) (taken _)
  · exact taken _

theorem State.powerGoodChange_siteSettled {n : Fin 12} (level : Bool) (powerGood : s.stu.lines[n].fn = .powerGood) (h : s.siteSettled) :
    (s.powerGoodChange n level).siteSettled := by
  have taken : (s.modLine n fun r => { r with level := level }).siteSettled :=
    State.modLine_siteSettled (.setLevel fun fan => absurd (powerGood.symm.trans fan) nofun) h
  unfold State.powerGoodChange; dsimp only; split
  · exact State.judgeRevival_siteSettled taken
  · exact State.enterDying_siteSettled taken

theorem LineRec.tachoChange_fn (r : LineRec) (level : Bool) (t : Stamp) : (r.tachoChange level t).fn = r.fn := by
  unfold LineRec.tachoChange; split <;> rfl

theorem State.lineEvent_siteSettled (n : Fin 12) (level : Bool) (t : Stamp) (h : s.siteSettled) : (s.lineEvent n level t).siteSettled := by
  unfold State.lineEvent
  cases fn : s.stu.lines[n].fn with
  | inp => exact State.inputChange_siteSettled level fn h
  | tacho =>
    refine State.settleStall_siteSettled (State.modLine_fansDriven (fun fan => ?_) h.1.1) h.2
    rw [LineRec.tachoChange_fn, fn] at fan
    cases fan
  | powerGood => exact State.powerGoodChange_siteSettled level fn h
  | out => exact h
  | fan => exact h
  | alarm => exact h

theorem State.hutLineChange_siteSound (n : Fin 12) (level : Bool) (t : Stamp) (h : s.siteSound) : (s.hutLineChange n level t).siteSound := by
  unfold State.hutLineChange; dsimp only; split
  · exact (State.lineEvent_siteSettled n level t (by exact h.settled)).settleAlarms
  · exact h

theorem State.edgeTimerExpiry_siteSound (n : Fin 12) (h : s.siteSound) : (s.edgeTimerExpiry n).siteSound := by
  unfold State.edgeTimerExpiry; split
  · exact (State.settleStall_siteSettled (State.modLine_fansDriven (fun fan => ⟨fan, rfl⟩) h.settled.1.1) h.settled.2).settleAlarms
  · exact h

/-- R149: a stall timer that runs out sets the FAN_STALL of a line whose stall condition holds, for else it would be stopped. -/
theorem State.stallRaised_settled {n : Fin 12} (due : s.stu.lines[n].stallTimer = .due) (h : s.stu.settled) :
    (s.modLine n LineRec.stallRaised).stu.settled := by
  obtain ⟨fans, stalls⟩ := h
  have line (m : Fin 12) := State.modLine_line s n m LineRec.stallRaised
  have same : (s.modLine n LineRec.stallRaised).stu.stalled = s.stu.stalled := by
    refine funext fun m => Stu.stalled_congr (fun i => ?_) m
    rw [line]
    split
    next own => exact own ▸ ⟨rfl, rfl, rfl, fun _ => rfl⟩
    next => exact .refl _
  refine ⟨State.modLine_fansDriven (fun fan => ⟨fan, rfl⟩) fans, fun m => ?_⟩
  rw [same, line]
  split
  next own =>
    subst own
    refine ⟨fun _ => .inr rfl, fun moves => ?_⟩
    have stopped := ((stalls n).2 moves).1
    rw [due] at stopped
    cases stopped
  next => exact stalls m

theorem State.stallTimerExpiry_siteSound (n : Fin 12) (h : s.siteSound) : (s.stallTimerExpiry n).siteSound := by
  unfold State.stallTimerExpiry; split
  next expires =>
    have due : s.stu.lines[n].stallTimer = .due := by simpa using (Bool.and_eq_true_iff.mp expires).2
    have raised : (s.modLine n LineRec.stallRaised).siteSettled := h.settled.setStu (State.stallRaised_settled due h.settled.1) rfl
    exact (State.siteSettled_of_view (State.siteView_askNotice _ _ _) raised).settleAlarms
  next => exact h

/-! ### Requests -/

/-- R146, R148: a LINES_SET or LINES_CLEAR line by line. -/
theorem Stu.request_line (u : Stu) (level : Bool) (mask : Vector Bool 12) (n : Fin 12) :
    (u.request level mask).lines[n] =
      if mask[n] && (u.lines[n].fn = .out || u.lines[n].fn = .fan) then
        { u.lines[n] with requested := level, level := if u.lines[n].fn = .fan then u.hot || level else level }
      else u.lines[n] := by
  simp only [Stu.request, Fin.getElem_fin, Vector.getElem_ofFn]

/-- R145: a LINES_ACK line by line. -/
theorem Stu.acknowledge_line (u : Stu) (mask : Vector Bool 12) (n : Fin 12) :
    (u.acknowledge mask).lines[n] =
      if mask[n] && u.lines[n].fn = .inp then { u.lines[n] with flag := u.lines[n].trigger.heldBy u.lines[n].level } else u.lines[n] := by
  simp only [Stu.acknowledge, Fin.getElem_fin, Vector.getElem_ofFn]

/-- R148: a FAN line that is turned off stays HIGH while HOT is set. -/
theorem Stu.request_fansDriven {u : Stu} (level : Bool) (mask : Vector Bool 12) (h : u.fansDriven) : (u.request level mask).fansDriven := by
  intro hot n
  have isHot : u.hot = true := hot
  rw [Stu.request_line, isHot]
  split
  next => exact fun fan => if_pos fan
  next => exact h isHot n

theorem State.runLines_siteSound (level : Bool) (args : List Byte) (k : Fin 6) (h : s.siteSound) : (runLines level args k s).1.siteSound := by
  unfold runLines; split
  next mask _ =>
    obtain ⟨⟨fans, _⟩, held⟩ := h.settled
    exact (State.settleStall_siteSettled (s := { s with stu := s.stu.request level mask }) (Stu.request_fansDriven level mask fans)
      held).settleAlarms
  next => exact h

/-- R145: the flags are all that a LINES_ACK moves. -/
theorem State.runLinesAck_siteSound (args : List Byte) (k : Fin 6) (h : s.siteSound) : (runLinesAck args k s).1.siteSound := by
  unfold runLinesAck; split
  next mask _ =>
    refine State.siteSound_of_lines (s := s) (lines := (s.stu.acknowledge mask).lines) rfl (fun n => ?_) rfl rfl rfl rfl h
    rw [Stu.acknowledge_line]
    split
    · exact ⟨.setLevel fun _ => rfl, fun _ => rfl⟩
    · exact ⟨.refl _, fun _ => rfl⟩
  next => exact h

theorem State.runRecheck_siteSound (args : List Byte) (k : Fin 6) (h : s.siteSound) : (runRecheck args k s).1.siteSound := by
  unfold runRecheck; split
  · split
    · exact h
    · exact ((PathsStep.recheckPath s _).siteSettled h.settled).settleAlarms
  · exact h

/-- R161 to R163: a request keeps the site sound where its execution does. -/
theorem State.takeRequest_siteSound (rq : RequestHead) (body : List Byte) {run : Fin 6 → State → State × Reply}
    (hrun : ∀ k u, u.siteSound → (run k u).1.siteSound) (h : s.siteSound) : (s.takeRequest rq body run).siteSound := by
  unfold State.takeRequest; split
  · dsimp only; split
    · exact h
    · split
      · exact h
      next k _ =>
        have inSlot : (s.requestIn k rq body).siteSound := h
        have ran := hrun k (s.requestIn k rq body) inSlot
        split
        · exact State.complete_siteSound _ _ _ inSlot
        · split
          next u status results done =>
            rw [show run k (s.requestIn k rq body) = (u, .done status results) from done] at ran
            exact State.complete_siteSound _ _ _ ran
          next u waiting =>
            rw [show run k (s.requestIn k rq body) = (u, .waiting) from waiting] at ran
            exact ran
  · exact h

/-! ### The sampler (Chapters 4, 5 and 7) -/

/-- R108: a sample moves no owned alarm. -/
theorem State.siteView_sampled (s : State) (ch : Fin 8) (code : Code) : (s.sampled ch code).siteView = s.siteView := by
  refine s.siteView_setPmn (pmn := addSample ch code.toNat s.pmn) fun p => ?_
  rw [addSample_get]
  exact ⟨rfl, rfl, rfl⟩

theorem State.tapSample_siteSound (ch : Fin 8) (code : Code) (t : Stamp) (h : s.siteSound) : (s.tapSample ch code t).siteSound := by
  cases here : s.atSlot ch.castSucc with
  | true =>
    have taken : (s.sampled ch code).siteSettled := State.siteSettled_of_view (s.siteView_sampled ch code) h.settled
    rw [State.tapSample_eq code t here]
    exact (((s.sampled ch code).lossCompared_path ch code.toNat t 0).1.siteSettled taken).settleAlarms
  | false =>
    rw [State.tapSample, here]
    exact h

theorem State.tcrBlockEnd_siteSettled (h : s.siteSettled) : s.tcrBlockEnd.siteSettled := by
  refine (s.tcrBlockEnd_path 0).1.siteSettled ?_
  unfold State.lanesEvaluated; dsimp only; split
  · exact State.siteSettled_of_view (State.siteView_askNotice _ _ _) h
  · exact h

theorem State.blockEnd_siteSound (pmnFirst : Bool) (t : Stamp) (h : s.siteSound) : (s.blockEnd pmnFirst t).siteSound := by
  have due : State.siteSettled { s with smp := { s.smp with block := .startDue } } := h.settled
  unfold State.blockEnd; split
  · refine State.siteSettled.settleAlarms ?_
    split
    · exact State.tcrBlockEnd_siteSettled ((State.pmnBlockEnd_path _ t 0).1.siteSettled due)
    · exact (State.pmnBlockEnd_path _ t 0).1.siteSettled (State.tcrBlockEnd_siteSettled due)
  · exact h

theorem State.sharedSlot_siteSound (code : Code) (t : Stamp) (h : s.siteSound) : (s.sharedSlot code t).siteSound := by
  unfold State.sharedSlot; split
  · dsimp only; split
    · exact State.complete_siteSound _ _ _ h
    · exact (State.slowConversion_siteSettled _ (by exact h.settled)).settleAlarms
  · exact h

/-! ### Loads (R36 to R44) -/

/-- R149: at the entry to RUNNING HOT is clear, and the stall conditions are settled. -/
theorem State.siteEntered_settled (s : State) : s.siteEntered.settled := Stu.settleStall_settled nofun

/-- R43, R152: the entry to RUNNING takes the site anew. -/
theorem State.powerJudged_siteSettled {q : List Entry} {timer : Countdown} (report : FirstReport s q timer) :
    (s.powerJudged q timer).siteSettled := by
  refine ⟨Stu.settled_congr (u := s.siteEntered) (by rw [State.powerJudged]) (fun n => ?_) s.siteEntered_settled, ?_⟩
  · have line : (s.powerJudged q timer).stu.lines[n] = s.siteEntered.lines[n] := by simp only [State.powerJudged]
    rw [line]
    exact .refl _
  · refine (State.stateHeld_eq_false_iff _).mpr fun dying => (report.dying ?_).2
    simpa [State.powerJudged] using dying

theorem State.enterRunning_siteSound (awake : s.awake = true) : s.enterRunning.siteSound := by
  obtain ⟨q, timer, judged, report⟩ := State.enterRunning_judged awake
  rw [judged]
  exact (State.powerJudged_siteSettled report).settleAlarms

theorem State.loadEnd_siteSound (outcome : StartOutcome) (reason : StartReason) (c : Settings) (loading : s.loading = true)
    (h : s.siteSound) : (s.loadEnd outcome reason c).siteSound := by
  unfold State.loadEnd; dsimp only; split
  · exact State.enterRunning_siteSound (by exact (Bool.and_eq_true_iff.mp loading).1)
  · exact State.siteSettled.idle h.settled (by simp [State.running])

theorem State.loadTimerExpiry_siteSound (h : s.siteSound) : s.loadTimerExpiry.siteSound := by
  unfold State.loadTimerExpiry; split
  next due => exact State.loadEnd_siteSound _ _ _ (by exact (Bool.and_eq_true_iff.mp due).1) h
  next => exact h

theorem State.i2cNack_siteSound (h : s.siteSound) : (if s.transacting then s.loadFailed else s).siteSound := by
  split
  next transacting => exact State.loadEnd_siteSound _ _ _ (State.loading_of_transacting transacting) h
  next => exact h

theorem State.imageReadDone_siteSound (image : List Byte) (h : s.siteSound) : (s.imageReadDone image).siteSound := by
  unfold State.imageReadDone; split
  next read => exact State.loadEnd_siteSound _ _ _ (State.loading_of_transacting (Bool.and_eq_true_iff.mp read).1) h
  next => exact h

/-- R36: a release leaves the part outside RUNNING. -/
theorem State.rstnRelease_siteSound (straps : BitVec 6) (sdaHold : Option Nat) (h : s.siteSound) : (s.rstnRelease straps sdaHold).siteSound := by
  unfold State.rstnRelease; split
  · exact h
  · exact State.siteSettled.idle h.settled (by simp [State.running, State.startLoad])

end

/-! ### Every command and every step -/

theorem exec_siteSound (c : Instr) {s : State} (h : s.siteSound) : ∃ u, exec c s = .next u ∧ u.siteSound := by
  have later (t : Stamp) : (s.moment t).siteSound := State.moment_siteSound t h
  have request (rq : RequestHead) (body : List Byte) (t : Stamp) {run : Fin 6 → State → State × Reply}
      (hrun : ∀ k u, u.siteSound → (run k u).1.siteSound) : ((s.moment t).takeRequest rq body run).siteSound :=
    State.takeRequest_siteSound rq body hrun (later t)
  have unseen (rq : RequestHead) (body : List Byte) (t : Stamp) {run : Fin 6 → State → State × Reply}
      (hrun : ∀ k (u : State), (run k u).1.siteView = u.siteView) : ((s.moment t).takeRequest rq body run).siteSound :=
    request rq body t fun k u => State.siteSound_of_view (hrun k u)
  cases c with
  | powerOnReset straps => exact ⟨_, rfl, State.held_siteSound ..⟩
  | rstnRelease straps sdaHold => exact ⟨_, rfl, State.rstnRelease_siteSound straps sdaHold h⟩
  | millisecondTick =>
    refine ⟨_, rfl, ?_⟩
    unfold State.millisecondTick; split
    · exact State.elapse_siteSound _ _ h
    · exact h
  | symbolReceived side sym t => exact ⟨_, rfl, State.siteSound_of_view (State.siteView_symbolReceived _ side sym t) (later t)⟩
  | signalDetectChange side level t => exact ⟨_, rfl, State.signalDetectChange_siteSound side level (later t)⟩
  | silenceExpiry side t => exact ⟨_, rfl, State.silenceExpiry_siteSound side (later t)⟩
  | linkUp side t => exact ⟨_, rfl, State.siteSound_of_view (State.siteView_linkUp _ side) (later t)⟩
  | agedMark side t => exact ⟨_, rfl, State.siteSound_of_view (State.siteView_agedMark _ side) (later t)⟩
  | receivedFrame f => exact ⟨_, rfl, State.siteSound_of_view (s.siteView_receivedFrame f) h⟩
  | transmitDone side t => exact ⟨_, rfl, State.transmitDone_siteSound side (later t)⟩
  | i2cNack stage => exact ⟨_, rfl, State.i2cNack_siteSound h⟩
  | loadTimerExpiry => exact ⟨_, rfl, State.loadTimerExpiry_siteSound h⟩
  | imageReadDone image => exact ⟨_, rfl, State.imageReadDone_siteSound image h⟩
  | blockStart => exact ⟨_, rfl, State.siteSound_of_view s.siteView_blockStart h⟩
  | tapSample channel code t => exact ⟨_, rfl, State.tapSample_siteSound channel code t (later t)⟩
  | blockEnd pmnFirst t => exact ⟨_, rfl, State.blockEnd_siteSound pmnFirst t (later t)⟩
  | sharedSlot code t => exact ⟨_, rfl, State.sharedSlot_siteSound code t (later t)⟩
  | pilotStep => exact ⟨_, rfl, State.siteSound_of_view s.siteView_pilotStep h⟩
  | neighbourFrame d t => exact ⟨_, rfl, State.neighbourFrame_siteSound d (later t)⟩
  | staleExpiry side => exact ⟨_, rfl, State.siteSound_of_view (s.siteView_staleExpiry side) h⟩
  | windowExpiry path => exact ⟨_, rfl, State.windowExpiry_siteSound path h⟩
  | holdOffExpiry path => exact ⟨_, rfl, State.holdOffExpiry_siteSound path h⟩
  | watchExpiry lane => exact ⟨_, rfl, State.siteSound_of_view (s.siteView_watchExpiry lane) h⟩
  | testExpiry => exact ⟨_, rfl, State.siteSound_of_view s.siteView_testExpiry h⟩
  | statePeriodExpiry => exact ⟨_, rfl, State.siteSound_of_view s.siteView_statePeriodExpiry h⟩
  | hutLineChange line level t => exact ⟨_, rfl, State.hutLineChange_siteSound line level t (later t)⟩
  | edgeTimerExpiry line => exact ⟨_, rfl, State.edgeTimerExpiry_siteSound line h⟩
  | stallTimerExpiry line => exact ⟨_, rfl, State.stallTimerExpiry_siteSound line h⟩
  | unknownRequest rq body t =>
    refine ⟨_, rfl, ?_⟩
    split
    · exact later t
    · exact unseen rq body t fun _ _ => rfl
  | queryPath rq args t => exact ⟨_, rfl, unseen rq _ t fun _ _ => rfl⟩
  | querySite rq args t => exact ⟨_, rfl, unseen rq _ t fun _ _ => rfl⟩
  | queryLane rq args t => exact ⟨_, rfl, unseen rq _ t fun _ _ => rfl⟩
  | queryNeighbour rq args t => exact ⟨_, rfl, unseen rq _ t fun _ _ => rfl⟩
  | probe rq args t => exact ⟨_, rfl, unseen rq _ t fun k u => u.siteView_runProbe args k⟩
  | toneWatch rq args t => exact ⟨_, rfl, unseen rq _ t fun k u => u.siteView_runToneWatch args k _⟩
  | toneDrop rq args t => exact ⟨_, rfl, unseen rq _ t fun k u => u.siteView_runToneDrop args k _⟩
  | genClaim rq args t => exact ⟨_, rfl, unseen rq _ t fun k u => u.siteView_runGenClaim args k _⟩
  | genRelease rq args t => exact ⟨_, rfl, unseen rq _ t fun k u => u.siteView_runGenRelease args k _⟩
  | linesSet rq args t => exact ⟨_, rfl, request rq _ t fun k _ => State.runLines_siteSound true args k⟩
  | linesClear rq args t => exact ⟨_, rfl, request rq _ t fun k _ => State.runLines_siteSound false args k⟩
  | linesAck rq args t => exact ⟨_, rfl, request rq _ t fun k _ => State.runLinesAck_siteSound args k⟩
  | recheck rq args t => exact ⟨_, rfl, request rq _ t fun k _ => State.runRecheck_siteSound args k⟩
  | restartRequest rq args t => exact ⟨_, rfl, unseen rq _ t fun k u => u.siteView_runRestart args k _⟩
  | grantAtSymbolBoundary side t => exact ⟨_, rfl, State.grant_siteSound side (later t)⟩

/-- Settles O60: a command that touches what an alarm's owner holds, or STU, settles the stalls where they can move and then the alarms; any
other leaves the view of the site, takes entries out of the send queue, or leaves RUNNING. -/
theorem everyStepKeepsSite : Obligations.EveryStepKeepsSite := by
  intro s u sound h
  unfold step at h; split at h
  next =>
    obtain rfl := Host.Outcome.next.inj h
    unfold State.idle; split
    · exact State.elapse_siteSound _ _ sound
    · exact sound
  next c rest _ =>
    obtain ⟨v, taken, kept⟩ := exec_siteSound c (s := { s with pending := rest }) sound
    obtain rfl := Host.Outcome.next.inj (taken.symm.trans h)
    exact kept

end Sys2Proof.Machine
end

section
/-! SUPPORT. A change of level on a hut line: what stands settled needs no settling, an IN line's trigger (R143, R144), and the power state that
a POWER_GOOD line or the battery moves (R27, R152, R153). It settles O42 and O44. -/

namespace Sys2Proof.Machine
open Sys2Proof

/-! ### What stands settled (R149, R154) -/

/-- R149: settling leaves a line whose stall timer and FAN_STALL agree with its stall condition. -/
theorem LineRec.stallSettled_self {r : LineRec} {stalled : Bool}
    (holds : stalled = true → r.stallTimer ≠ .stopped ∨ r.fanStall = true)
    (ends : stalled = false → r.stallTimer = .stopped ∧ r.fanStall = false) : r.stallSettled stalled = r := by
  cases stalled with
  | true =>
    rw [LineRec.stallSettled, if_pos rfl]
    refine if_neg fun starts => ?_
    rw [Bool.and_eq_true, decide_eq_true_eq, Bool.not_eq_true'] at starts
    exact (holds rfl).elim (· starts.1) fun stall => absurd (starts.2.symm.trans stall) Bool.false_ne_true
  | false =>
    obtain ⟨stopped, clear⟩ := ends rfl
    rw [LineRec.stallSettled, if_neg Bool.false_ne_true, ← stopped, ← clear]

theorem Stu.settled.line {u : Stu} (h : u.settled) (n : Fin 12) : u.lines[n].stallSettled (u.stalled n) = u.lines[n] :=
  LineRec.stallSettled_self (h.2 n).1 (h.2 n).2

theorem Stu.settled.settleStall {u : Stu} (h : u.settled) : u.settleStall = u := by
  have lines : u.settleStall.lines = u.lines := Vector.ext fun i inside => (u.settleStall_line ⟨i, inside⟩).trans (h.line ⟨i, inside⟩)
  calc u.settleStall
    _ = { u with lines := u.settleStall.lines } := rfl
    _ = u := by rw [lines]

section
variable {s : State}

/-- R149, R151: in RUNNING settling the stall conditions asks for a CLIMATE notice exactly when a FAN_STALL changes. -/
theorem State.settleStall_eq (running : s.running = true) :
    s.settleStall = { s with
      stu := s.stu.settleStall
      snq := if ∀ n : Fin 12, s.stu.settleStall.lines[n].fanStall = s.stu.lines[n].fanStall then s.snq else (s.withNotice .climate).snq } := by
  unfold State.settleStall
  dsimp only
  by_cases same : ∀ n : Fin 12, s.stu.settleStall.lines[n].fanStall = s.stu.lines[n].fanStall
  · rw [if_pos same, if_neg]
    simpa [-Fin.getElem_fin] using same
  · rw [if_neg same, if_pos, State.askNotice_eq _ _ _ (by exact running)]
    · rfl
    · simpa [-Fin.getElem_fin] using same

/-- R149, R154: settling the stalls and the alarms leaves FAN_STALL to the stalls. -/
theorem State.stallsSettled_fanStall (s : State) (n : Fin 12) :
    s.settleStall.settleAlarms.stu.lines[n].fanStall = s.stu.settleStall.lines[n].fanStall := by
  obtain ⟨level, line, -⟩ := s.stallsSettled_line n
  rw [line, Stu.settleStall_line]

/-- R151: the queue with the stalls and the alarms settled. -/
theorem State.stallsSettled_snq (running : s.running = true) :
    s.settleStall.settleAlarms.snq =
      if ∀ n : Fin 12, s.settleStall.settleAlarms.stu.lines[n].fanStall = s.stu.lines[n].fanStall then s.snq
      else (s.withNotice .climate).snq := by
  simp only [State.stallsSettled_fanStall]
  rw [State.settleAlarms_eq, State.settleStall_eq running]

/-- R149, R151, R154: settling the stalls and the alarms is a change of STU, and a CLIMATE notice where a FAN_STALL changes. -/
theorem State.stallsSettled_eq (running : s.running = true) :
    s.settleStall.settleAlarms =
      { (if ∀ n : Fin 12, s.settleStall.settleAlarms.stu.lines[n].fanStall = s.stu.lines[n].fanStall then s
          else s.withNotice .climate) with stu := s.settleStall.settleAlarms.stu } := by
  have outside (stu : Stu) : ({ s.settleStall with stu := stu } : State) =
      { (if ∀ n : Fin 12, s.stu.settleStall.lines[n].fanStall = s.stu.lines[n].fanStall then s
          else s.withNotice .climate) with stu := stu } := by
    rw [State.settleStall_eq running]
    dsimp only
    split <;> rfl
  simp only [State.stallsSettled_fanStall]
  exact (State.settleAlarms_eq _).trans (outside _)

/-- R149, R151, R154: settling the stalls and the alarms changes STU's lines, its alarms and the send queue alone. -/
theorem State.stallsSettled_frame (s : State) :
    s.settleStall.settleAlarms.stu.hot = s.stu.hot ∧ s.settleStall.settleAlarms.stu.filter = s.stu.filter ∧
      s.settleStall.settleAlarms.stu.dying = s.stu.dying ∧ { s.settleStall.settleAlarms with stu := s.stu, snq := s.snq } = s := by
  obtain ⟨q, settled⟩ := s.settleStall_changes
  obtain ⟨hot, filter, dying, -⟩ := s.settleStall.settleAlarms_sameButAlarms
  rw [settled] at hot filter dying
  rw [State.settleAlarms_eq, settled]
  exact ⟨hot, filter, dying, rfl⟩

theorem State.stallsSettled_stateTimer (s : State) : s.settleStall.settleAlarms.stateTimer = s.stateTimer := by
  obtain ⟨q, settled⟩ := s.settleStall_changes
  rw [State.settleAlarms_eq, settled]

theorem State.settleStall_self (h : s.stu.settled) : s.settleStall = s := by
  rw [State.settleStall, h.settleStall]
  exact if_neg (by simp)

theorem State.settleAlarms_self (h : s.siteSound) : s.settleAlarms = s := by
  unfold State.settleAlarms
  split
  next running =>
    obtain ⟨vde, pmn, climate, total, driven⟩ := (s.siteSound_iff.mp h).2 running
    have lines : each (fun r => if r.fn = .alarm then { r with level := decide (0 < s.stu.total) } else r) s.stu.lines = s.stu.lines := by
      refine Vector.ext fun i inside => (each_get _ _ ⟨i, inside⟩).trans ?_
      split
      next alarm =>
        rw [← driven ⟨i, inside⟩ alarm]
        rfl
      next => rfl
    dsimp only
    rw [← total, lines, ← vde, ← pmn, ← climate]
  next => rfl

end

/-! ### HUT_LINE_CHANGE (R143) -/

/-- The pin of line n with a level. -/
def State.pinSet (s : State) (n : Fin 12) (level : Bool) : State :=
  { s with pins := { s.pins with lines := s.pins.lines.set n.val level n.isLt } }

section
variable {s₀ s : State} {n : Fin 12} {t : Stamp}

/-- R143: in RUNNING a change of level reaches STU. -/
theorem exec_hutLineChange_taken (now : s = s₀.moment t) (running : s.running = true) {level : Bool} (changes : s.stu.lines[n].level ≠ level) :
    exec (.hutLineChange n level t) s₀ = .next ((s.pinSet n level).lineEvent n level t).settleAlarms := by
  subst now
  exact congrArg Host.Outcome.next (if_pos (Bool.and_eq_true_iff.mpr ⟨running, bne_iff_ne.mpr changes⟩))

/-- R143: STU takes no level from a line that it drives. -/
theorem State.lineEvent_driven {s : State} (level : Bool) (t : Stamp)
    (driven : s.stu.lines[n].fn = .out ∨ s.stu.lines[n].fn = .fan ∨ s.stu.lines[n].fn = .alarm) : s.lineEvent n level t = s := by
  unfold State.lineEvent
  rcases driven with out | fan | alarm
  · rw [out]
  · rw [fan]
  · rw [alarm]

theorem State.lineEvent_inp {s : State} (level : Bool) (t : Stamp) (inp : s.stu.lines[n].fn = .inp) :
    s.lineEvent n level t = s.inputChange n level := by
  unfold State.lineEvent
  rw [inp]

theorem State.lineEvent_tacho {s : State} (level : Bool) (t : Stamp) (tacho : s.stu.lines[n].fn = .tacho) :
    s.lineEvent n level t = State.settleStall (s.modLine n fun r => r.tachoChange level t) := by
  unfold State.lineEvent
  rw [tacho]

theorem State.lineEvent_powerGood {s : State} (level : Bool) (t : Stamp) (powerGood : s.stu.lines[n].fn = .powerGood) :
    s.lineEvent n level t = s.powerGoodChange n level := by
  unfold State.lineEvent
  rw [powerGood]

/-- R143: outside RUNNING, and on the pin of a line that the part drives, the pin alone moves. -/
theorem exec_hutLineChange_driven (now : s = s₀.moment t) (sound : s.siteSound) (level : Bool)
    (driven : s.running = false ∨ s.stu.lines[n].fn = .out ∨ s.stu.lines[n].fn = .fan ∨ s.stu.lines[n].fn = .alarm) :
    exec (.hutLineChange n level t) s₀ = .next (s.pinSet n level) := by
  by_cases event : s.running = true ∧ s.stu.lines[n].level ≠ level
  · obtain ⟨running, changes⟩ := event
    have output := driven.resolve_left (by rw [running]; nofun)
    rw [exec_hutLineChange_taken now running changes, State.lineEvent_driven _ _ (by exact output), State.settleAlarms_self (by exact sound)]
  · subst now
    refine congrArg Host.Outcome.next (if_neg fun both => event ?_)
    exact (Bool.and_eq_true_iff.mp both).imp id bne_iff_ne.mp

end

/-! ### IN lines (R144) -/

/-- R144: the triggers that a change from a level meets. -/
theorem Trigger.metBy_not (tr : Trigger) (before : Bool) :
    tr.metBy before (!before) = true ↔
      tr = .both ∨ before = false ∧ (tr = .high ∨ tr = .rise) ∨ before = true ∧ (tr = .low ∨ tr = .fall) := by
  cases before <;> cases tr <;> decide

section
variable {s : State} {n : Fin 12}

/-- R143, R154: a line that is neither FAN nor ALARM takes a level, and with it perhaps its flag, and the site stands settled. -/
theorem State.levelTaken_siteSound {level flag : Bool} (fan : s.stu.lines[n].fn ≠ .fan) (alarm : s.stu.lines[n].fn ≠ .alarm)
    (h : s.siteSound) : (s.modLine n fun r => { r with level := level, flag := flag }).siteSound := by
  refine State.siteSound_of_lines (s := s) rfl (fun m => ?_) rfl rfl rfl rfl h
  rw [show (upd s.stu.lines n _)[m] = _ from upd_get ..]
  split
  next own =>
    subst own
    exact ⟨.setLevel fun isFan => absurd isFan fan, fun isAlarm => absurd isAlarm alarm⟩
  next => exact ⟨.refl _, fun _ => rfl⟩

/-- R144: an IN line's change of level, in RUNNING. -/
theorem State.inputChange_eq (running : s.running = true) (level : Bool) :
    s.inputChange n level =
      { (if s.stu.lines[n].trigger.metBy s.stu.lines[n].level level = true ∧ s.stu.lines[n].flag = false ∧ s.stu.lines[n].report = true
          then s.withNotice .lines else s) with
        stu := { s.stu with
          lines := s.stu.lines.set n.val
            { s.stu.lines[n] with
              level := level, flag := s.stu.lines[n].flag || s.stu.lines[n].trigger.metBy s.stu.lines[n].level level } n.isLt } } := by
  have newly (met flag report : Bool) : (met && !flag && report) = true ↔ met = true ∧ flag = false ∧ report = true := by
    rw [Bool.and_eq_true, Bool.and_eq_true, Bool.not_eq_true', and_assoc]
  unfold State.inputChange
  dsimp only
  simp only [newly]
  split
  · exact State.askNotice_eq _ _ _ (by exact running)
  · rfl

theorem State.inputChange_siteSound (inp : s.stu.lines[n].fn = .inp) (level : Bool) (h : s.siteSound) :
    (s.inputChange n level).siteSound := by
  have taken (met : Bool) := State.levelTaken_siteSound (level := level) (flag := s.stu.lines[n].flag || met) (n := n)
    (by rw [inp]; nofun) (by rw [inp]; nofun) h
  unfold State.inputChange
  dsimp only
  split
  · exact State.siteSound_of_view (State.siteView_askNotice _ _ _) (taken _)
  · exact taken _

end

/-- Settles O42: an input takes its level and its flag, and neither an input nor a pin is anything that the stalls or the alarms read. -/
theorem inputLineTakesLevel : Obligations.InputLineTakesLevel := by
  intro n t s₀ s now sound
  refine ⟨fun running inp => ⟨_, Trigger.metBy_not s.stu.lines[n].trigger s.stu.lines[n].level, ?taken⟩,
    fun level _ driven => exec_hutLineChange_driven now sound level driven⟩
  have settled := State.settleAlarms_self
    (State.inputChange_siteSound (s := s.pinSet n !s.stu.lines[n].level) inp (!s.stu.lines[n].level) (by exact sound))
  rw [exec_hutLineChange_taken now running (by simp), State.lineEvent_inp _ _ (by exact inp), settled,
    State.inputChange_eq (by exact running)]
  by_cases asks : s.stu.lines[n].trigger.metBy s.stu.lines[n].level (!s.stu.lines[n].level) = true ∧ s.stu.lines[n].flag = false ∧
      s.stu.lines[n].report = true
  · rw [if_pos asks, if_pos (by exact asks)]
    rfl
  · rw [if_neg asks, if_neg (by exact asks)]
    rfl

end Sys2Proof.Machine
end

section
/-! SUPPORT. The power state (R27, R152, R153): the entry to DYING, the return to NORMAL, and the POWER_GOOD line and the battery that move it.
It settles O44. -/

namespace Sys2Proof.Machine
open Sys2Proof

/-! ### The entry to DYING (R27, R152) -/

/-- R27: with a port UP, the POWER notice stands at the head, marked for every UP port. -/
theorem snqDying_head {w x : Bool} (up : w = true ∨ x = true) (q : List Entry) :
    ∃ e rest, snqDying w x q = e :: rest ∧ e.item = .notice .power ∧ (w = true → e.west = true) ∧ (x = true → e.east = true) := by
  unfold snqDying
  dsimp only
  split
  next e found =>
    have item : e.item = .notice .power := by simpa using List.find?_some found
    exact ⟨_, _, rfl, item, fun west => by simp [Entry.remark, west], fun east => by simp [Entry.remark, east]⟩
  next =>
    rw [if_pos (by simpa using up)]
    exact ⟨_, _, rfl, rfl, id, id⟩

/-- R27: but for the POWER notice the queue loses its STATE alone. -/
theorem snqDying_others (w x : Bool) (q : List Entry) :
    (snqDying w x q).filter (fun e => e.item ≠ .notice .power) = q.filter (fun e => e.item ≠ .notice .power ∧ e.item ≠ .state) := by
  have rest : (q.filter fun e => e.item ≠ .notice .power ∧ e.item ≠ .state).filter (fun e => e.item ≠ .notice .power) =
      q.filter (fun e => e.item ≠ .notice .power ∧ e.item ≠ .state) :=
    List.filter_eq_self.mpr fun e mem => by
      have kept := (List.mem_filter.mp mem).2
      simp only [decide_eq_true_eq] at kept ⊢
      exact kept.1
  unfold snqDying
  dsimp only
  split
  next e found =>
    have item : e.item = .notice .power := by simpa using List.find?_some found
    rw [List.filter_cons_of_neg (by simp [Entry.remark, item]), rest]
  next =>
    split
    · rw [List.filter_cons_of_neg (by simp), rest]
    · exact rest

/-- R27, R152: u is the part after an entry of s to DYING. -/
structure EnteredDying (s u : State) : Prop where
  dying   : u.stu.dying = true
  timer   : u.stateTimer = .stopped
  counted : 1 ≤ u.stu.total
  noState : ∀ e ∈ u.snq, e.item ≠ .state
  head    : s.isUp .west = true ∨ s.isUp .east = true →
    ∃ e rest, u.snq = e :: rest ∧ e.item = .notice .power ∧ (s.isUp .west = true → e.west = true) ∧ (s.isUp .east = true → e.east = true)
  others  : u.snq.filter (fun e => e.item ≠ .notice .power) = s.snq.filter (fun e => e.item ≠ .notice .power ∧ e.item ≠ .state)

section
variable {s : State}

/-- R154: settling the alarms moves neither the power state, nor the queue, nor the STATE period timer. -/
theorem State.settleAlarms_power (s : State) :
    s.settleAlarms.stu.dying = s.stu.dying ∧ s.settleAlarms.snq = s.snq ∧ s.settleAlarms.stateTimer = s.stateTimer := by
  refine ⟨s.settleAlarms_dying, ?_, ?_⟩
  all_goals rw [State.settleAlarms_eq]

theorem State.enterDying_dying (dying : s.stu.dying = true) : s.enterDying = s := if_pos dying

/-- R27, R152: an entry to DYING while the power state is NORMAL, with the alarms settled. -/
theorem State.enterDying_settled (running : s.running = true) (normal : s.stu.dying = false) :
    EnteredDying s s.enterDying.settleAlarms := by
  have entered : s.enterDying = { s with
      stu := { s.stu with dying := true }
      snq := snqDying (s.isUp .west) (s.isUp .east) s.snq
      stateTimer := .stopped } := if_neg (by rw [normal]; nofun)
  have dying : s.enterDying.settleAlarms.stu.dying = true := by
    rw [State.settleAlarms_dying, entered]
  have counted : 1 ≤ s.enterDying.settleAlarms.stu.total := by
    have held : s.enterDying.stu.dying = true := by rw [entered]
    rw [State.settleAlarms_total (by rw [entered]; exact running), held]
    exact Nat.le_add_left ..
  rw [State.settleAlarms_eq] at dying counted ⊢
  refine ⟨dying, by rw [entered], counted, ?_, fun up => ?_, ?_⟩
  all_goals dsimp only; rw [entered]
  · exact snqDying_no_state _ _ _
  · exact snqDying_head up _
  · exact snqDying_others _ _ _

/-! ### The return to NORMAL (R153) -/

/-- R153: what the return to NORMAL takes. -/
theorem Stu.allPowerGood_iff (u : Stu) : u.allPowerGood = true ↔ ∀ n : Fin 12, u.lines[n].fn = .powerGood → u.lines[n].level = true := by
  rw [Stu.allPowerGood, List.all_eq_true]
  refine forall_congr' fun n => ?_
  simp only [List.mem_finRange, true_imp_iff, Bool.or_eq_true, bne_iff_ne]
  exact imp_iff_not_or.symm

theorem State.batteryRevived_iff (s : State) :
    s.batteryRevived = true ↔
      s.settings.dyingLevel = 0 ∨ ∃ v, s.smp.readings[(6 : Fin 10)] = some v ∧ s.settings.reviveLevel ≤ v := by
  rw [State.batteryRevived, Bool.or_eq_true, decide_eq_true_eq]
  refine or_congr_right ?_
  cases s.smp.readings[(6 : Fin 10)] with
  | none => simp
  | some v => simp

/-- R153, R157: u is the part after a return of s to NORMAL. -/
structure ReturnedToNormal (s u : State) : Prop where
  normal : u.stu.dying = false
  timer  : u.stateTimer = .running (1000 * s.settings.statePeriod)
  asked  : s.isUp .west = true ∨ s.isUp .east = true → (∃ e ∈ u.snq, e.item = .notice .power) ∧ ∃ e ∈ u.snq, e.item = .state

/-- R25: two items asked for one after the other both stand in the queue. -/
theorem snqAsk_both {w x : Bool} (up : w = true ∨ x = true) (first second : Item) (q : List Entry) :
    (∃ e ∈ snqAsk second false w x (snqAsk first false w x q), e.item = first) ∧
      ∃ e ∈ snqAsk second false w x (snqAsk first false w x q), e.item = second := by
  obtain ⟨e, mem, item, -⟩ := snqAsk_marks_up (item := first) (prompt := false) (q := q) up
  obtain ⟨e', mem', same, -⟩ := snqAsk_keeps_entry second false w x mem
  obtain ⟨e'', mem'', item'', -⟩ := snqAsk_marks_up (item := second) (prompt := false) (q := snqAsk first false w x q) up
  exact ⟨⟨e', mem', same.trans item⟩, e'', mem'', item''⟩

theorem State.returnToNormal_returned (s : State) : ReturnedToNormal s s.returnToNormal := by
  refine ⟨rfl, rfl, fun up => ?_⟩
  unfold State.returnToNormal
  dsimp only
  split
  · exact (snqAsk_both up .state (.notice .power) s.snq).symm
  · exact snqAsk_both up (.notice .power) .state s.snq

theorem ReturnedToNormal.settleAlarms {u : State} (h : ReturnedToNormal s u) : ReturnedToNormal s u.settleAlarms := by
  obtain ⟨normal, timer, asked⟩ := h
  refine ⟨u.settleAlarms_dying.trans normal, ?_, fun up => ?_⟩
  all_goals rw [State.settleAlarms_eq]
  · exact timer
  · exact asked up

/-- R153: while the power state is DYING it returns to NORMAL exactly when every POWER_GOOD line and the battery allow it. -/
theorem State.judgeRevival_dying (dying : s.stu.dying = true) :
    s.judgeRevival = if s.stu.allPowerGood = true ∧ s.batteryRevived = true then s.returnToNormal else s := by
  unfold State.judgeRevival
  rw [dying, Bool.true_and]
  simp only [Bool.and_eq_true]

theorem State.judgeRevival_normal (normal : s.stu.dying = false) : s.judgeRevival = s := by
  unfold State.judgeRevival
  rw [normal]
  rfl

/-- R153: with the alarms settled after it. -/
theorem State.judgeRevival_settled (dying : s.stu.dying = true) :
    (s.judgeRevival.settleAlarms.stu.dying = false ↔ s.stu.allPowerGood = true ∧ s.batteryRevived = true) ∧
      (s.judgeRevival.settleAlarms.stu.dying = false → ReturnedToNormal s s.judgeRevival.settleAlarms) := by
  rw [State.judgeRevival_dying dying]
  split
  next allowed =>
    have returned := s.returnToNormal_returned.settleAlarms
    exact ⟨iff_of_true returned.normal allowed, fun _ => returned⟩
  next stands =>
    have still : s.settleAlarms.stu.dying ≠ false := by
      rw [State.settleAlarms_dying, dying]
      nofun
    exact ⟨iff_of_false still stands, fun normal => absurd normal still⟩

/-- R152, R153: the power state moves no line. -/
theorem State.enterDying_lines (s : State) : s.enterDying.stu.lines = s.stu.lines := by
  unfold State.enterDying
  split <;> rfl

theorem State.judgeRevival_lines (s : State) : s.judgeRevival.stu.lines = s.stu.lines := by
  unfold State.judgeRevival
  split <;> rfl

/-! ### POWER_GOOD lines -/

variable {n : Fin 12}

/-- The level of line n in its record and on its pin. -/
def State.levelSet (s : State) (n : Fin 12) (level : Bool) : State :=
  (s.pinSet n level).modLine n fun r => { r with level := level }

theorem State.levelSet_line (s : State) (n : Fin 12) (level : Bool) (m : Fin 12) :
    (s.levelSet n level).stu.lines[m] = if n = m then { s.stu.lines[n] with level := level } else s.stu.lines[m] :=
  State.modLine_line ..

section
variable {s₀ : State} {t : Stamp} (now : s = s₀.moment t) (running : s.running = true) (powerGood : s.stu.lines[n].fn = .powerGood)
include now running powerGood

/-- R152: in RUNNING a POWER_GOOD line that goes LOW. -/
theorem exec_powerGood_low (high : s.stu.lines[n].level = true) :
    exec (.hutLineChange n false t) s₀ = .next (s.levelSet n false).enterDying.settleAlarms := by
  rw [exec_hutLineChange_taken now running (by rw [high]; nofun), State.lineEvent_powerGood _ _ (by exact powerGood)]
  rfl

/-- R153: in RUNNING a POWER_GOOD line that goes HIGH. -/
theorem exec_powerGood_high (low : s.stu.lines[n].level = false) :
    exec (.hutLineChange n true t) s₀ = .next (s.levelSet n true).judgeRevival.settleAlarms := by
  rw [exec_hutLineChange_taken now running (by rw [low]; nofun), State.lineEvent_powerGood _ _ (by exact powerGood)]
  rfl

end

theorem State.levelSet_allPowerGood (s : State) (n : Fin 12) :
    (s.levelSet n true).stu.allPowerGood = true ↔
      ∀ m : Fin 12, m ≠ n → s.stu.lines[m].fn = .powerGood → s.stu.lines[m].level = true := by
  rw [Stu.allPowerGood_iff]
  refine forall_congr' fun m => ?_
  rw [State.levelSet_line]
  split
  next own => simp [own, -Fin.getElem_fin]
  next other => simp [Ne.symm other, -Fin.getElem_fin]

/-- With the alarms settled the line has the level that it took. -/
theorem State.levelSet_settled {u : State} {level : Bool} (powerGood : s.stu.lines[n].fn = .powerGood)
    (lines : u.stu.lines = (s.levelSet n level).stu.lines) : u.settleAlarms.stu.lines[n].level = level := by
  obtain ⟨after, line, stands⟩ := u.settleAlarms_line n
  have own := (s.levelSet_line n level n).trans (if_pos rfl)
  rw [line, stands, lines, own]
  rw [lines, own, powerGood]
  nofun

end

/-- Settles O44: the line has its level, and the power state is judged from there. -/
theorem powerGoodLineMovesPowerState : Obligations.PowerGoodLineMovesPowerState := by
  intro n t s₀ s now running powerGood
  cases before : s.stu.lines[n].level with
  | true =>
    let v := s.levelSet n false
    refine ⟨_, exec_powerGood_low now running powerGood before, State.levelSet_settled powerGood v.enterDying_lines,
      fun _ normal => ?_, fun _ dying => ?_, nofun, nofun⟩
    · obtain ⟨dying, timer, counted, noState, head, -⟩ := State.enterDying_settled (s := v) running normal
      exact ⟨dying, timer, counted, noState, head⟩
    · have stands : v.enterDying = v := State.enterDying_dying dying
      obtain ⟨still, queue, timer⟩ := v.settleAlarms_power
      rw [stands]
      exact ⟨still.trans dying, queue, timer⟩
  | false =>
    let v := s.levelSet n true
    refine ⟨_, exec_powerGood_high now running powerGood before, State.levelSet_settled powerGood v.judgeRevival_lines, nofun, nofun,
      fun _ dying => ?_, fun _ normal => ?_⟩
    · obtain ⟨allowed, returned⟩ := State.judgeRevival_settled (s := v) dying
      refine ⟨allowed.trans (and_congr (s.levelSet_allPowerGood n) v.batteryRevived_iff), fun normal => ?_⟩
      obtain ⟨-, timer, asked⟩ := returned normal
      exact ⟨timer, asked⟩
    · have stands : v.judgeRevival = v := State.judgeRevival_normal normal
      obtain ⟨still, queue, timer⟩ := v.settleAlarms_power
      rw [stands]
      exact ⟨still.trans normal, queue, timer⟩

end Sys2Proof.Machine
end

section
/-! SUPPORT. The readings that STU judges (R148, R150 to R153): cabinet temperature, filter pressure and battery, each with the alarms settled
after it. It settles O32. -/

namespace Sys2Proof.Machine
open Sys2Proof

/-! ### HOT and the FAN lines (R148) -/

/-- R148: HOT stands until a reading of the limit less the hysteresis. -/
theorem hotAfter_eq (limit hysteresis : Nat) (before : Bool) (v : Nat) :
    hotAfter limit hysteresis before v =
      if before then decide (¬ (v : Int) ≤ (limit : Int) - hysteresis) else decide (v ≥ limit) := by
  unfold hotAfter
  cases before with
  | true =>
    simp only [if_true, decide_eq_decide]
    omega
  | false => rfl

/-- R150: FILTER stands until a reading below the limit less the margin. -/
theorem filterAfter_eq (limit margin : Nat) (before : Bool) (v : Nat) :
    filterAfter limit margin before v =
      if before then decide (¬ (v : Int) < (limit : Int) - margin) else decide (v ≥ limit) := by
  unfold filterAfter
  cases before with
  | true =>
    simp only [if_true, decide_eq_decide]
    omega
  | false => rfl

/-- R25: an item asked for twice at one event stands as if it had been asked for once. -/
theorem snqAsk_again (item : Item) (prompt w x : Bool) (q : List Entry) :
    snqAsk item prompt w x (snqAsk item prompt w x q) = snqAsk item prompt w x q := by
  by_cases found : ∃ e ∈ q, e.item = item
  · obtain ⟨e, mem, same⟩ := found
    have still : ∃ e' ∈ snqAsk item prompt w x q, e'.item = item := by
      obtain ⟨e', mem', same', -⟩ := snqAsk_keeps_entry item prompt w x mem
      exact ⟨e', mem', same'.trans same⟩
    rw [snqAsk_of_found _ _ _ still, snqAsk_of_found _ _ _ ⟨e, mem, same⟩, List.map_map]
    refine List.map_congr_left fun a _ => ?_
    by_cases own : a.item = item
    · simp [own, Entry.remark]
    · simp [own]
  · have absent : ∀ e ∈ q, e.item ≠ item := fun e mem same => found ⟨e, mem, same⟩
    rw [snqAsk_of_absent _ _ _ absent]
    split
    · rw [snqAsk_of_found (item := item) _ _ _ ⟨_, List.mem_append_right _ (List.mem_singleton_self _), rfl⟩, List.map_append]
      refine congr (congrArg HAppend.hAppend ?_) (by simp [Entry.remark])
      exact (List.map_congr_left fun e mem => if_neg (absent e mem)).trans (List.map_id' q)
    · rw [snqAsk_of_absent _ _ _ absent, if_neg ‹_›]

/-- R148, R151: HOT changed, the FAN lines driven by it, and a CLIMATE notice asked for. -/
def State.hotSet (s : State) (hot : Bool) : State :=
  { s.withNotice .climate with stu := { s.stu with hot := hot, lines := driveFans hot s.stu.lines } }

/-- R148: a change of HOT drives every FAN line. -/
theorem State.hotSet_line (s : State) (hot : Bool) {n : Fin 12} (fan : s.stu.lines[n].fn = .fan) :
    (s.hotSet hot).settleStall.settleAlarms.stu.lines[n].level = (hot || s.stu.lines[n].requested) := by
  have driven : (s.hotSet hot).stu.lines[n] = { s.stu.lines[n] with level := hot || s.stu.lines[n].requested } :=
    (driveFans_line hot s.stu.lines n).trans (if_pos fan)
  obtain ⟨level, _, _, line, stands⟩ := (s.hotSet hot).stallsSettled_keeps n
  rw [driven] at line stands
  rw [line, stands (by rw [fan]; nofun)]

/-- R148, R151: u is the part after a temperature reading of s that leaves HOT as given. -/
structure HotJudged (s u : State) (hot : Bool) : Prop where
  hot    : u.stu.hot = hot
  fans   : u.stu.hot ≠ s.stu.hot → ∀ n : Fin 12, s.stu.lines[n].fn = .fan → u.stu.lines[n].level = (u.stu.hot || s.stu.lines[n].requested)
  queue  : u.snq = if u.stu.hot = s.stu.hot then s.snq else (s.withNotice .climate).snq
  filter : u.stu.filter = s.stu.filter
  dying  : u.stu.dying = s.stu.dying
  timer  : u.stateTimer = s.stateTimer

section
variable {s : State} (running : s.running = true)
include running

theorem State.judgeHot_eq (v : Nat) :
    s.judgeHot v =
      if hotAfter s.settings.hotLimit s.settings.hotHysteresis s.stu.hot v = s.stu.hot then s
      else (s.hotSet (hotAfter s.settings.hotLimit s.settings.hotHysteresis s.stu.hot v)).settleStall := by
  unfold State.judgeHot
  dsimp only
  rw [State.askNotice_eq _ _ _ (by exact running)]
  rfl

/-- R151: the notice of HOT is the notice of the stalls that follow from it. -/
theorem State.hotSet_snq (hot : Bool) : (s.hotSet hot).settleStall.settleAlarms.snq = (s.withNotice .climate).snq := by
  have once : ((s.hotSet hot).withNotice .climate).snq = (s.hotSet hot).snq := snqAsk_again ..
  rw [State.stallsSettled_snq (by exact running), once, ite_self]
  rfl

theorem State.judgeHot_settled (v : Nat) :
    HotJudged s (s.judgeHot v).settleAlarms (hotAfter s.settings.hotLimit s.settings.hotHysteresis s.stu.hot v) := by
  rw [State.judgeHot_eq running]
  split
  next same =>
    obtain ⟨hot, filter, dying, -⟩ := s.settleAlarms_sameButAlarms
    obtain ⟨-, queue, timer⟩ := s.settleAlarms_power
    exact ⟨hot.trans same.symm, fun changed => absurd hot changed, queue.trans (if_pos hot).symm, filter, dying, timer⟩
  next changed =>
    obtain ⟨hot, filter, dying, -⟩ :=
      (s.hotSet (hotAfter s.settings.hotLimit s.settings.hotHysteresis s.stu.hot v)).stallsSettled_frame
    refine ⟨hot, fun _ n fan => ?_, ?_, filter, dying, State.stallsSettled_stateTimer _⟩
    · rw [s.hotSet_line _ fan, hot]
      rfl
    · rw [State.hotSet_snq running, hot]
      exact (if_neg changed).symm

/-! ### FILTER (R150) -/

/-- R150, R151: a filter reading sets FILTER, and asks for a CLIMATE notice where it changes. -/
theorem State.judgeFilter_eq (v : Nat) :
    s.judgeFilter v = { s with
      stu := { s.stu with filter := filterAfter s.settings.filterLimit s.settings.siteMargin s.stu.filter v }
      snq := if filterAfter s.settings.filterLimit s.settings.siteMargin s.stu.filter v = s.stu.filter then s.snq
        else (s.withNotice .climate).snq } := by
  unfold State.judgeFilter
  dsimp only
  split
  next same => rw [same]
  next => exact State.askNotice_eq _ _ _ (by exact running)

end

/-! ### The battery (R152, R153) -/

/-- R152, R153: u is the part after a battery reading of s that leaves DYING as given. -/
structure BatteryJudged (s u : State) (dying : Bool) : Prop where
  dying   : u.stu.dying = dying
  stands  : u.stu.dying = s.stu.dying → u.snq = s.snq ∧ u.stateTimer = s.stateTimer
  enters  : s.stu.dying = false → u.stu.dying = true → EnteredDying s u
  returns : s.stu.dying = true → u.stu.dying = false → ReturnedToNormal s u

section
variable {s : State}

/-- R153: the battery allows the return by the reading it has. -/
theorem State.batteryRevived_of_reading {v : Nat} (reading : s.smp.readings[(6 : Fin 10)] = some v) :
    s.batteryRevived = true ↔ s.settings.dyingLevel = 0 ∨ s.settings.reviveLevel ≤ v := by
  rw [State.batteryRevived_iff, reading]
  refine or_congr_right ⟨fun ⟨v', same, revived⟩ => ?_, fun revived => ⟨v, rfl, revived⟩⟩
  exact Option.some.inj same ▸ revived

/-- R152: a battery reading moves no climate alarm. -/
theorem State.judgeBattery_climate (s : State) (v : Nat) :
    (s.judgeBattery v).stu.hot = s.stu.hot ∧ (s.judgeBattery v).stu.filter = s.stu.filter := by
  unfold State.judgeBattery State.judgeRevival State.enterDying
  split
  · split <;> exact ⟨rfl, rfl⟩
  · split <;> exact ⟨rfl, rfl⟩

/-- R153: a battery reading while the power state is DYING. -/
theorem State.judgeBattery_dying {v : Nat} (reading : s.smp.readings[(6 : Fin 10)] = some v) (dying : s.stu.dying = true) :
    BatteryJudged s (s.judgeBattery v).settleAlarms
      (decide (¬ ((∀ n : Fin 12, s.stu.lines[n].fn = .powerGood → s.stu.lines[n].level = true) ∧
        (s.settings.dyingLevel = 0 ∨ s.settings.reviveLevel ≤ v)))) := by
  have judged : s.judgeBattery v = s.judgeRevival := if_pos dying
  obtain ⟨allowed, returned⟩ := State.judgeRevival_settled dying
  rw [Stu.allPowerGood_iff, State.batteryRevived_of_reading reading] at allowed
  rw [judged]
  refine ⟨?_, fun same => ?_, fun normal => absurd (dying.symm.trans normal) Bool.true_eq_false.mp, fun _ => returned⟩
  · rw [Bool.eq_iff_iff, decide_eq_true_eq, ← allowed, Bool.not_eq_false]
  · have stands : s.judgeRevival = s := by
      rw [State.judgeRevival_dying dying]
      refine if_neg fun both => ?_
      rw [Stu.allPowerGood_iff, State.batteryRevived_of_reading reading, ← allowed, same, dying] at both
      cases both
    obtain ⟨-, queue, timer⟩ := s.settleAlarms_power
    rw [stands]
    exact ⟨queue, timer⟩

/-- R152: a battery reading while the power state is NORMAL. -/
theorem State.judgeBattery_normal (running : s.running = true) (v : Nat) (normal : s.stu.dying = false) :
    BatteryJudged s (s.judgeBattery v).settleAlarms (decide (s.settings.dyingLevel ≠ 0 ∧ v < s.settings.dyingLevel)) := by
  have judged : s.judgeBattery v = if s.settings.dyingLevel ≠ 0 ∧ v < s.settings.dyingLevel then s.enterDying else s :=
    if_neg (by rw [normal]; nofun)
  rw [judged]
  split
  next low =>
    have entered := State.enterDying_settled running normal
    exact ⟨entered.dying.trans (decide_eq_true low).symm, fun same => absurd ((entered.dying.symm.trans same).trans normal) nofun,
      fun _ _ => entered, fun dying => absurd (dying.symm.trans normal) nofun⟩
  next enough =>
    obtain ⟨dying, queue, timer⟩ := s.settleAlarms_power
    exact ⟨(dying.trans normal).trans (decide_eq_false enough).symm, fun _ => ⟨queue, timer⟩,
      fun _ entered => absurd ((entered.symm.trans dying).trans normal) nofun, fun dying => absurd (dying.symm.trans normal) nofun⟩

theorem State.judgeBattery_settled (running : s.running = true) {v : Nat} (reading : s.smp.readings[(6 : Fin 10)] = some v) :
    BatteryJudged s (s.judgeBattery v).settleAlarms
      (if s.stu.dying then
        decide (¬ ((∀ n : Fin 12, s.stu.lines[n].fn = .powerGood → s.stu.lines[n].level = true) ∧
          (s.settings.dyingLevel = 0 ∨ s.settings.reviveLevel ≤ v)))
      else decide (s.settings.dyingLevel ≠ 0 ∧ v < s.settings.dyingLevel)) := by
  split
  next dying => exact State.judgeBattery_dying reading dying
  next normal => exact State.judgeBattery_normal running v (Bool.eq_false_iff.mpr normal)

/-! ### The channel of a reading (R55) -/

variable {i : Fin 10} (v : Nat)

theorem State.offerReading_temperature (channel : i.val = 5) : s.offerReading i v = s.judgeHot v := by
  rw [State.offerReading, dif_neg (by omega), if_pos channel]

theorem State.offerReading_battery (channel : i.val = 6) : s.offerReading i v = s.judgeBattery v := by
  rw [State.offerReading, dif_neg (by omega), if_neg (by omega), if_pos channel]

theorem State.offerReading_filter (channel : i.val = 9) : s.offerReading i v = s.judgeFilter v := by
  rw [State.offerReading, dif_neg (by omega), if_neg (by omega), if_neg (by omega), if_pos channel]

/-- R55: no other reading moves STU or its timer. -/
theorem State.offerReading_other (running : s.running = true) (temperature : i.val ≠ 5) (battery : i.val ≠ 6) (filter : i.val ≠ 9) :
    (s.offerReading i v).stu = s.stu ∧ (s.offerReading i v).stateTimer = s.stateTimer := by
  unfold State.offerReading
  split
  · rw [State.judgeBias_eq _ _ _ running]
    exact ⟨rfl, rfl⟩
  · exact ⟨rfl, rfl⟩

end

/-- Settles O32: the 32nd conversion offers its reading to the judgement of its channel, from a state that differs from s in SMP alone. -/
theorem siteReadingsJudged : Obligations.SiteReadingsJudged := by
  intro code t s₀ s now running scanning block slot idle full
  have run : exec (.sharedSlot code t) s₀ = .next (s.sharedSlot code t) := by
    rw [now]
    rfl
  have here := (s.atSlot_iff 8).mpr ⟨running, scanning, block, slot⟩
  let v := (s.smp.slowSum[s.smp.slowPtr] + code.toNat) / 32
  let w : State := { s with smp := s.smp.cycleDone.slowConverted code.toNat }
  have active : w.running = true := running
  rw [State.sharedSlot_reading here idle full] at run
  refine ⟨(w.offerReading s.smp.slowPtr v).settleAlarms, v, run, rfl, fun temperature => ?hot, fun filter => ?filter,
    fun battery => ?battery, fun noTemperature noBattery noFilter => ?other⟩
  case hot =>
    obtain ⟨hot, fans, queue, filter, dying, timer⟩ := State.judgeHot_settled active v
    rw [State.offerReading_temperature v temperature, ← hotAfter_eq]
    exact ⟨hot, fans, queue, filter, dying, timer⟩
  case filter =>
    obtain ⟨hot, filtered, dying, -⟩ := (w.judgeFilter v).settleAlarms_sameButAlarms
    obtain ⟨-, queue, timer⟩ := (w.judgeFilter v).settleAlarms_power
    rw [State.offerReading_filter v filter, ← filterAfter_eq]
    rw [State.judgeFilter_eq active] at hot filtered dying queue timer ⊢
    refine ⟨filtered, queue.trans ?_, hot, dying, timer⟩
    rw [filtered]
    rfl
  case battery =>
    have channel : (6 : Fin 10) = s.smp.slowPtr := (Fin.ext battery).symm
    have reading : w.smp.readings[(6 : Fin 10)] = some v :=
      (congrArg (fun i : Fin 10 => w.smp.readings[i]) channel).trans (Smp.slowConverted_reading s.smp.cycleDone code.toNat full).2.2
    obtain ⟨dying, stands, enters, returns⟩ := State.judgeBattery_settled active reading
    obtain ⟨hot, filter, -⟩ := (w.judgeBattery v).settleAlarms_sameButAlarms
    obtain ⟨stillHot, stillFilter⟩ := w.judgeBattery_climate v
    rw [State.offerReading_battery v battery]
    refine ⟨dying, stands, fun normal entered => ?_, fun wasDying normal => ?_, hot.trans stillHot, filter.trans stillFilter⟩
    · obtain ⟨-, timer, counted, noState, head, others⟩ := enters normal entered
      exact ⟨timer, counted, noState, head, others⟩
    · obtain ⟨-, timer, asked⟩ := returns wasDying normal
      exact ⟨timer, asked⟩
  case other =>
    obtain ⟨hot, filter, -⟩ := (w.offerReading s.smp.slowPtr v).settleAlarms_sameButAlarms
    obtain ⟨dying, -, timer⟩ := (w.offerReading s.smp.slowPtr v).settleAlarms_power
    obtain ⟨stu, stands⟩ := State.offerReading_other v active noTemperature noBattery noFilter
    rw [stu] at hot filter dying
    exact ⟨hot, filter, dying, timer.trans stands⟩

end Sys2Proof.Machine
end

section
/-! SUPPORT. The edges of a TACHO line (R147): what a rising edge measures, and the stall conditions that follow from the period alone (R149).
It settles O43. -/

namespace Sys2Proof.Machine
open Sys2Proof

/-- R154: with the stalls and the alarms settled an ALARM line follows the total. -/
theorem State.stallsSettled_alarm {s : State} (running : s.running = true) {m : Fin 12} (alarm : s.stu.lines[m].fn = .alarm) :
    s.settleStall.settleAlarms.stu.lines[m].level = decide (0 < s.settleStall.settleAlarms.stu.total) := by
  have line : s.settleStall.stu.lines[m].fn = .alarm := by
    obtain ⟨_, settled⟩ := s.settleStall_changes
    obtain ⟨_, _, moved⟩ := s.stu.lines[m].stallSettled_changes (s.stu.stalled m)
    rw [settled, Stu.settleStall_line, moved]
    exact alarm
  refine State.settleAlarms_alarm ?_ line
  rw [State.settleStall_eq running]
  exact running

/-! ### Rising edges (R147) -/

/-- R147: two edges with different stamps measure the time between them, up to 65,535 µs. -/
theorem tachoPeriod_eq {a t : Stamp} (apart : (t - a).toNat ≠ 0) : tachoPeriod a t = min 65535 (t - a).toNat := by
  unfold tachoPeriod interval
  omega

/-- R147: what a first edge leaves of the tacho's record. -/
theorem LineRec.tachoChange_first {r : LineRec} (t : Stamp) (first : r.lastEdge = none) :
    r.tachoChange true t = { r with level := true, lastEdge := some t, edgeTimer := .running 1000 } := by
  rw [LineRec.tachoChange, if_pos rfl, first]

/-- R147: what a rising edge after another leaves of it. -/
theorem LineRec.tachoChange_next {r : LineRec} {a t : Stamp} (last : r.lastEdge = some a) (apart : (t - a).toNat ≠ 0) :
    r.tachoChange true t =
      { r with level := true, lastEdge := some t, edgeTimer := .running 1000, period := min 65535 (t - a).toNat } := by
  rw [LineRec.tachoChange, if_pos rfl, last, ← tachoPeriod_eq apart]

/-- R147: an edge moves neither the stall timer nor FAN_STALL. -/
theorem LineRec.tachoChange_stall (r : LineRec) (level : Bool) (t : Stamp) :
    (r.tachoChange level t).stallTimer = r.stallTimer ∧ (r.tachoChange level t).fanStall = r.fanStall := by
  unfold LineRec.tachoChange
  split <;> exact ⟨rfl, rfl⟩

/-- R147: a rising edge of line n, before the stalls are settled. -/
def State.edgeRisen (s : State) (n : Fin 12) (t : Stamp) : State := (s.pinSet n true).modLine n fun r => r.tachoChange true t

section
variable {s : State} {n m : Fin 12} {t : Stamp}

theorem State.edgeRisen_own (s : State) (n : Fin 12) (t : Stamp) :
    (s.edgeRisen n t).stu.lines[n] = s.stu.lines[n].tachoChange true t :=
  (State.modLine_line ..).trans (if_pos rfl)

theorem State.edgeRisen_other (other : m ≠ n) : (s.edgeRisen n t).stu.lines[m] = s.stu.lines[m] :=
  (State.modLine_line ..).trans (if_neg other.symm)

theorem State.edgeRisen_stall (s : State) (n m : Fin 12) (t : Stamp) :
    (s.edgeRisen n t).stu.lines[m].stallTimer = s.stu.lines[m].stallTimer ∧
      (s.edgeRisen n t).stu.lines[m].fanStall = s.stu.lines[m].fanStall := by
  by_cases own : m = n
  · subst own
    rw [State.edgeRisen_own]
    exact LineRec.tachoChange_stall ..
  · rw [State.edgeRisen_other own]
    exact ⟨rfl, rfl⟩

variable (tacho : s.stu.lines[n].fn = .tacho)
include tacho

/-- R149: the stall conditions of the fans that are not paired with the tacho stand. -/
theorem State.edgeRisen_stalled (apart : s.stu.lines[m].fn ≠ .fan ∨ s.stu.lines[m].paired ≠ some n) :
    (s.edgeRisen n t).stu.stalled m = s.stu.stalled m := by
  rw [Bool.eq_iff_iff, Stu.stalled_iff, Stu.stalled_iff]
  by_cases own : m = n
  · subst own
    rw [State.edgeRisen_own, LineRec.tachoChange_fn, tacho]
    exact iff_of_false (fun h => nomatch h.1) (fun h => nomatch h.1)
  · rw [State.edgeRisen_other own]
    refine and_congr_right fun fan => exists_congr fun i => and_congr_right fun pair => ?_
    have other : i ≠ n := by
      rintro rfl
      exact apart.elim (· fan) (· pair)
    rw [State.edgeRisen_other other]

/-- R149: a line that the edge says nothing of stands as it was settled. -/
theorem State.edgeRisen_stands (settled : s.stu.settled) (apart : s.stu.lines[m].fn ≠ .fan ∨ s.stu.lines[m].paired ≠ some n) :
    (s.edgeRisen n t).stu.lines[m].stallSettled ((s.edgeRisen n t).stu.stalled m) = (s.edgeRisen n t).stu.lines[m] := by
  obtain ⟨timer, stall⟩ := s.edgeRisen_stall n m t
  obtain ⟨holds, ends⟩ := settled.2 m
  rw [State.edgeRisen_stalled tacho apart]
  refine LineRec.stallSettled_self (fun stalled => ?_) (fun moves => ?_)
  · rw [timer, stall]
    exact holds stalled
  · rw [timer, stall]
    exact ends moves

/-- R147, R149: with the stalls and the alarms settled no line but an ALARM line and a paired fan has moved further. -/
theorem State.edgeRisen_line (settled : s.stu.settled) (apart : s.stu.lines[m].fn ≠ .fan ∨ s.stu.lines[m].paired ≠ some n) :
    ∃ level, (s.edgeRisen n t).settleStall.settleAlarms.stu.lines[m] = { (s.edgeRisen n t).stu.lines[m] with level := level } ∧
      ((s.edgeRisen n t).stu.lines[m].fn ≠ .alarm → level = (s.edgeRisen n t).stu.lines[m].level) := by
  obtain ⟨level, line, stands⟩ := (s.edgeRisen n t).stallsSettled_line m
  rw [State.edgeRisen_stands tacho settled apart] at line
  exact ⟨level, line, stands⟩

theorem State.edgeRisen_tacho (settled : s.stu.settled) :
    (s.edgeRisen n t).settleStall.settleAlarms.stu.lines[n] = s.stu.lines[n].tachoChange true t := by
  obtain ⟨level, line, stands⟩ := State.edgeRisen_line (m := n) (t := t) tacho settled (.inl (by rw [tacho]; nofun))
  rw [line, stands, State.edgeRisen_own]
  rw [State.edgeRisen_own, LineRec.tachoChange_fn, tacho]
  nofun

/-- R149: a fan whose tacho turns has no stall. -/
theorem State.edgeRisen_turns (settled : s.stu.settled) (pair : s.stu.lines[m].paired = some n) (other : m ≠ n)
    (turns : (s.edgeRisen n t).settleStall.settleAlarms.stu.lines[n].period ≠ 0) :
    (s.edgeRisen n t).settleStall.settleAlarms.stu.lines[m].stallTimer = .stopped ∧
      (s.edgeRisen n t).settleStall.settleAlarms.stu.lines[m].fanStall = false := by
  have moves : (s.edgeRisen n t).stu.stalled m = false := by
    refine Bool.eq_false_iff.mpr fun stalled => ?_
    obtain ⟨-, i, pair', -, still⟩ := (Stu.stalled_iff _ _).mp stalled
    rw [State.edgeRisen_other other, pair] at pair'
    obtain rfl := Option.some.inj pair'
    rw [State.edgeRisen_tacho tacho settled, ← State.edgeRisen_own] at turns
    exact turns still
  obtain ⟨_, line, -⟩ := (s.edgeRisen n t).stallsSettled_line m
  rw [line, moves]
  exact ⟨rfl, rfl⟩

end

/-! ### The two edges -/

section
variable {s₀ s : State} {n : Fin 12} {t : Stamp} (now : s = s₀.moment t) (running : s.running = true) (tacho : s.stu.lines[n].fn = .tacho)
include now running tacho

theorem exec_tacho_rising (low : s.stu.lines[n].level = false) :
    exec (.hutLineChange n true t) s₀ = .next (s.edgeRisen n t).settleStall.settleAlarms := by
  rw [exec_hutLineChange_taken now running (by rw [low]; nofun), State.lineEvent_tacho _ _ (by exact tacho)]
  rfl

/-- R147: a falling edge is nothing that the stalls or the alarms read. -/
theorem exec_tacho_falling (sound : s.siteSound) (high : s.stu.lines[n].level = true) :
    exec (.hutLineChange n false t) s₀ = .next (s.levelSet n false) := by
  have still : (s.levelSet n false).siteSound :=
    State.levelTaken_siteSound (s := s.pinSet n false) (level := false) (flag := s.stu.lines[n].flag) (n := n)
      (by rw [show (s.pinSet n false).stu.lines[n].fn = _ from tacho]; nofun)
      (by rw [show (s.pinSet n false).stu.lines[n].fn = _ from tacho]; nofun) (by exact sound)
  have falls : (s.pinSet n false).modLine n (fun r => r.tachoChange false t) = s.levelSet n false := rfl
  rw [exec_hutLineChange_taken now running (by rw [high]; nofun), State.lineEvent_tacho _ _ (by exact tacho), falls,
    State.settleStall_self still.settled.1, State.settleAlarms_self still]

end

/-- Settles O43: the edge is the tacho's own record, and the stalls and alarms that are settled after it move the lines that follow from it. -/
theorem tachoMeasuresRisingEdges : Obligations.TachoMeasuresRisingEdges := by
  intro n t s₀ s now sound running tacho
  refine ⟨fun low apart => ?_, fun high => exec_tacho_falling now running tacho sound high⟩
  have settled := sound.settled.1
  let v := s.edgeRisen n t
  obtain ⟨hot, filter, dying, frame⟩ := v.stallsSettled_frame
  refine ⟨_, exec_tacho_rising now running tacho low, (State.edgeRisen_tacho tacho settled).trans ?own,
    fun m other => ⟨fun alarm => ?alarm, fun fan => ?fan, fun _ pair => State.edgeRisen_turns tacho settled pair other,
      fun quiet unpaired => ?quiet⟩, ?queue, hot, filter, dying, ?frame⟩
  case own =>
    cases last : s.stu.lines[n].lastEdge with
    | none => exact LineRec.tachoChange_first t last
    | some a => exact LineRec.tachoChange_next last (apart a last)
  case alarm =>
    have same : v.stu.lines[m] = s.stu.lines[m] := State.edgeRisen_other other
    obtain ⟨level, line, -⟩ := State.edgeRisen_line (m := m) (t := t) tacho settled (.inl (by rw [alarm]; nofun))
    rw [← State.stallsSettled_alarm (s := v) running (same ▸ alarm), line, same]
  case fan =>
    have same : v.stu.lines[m] = s.stu.lines[m] := State.edgeRisen_other other
    obtain ⟨level, timer, stall, line, stands⟩ := v.stallsSettled_keeps m
    rw [same] at line stands
    rw [line, stands (by rw [fan]; nofun)]
  case quiet =>
    have same : v.stu.lines[m] = s.stu.lines[m] := State.edgeRisen_other other
    obtain ⟨level, line, stands⟩ := State.edgeRisen_line (m := m) (t := t) tacho settled unpaired
    rw [same] at line stands
    rw [line, stands quiet]
  case queue =>
    have before (m : Fin 12) : v.stu.lines[m].fanStall = s.stu.lines[m].fanStall := (s.edgeRisen_stall n m t).2
    have asked := State.stallsSettled_snq (s := v) running
    simp only [before] at asked
    exact asked
  case frame => exact congrArg (fun w : State => { w with stu := s.stu, snq := s.snq }) frame

end Sys2Proof.Machine
end

section
/-! SUPPORT. The requests on the hut lines (R145, R146): their mask, what each leaves of a line, and their answers. It settles O52. -/

namespace Sys2Proof.Machine
open Sys2Proof

/-! ### The mask (R170) -/

/-- The lines that a mask names. -/
def namedLines (mask : Nat) : Vector Bool 12 := .ofFn fun n => mask.testBit n.val

theorem namedLines_get (mask : Nat) (n : Fin 12) : (namedLines mask)[n] = mask.testBit n.val := by
  simp [namedLines]

theorem maskArg_be16 {mask : Nat} (small : mask < 4096) : maskArg (be16 mask) = some (namedLines mask) := by
  dsimp only [be16, maskArg]
  rw [val16_be16 (by omega), if_pos small]
  rfl

/-- R170: the two bytes of a LINE MASK, and their bits. -/
theorem lineMask_bytes (f : Fin 12 → Bool) : ∃ hi lo : Byte, lineMask f = [hi, lo] ∧ ∀ n : Fin 12, (hi ++ lo).getLsbD n.val = f n :=
  ⟨_, _, rfl, fun n => (be16_getLsbD _ (by omega)).trans (maskValue_testBit f n)⟩

/-! ### LINES_SET and LINES_CLEAR (R146) -/

/-- R146: the lines as a LINES_SET or LINES_CLEAR of a mask drives them, before the stalls are settled. -/
def State.linesDriven (s : State) (level : Bool) (mask : Nat) : State := { s with stu := s.stu.request level (namedLines mask) }

section
variable {s : State} {level : Bool} {mask : Nat} {n : Fin 12}

/-- R146, R148: what the request asks of an OUT or FAN line that it names. -/
theorem State.linesDriven_named (named : mask.testBit n.val = true ∧ (s.stu.lines[n].fn = .out ∨ s.stu.lines[n].fn = .fan)) :
    (s.linesDriven level mask).stu.lines[n] =
      { s.stu.lines[n] with
        requested := level, level := if s.stu.lines[n].fn = .fan ∧ s.stu.hot = true then true else level } := by
  obtain ⟨bit, output⟩ := named
  have drives : (if s.stu.lines[n].fn = .fan then s.stu.hot || level else level) =
      if s.stu.lines[n].fn = .fan ∧ s.stu.hot = true then true else level := by
    cases hot : s.stu.hot <;> simp
  refine (Stu.request_line ..).trans ((if_pos ?_).trans (by rw [drives]))
  rw [namedLines_get, bit]
  simpa using output

theorem State.linesDriven_unnamed (unnamed : ¬ (mask.testBit n.val = true ∧ (s.stu.lines[n].fn = .out ∨ s.stu.lines[n].fn = .fan))) :
    (s.linesDriven level mask).stu.lines[n] = s.stu.lines[n] := by
  refine (Stu.request_line ..).trans (if_neg fun named => unnamed ?_)
  rw [namedLines_get] at named
  simpa using named

/-- R146: of a line the request moves the two levels alone, and of an ALARM line nothing. -/
theorem State.linesDriven_keeps (s : State) (level : Bool) (mask : Nat) (n : Fin 12) :
    ∃ requested driven, (s.linesDriven level mask).stu.lines[n] = { s.stu.lines[n] with requested := requested, level := driven } ∧
      (s.stu.lines[n].fn = .alarm → driven = s.stu.lines[n].level) := by
  by_cases named : mask.testBit n.val = true ∧ (s.stu.lines[n].fn = .out ∨ s.stu.lines[n].fn = .fan)
  · refine ⟨_, _, State.linesDriven_named named, fun alarm => ?_⟩
    rcases named.2 with out | fan
    · exact absurd (alarm.symm.trans out) nofun
    · exact absurd (alarm.symm.trans fan) nofun
  · exact ⟨_, _, State.linesDriven_unnamed named, fun _ => rfl⟩

/-- R146: the part after a LINES_SET or LINES_CLEAR, but for the slot and its answer. -/
def State.linesTaken (s : State) (level : Bool) (mask : Nat) : State := (s.linesDriven level mask).settleStall.settleAlarms

/-- R149, R154: with the stalls and the alarms settled. -/
theorem State.linesTaken_line (s : State) (level : Bool) (mask : Nat) (n : Fin 12) :
    ∃ after, (s.linesTaken level mask).stu.lines[n] =
      { (s.linesDriven level mask).stu.lines[n].stallSettled ((s.linesDriven level mask).stu.stalled n) with level := after } ∧
      (s.stu.lines[n].fn ≠ .alarm → after = (s.linesDriven level mask).stu.lines[n].level) := by
  obtain ⟨after, line, stands⟩ := (s.linesDriven level mask).stallsSettled_line n
  obtain ⟨_, _, driven, -⟩ := s.linesDriven_keeps level mask n
  refine ⟨after, line, fun quiet => stands ?_⟩
  rw [driven]
  exact quiet

/-- R146: the requested level and the driven level of a line after the request. -/
theorem State.linesTaken_levels (s : State) (level : Bool) (mask : Nat) (n : Fin 12) :
    (s.linesTaken level mask).stu.lines[n].requested = (s.linesDriven level mask).stu.lines[n].requested ∧
      (s.stu.lines[n].fn ≠ .alarm →
        (s.linesTaken level mask).stu.lines[n].level = (s.linesDriven level mask).stu.lines[n].level) := by
  obtain ⟨_, line, stands⟩ := s.linesTaken_line level mask n
  obtain ⟨_, _, settled⟩ := (s.linesDriven level mask).stu.lines[n].stallSettled_changes ((s.linesDriven level mask).stu.stalled n)
  rw [line, settled]
  exact ⟨rfl, stands⟩

/-- R146, R149, R154: what the request, the stalls and the alarms move of a line. -/
theorem State.linesTaken_keeps (s : State) (level : Bool) (mask : Nat) (n : Fin 12) :
    (s.linesTaken level mask).stu.lines[n] = { s.stu.lines[n] with
      requested := (s.linesTaken level mask).stu.lines[n].requested
      level := (s.linesTaken level mask).stu.lines[n].level
      stallTimer := (s.linesTaken level mask).stu.lines[n].stallTimer
      fanStall := (s.linesTaken level mask).stu.lines[n].fanStall } := by
  obtain ⟨_, line, -⟩ := s.linesTaken_line level mask n
  obtain ⟨_, _, settled⟩ := (s.linesDriven level mask).stu.lines[n].stallSettled_changes ((s.linesDriven level mask).stu.stalled n)
  obtain ⟨_, _, driven, -⟩ := s.linesDriven_keeps level mask n
  rw [settled, driven] at line
  rw [line]

/-- R149: a FAN line turned off has no stall. -/
theorem State.linesTaken_off (fan : s.stu.lines[n].fn = .fan) (off : (s.linesTaken level mask).stu.lines[n].level = false) :
    (s.linesTaken level mask).stu.lines[n].stallTimer = .stopped ∧ (s.linesTaken level mask).stu.lines[n].fanStall = false := by
  have driven := (s.linesTaken_levels level mask n).2 (by rw [fan]; nofun)
  have moves : (s.linesDriven level mask).stu.stalled n = false := by
    refine Bool.eq_false_iff.mpr fun stalled => ?_
    obtain ⟨-, _, -, high, -⟩ := (Stu.stalled_iff _ _).mp stalled
    exact absurd ((off.symm.trans driven).trans high) nofun
  obtain ⟨_, line, -⟩ := s.linesTaken_line level mask n
  rw [line, moves]
  exact ⟨rfl, rfl⟩

/-- R149: a FAN line driven HIGH while its tacho stands still starts its stall timer. -/
theorem State.linesTaken_on {m : Fin 12} (fan : s.stu.lines[n].fn = .fan) (on : (s.linesTaken level mask).stu.lines[n].level = true)
    (pair : s.stu.lines[n].paired = some m) (still : s.stu.lines[m].period = 0) (stopped : s.stu.lines[n].stallTimer = .stopped)
    (clear : s.stu.lines[n].fanStall = false) :
    (s.linesTaken level mask).stu.lines[n].stallTimer = .running 5000 ∧ (s.linesTaken level mask).stu.lines[n].fanStall = false := by
  have high := ((s.linesTaken_levels level mask n).2 (by rw [fan]; nofun)).symm.trans on
  obtain ⟨_, _, own, -⟩ := s.linesDriven_keeps level mask n
  obtain ⟨_, _, other, -⟩ := s.linesDriven_keeps level mask m
  have stalled : (s.linesDriven level mask).stu.stalled n = true :=
    Stu.stalled_of_pair (by rw [own]; exact fan) (by rw [own]; exact pair) high (by rw [other]; exact still)
  have starts := LineRec.stallSettled_starts (r := (s.linesDriven level mask).stu.lines[n]) (by rw [own]; exact clear)
    (by rw [own]; exact stopped)
  obtain ⟨_, line, -⟩ := s.linesTaken_line level mask n
  rw [line, stalled, starts, own]
  exact ⟨rfl, clear⟩

/-- R146: the lines whose driven level the request changed; what an ALARM line then follows is not among it. -/
theorem State.linesTaken_changed (s : State) (level : Bool) (mask : Nat) (n : Fin 12) :
    changedLines s.stu (s.linesDriven level mask).stu n =
      (decide (s.stu.lines[n].fn ≠ .alarm) && ((s.linesTaken level mask).stu.lines[n].level != s.stu.lines[n].level)) := by
  unfold changedLines
  by_cases alarm : s.stu.lines[n].fn = .alarm
  · obtain ⟨_, _, line, stands⟩ := s.linesDriven_keeps level mask n
    rw [line, stands alarm, decide_eq_false (not_not.mpr alarm), bne_self_eq_false, Bool.false_and]
  · rw [(s.linesTaken_levels level mask n).2 alarm, decide_eq_true alarm, Bool.true_and, bne_comm]

/-- R151: the request moves STU and, where a FAN_STALL changes, the queue. -/
theorem State.linesTaken_eq (running : s.running = true) :
    s.linesTaken level mask =
      { (if ∀ m : Fin 12, (s.linesTaken level mask).stu.lines[m].fanStall = s.stu.lines[m].fanStall then s else s.withNotice .climate) with
        stu := (s.linesTaken level mask).stu } := by
  have before (m : Fin 12) : (s.linesDriven level mask).stu.lines[m].fanStall = s.stu.lines[m].fanStall := by
    obtain ⟨_, _, line, -⟩ := s.linesDriven_keeps level mask m
    rw [line]
  have settled := State.stallsSettled_eq (s := s.linesDriven level mask) running
  simp only [before] at settled
  refine settled.trans ?_
  rw [State.linesTaken]
  split <;> rfl

/-! ### The answers (R145, R146, R163) -/

variable {k : Fin 6} {rq : RequestHead} {body : List Byte}

/-- The stalls settled while a request is in its slot. -/
theorem State.settleStall_requestIn (running : s.running = true) (k : Fin 6) (rq : RequestHead) (body : List Byte) :
    (s.requestIn k rq body).settleStall = s.settleStall.requestIn k rq body := by
  rw [State.settleStall_eq running, State.settleStall_eq (by exact running)]
  rfl

theorem runLines_taken (running : s.running = true) (small : mask < 4096) :
    runLines level (be16 mask) k (s.requestIn k rq body) =
      ((s.linesTaken level mask).requestIn k rq body,
        .done .ok (s.stu.levelMask ++ lineMask (changedLines s.stu (s.linesDriven level mask).stu))) := by
  have settled : ((s.linesDriven level mask).requestIn k rq body).settleStall.settleAlarms =
      (s.linesTaken level mask).requestIn k rq body := by
    rw [State.settleStall_requestIn (by exact running), State.settleAlarms_requestIn]
    rfl
  rw [runLines, maskArg_be16 small]
  exact congrArg (·, _) settled

/-- R145: the lines after a LINES_ACK. -/
theorem runLinesAck_taken (small : mask < 4096) :
    runLinesAck (be16 mask) k (s.requestIn k rq body) =
      (State.requestIn { s with stu := s.stu.acknowledge (namedLines mask) } k rq body, .done .ok s.stu.flagMask) := by
  rw [runLinesAck, maskArg_be16 small]
  rfl

/-- R144: the triggers that a standing level holds. -/
theorem Trigger.heldBy_eq (tr : Trigger) (level : Bool) :
    tr.heldBy level = decide (tr = .high ∧ level = true ∨ tr = .low ∧ level = false) := by
  cases tr <;> cases level <;> rfl

/-- R145: what a LINES_ACK leaves of a line. -/
theorem Stu.acknowledge_named (u : Stu) (mask : Nat) (n : Fin 12) :
    (u.acknowledge (namedLines mask)).lines[n] = { u.lines[n] with
      flag :=
        if mask.testBit n.val = true ∧ u.lines[n].fn = .inp then
          decide (u.lines[n].trigger = .high ∧ u.lines[n].level = true ∨ u.lines[n].trigger = .low ∧ u.lines[n].level = false)
        else u.lines[n].flag } := by
  rw [Stu.acknowledge_line, namedLines_get, Trigger.heldBy_eq]
  simp only [Bool.and_eq_true, decide_eq_true_eq]
  split <;> rfl

end

/-- R146: the two requests on the driven lines take one path. -/
theorem exec_lines {rq : RequestHead} {mask : Nat} {t : Stamp} {k : Fin 6} {s₀ s : State} (now : s = s₀.moment t) (able : s.canAnswer k)
    (small : mask < 4096) {level : Bool} {c : Instr} {code l1 l0 c1 c0 : Byte}
    (request : level = true ∧ c = .linesSet rq (be16 mask) t ∧ code = 24 ∨ level = false ∧ c = .linesClear rq (be16 mask) t ∧ code = 25)
    (levels : s.stu.levelMask = [l1, l0]) (changed : lineMask (changedLines s.stu (s.linesDriven level mask).stu) = [c1, c0]) :
    exec c s₀ = .next ((s.linesTaken level mask).answered k rq (code :: be16 mask) [0, code, l1, l0, c1, c0]) := by
  have ports : (s.linesTaken level mask).isUp = s.isUp := by
    rw [State.linesTaken_eq able.1]
    split <;> rfl
  have taken (body : List Byte) := runLines_taken (level := level) (k := k) (rq := rq) (body := body) able.1 small
  rw [levels, changed] at taken
  rcases request with ⟨rfl, rfl, rfl⟩ | ⟨rfl, rfl, rfl⟩
  · exact exec_answered (status := .ok) (results := [l1, l0, c1, c0]) rfl now able (taken _) ports
  · exact exec_answered (status := .ok) (results := [l1, l0, c1, c0]) rfl now able (taken _) ports

theorem exec_linesAck {rq : RequestHead} {mask : Nat} {t : Stamp} {k : Fin 6} {s₀ s : State} (now : s = s₀.moment t) (able : s.canAnswer k)
    (small : mask < 4096) {f1 f0 : Byte} (flags : s.stu.flagMask = [f1, f0]) :
    exec (.linesAck rq (be16 mask) t) s₀ =
      .next (State.answered { s with stu := s.stu.acknowledge (namedLines mask) } k rq (26 :: be16 mask) [0, 26, f1, f0]) := by
  have taken (body : List Byte) := runLinesAck_taken (s := s) (k := k) (rq := rq) (body := body) small
  rw [flags] at taken
  exact exec_answered (c := .linesAck rq (be16 mask) t) (status := .ok) (results := [f1, f0]) rfl now able (taken _) rfl

/-- R163: an answer moves the queue and the slot alone. -/
theorem State.answered_stu (s : State) (k : Fin 6) (rq : RequestHead) (body answer : List Byte) :
    (s.answered k rq body answer).stu = s.stu := rfl

/-- R146, R151, R163: but for STU the request is its answer, after the CLIMATE notice where a FAN_STALL changes. -/
theorem State.linesTaken_answered {s : State} (running : s.running = true) (level : Bool) (mask : Nat) (k : Fin 6) (rq : RequestHead)
    (body answer : List Byte) :
    { (s.linesTaken level mask).answered k rq body answer with stu := s.stu } =
      State.answered
        (if ∀ m : Fin 12, (s.linesTaken level mask).stu.lines[m].fanStall = s.stu.lines[m].fanStall then s else s.withNotice .climate)
        k rq body answer := by
  have stuAside {u : State} (stu : u.stu = s.stu) (after : Stu) :
      { State.answered { u with stu := after } k rq body answer with stu := s.stu } = u.answered k rq body answer := by
    rw [← stu]
    rfl
  rw [State.linesTaken_eq running]
  refine stuAside ?_ _
  split <;> rfl

/-- Settles O52: the request drives the lines it names, the stalls and the alarms are settled after it, and the masks carry what it found. -/
theorem lineRequestsAnswerWhatTheyFound : Obligations.LineRequestsAnswerWhatTheyFound := by
  intro rq mask t k s₀ s now able small
  refine ⟨fun level c code request => ?driven, ?acknowledged⟩
  case driven =>
    obtain ⟨l1, l0, levels, levelBit⟩ := lineMask_bytes fun n => s.stu.lines[n].level
    obtain ⟨c1, c0, changed, changedBit⟩ := lineMask_bytes (changedLines s.stu (s.linesDriven level mask).stu)
    obtain ⟨hot, filter, dying, -⟩ := (s.linesDriven level mask).stallsSettled_frame
    have frame := State.linesTaken_answered (s := s) able.1 level mask k rq (code :: be16 mask) [0, code, l1, l0, c1, c0]
    refine ⟨_, l1, l0, c1, c0, exec_lines now able small request levels changed, ?_⟩
    simp only [State.answered_stu]
    refine ⟨frame, fun n => ⟨?requested, fun quiet => ?level, s.linesTaken_keeps level mask n, State.linesTaken_off,
      fun _ => State.linesTaken_on,
      levelBit n, (changedBit n).trans (s.linesTaken_changed level mask n)⟩, hot, filter, dying⟩
    case requested =>
      refine (s.linesTaken_levels level mask n).1.trans ?_
      split
      next named => rw [State.linesDriven_named named]
      next unnamed => rw [State.linesDriven_unnamed unnamed]
    case level =>
      refine ((s.linesTaken_levels level mask n).2 quiet).trans ?_
      split
      next named => rw [State.linesDriven_named named]
      next unnamed => rw [State.linesDriven_unnamed unnamed]
  case acknowledged =>
    obtain ⟨f1, f0, flags, flagBit⟩ := lineMask_bytes fun n => s.stu.lines[n].flag
    exact ⟨_, f1, f0, exec_linesAck now able small flags, fun n => ⟨s.stu.acknowledge_named mask n, flagBit n⟩⟩

end Sys2Proof.Machine
end

section
/-! SUPPORT. The commands that wait: that every operation of the part, and so every command, leaves the queue of waiting commands as it was.
It settles O2. -/

namespace Sys2Proof.Machine
open Sys2Proof

/-! ### Changes that name the fields they change -/

theorem VdeChange.pending {s u : State} (h : VdeChange s u) : u.pending = s.pending := by
  obtain ⟨_, _, rfl⟩ := h
  rfl

theorem ReadingChange.pending {s u : State} (h : ReadingChange s u) : u.pending = s.pending := by
  obtain ⟨_, _, _, _, _, rfl⟩ := h
  rfl

theorem PathsStep.pending {s u : State} (h : PathsStep s u) : u.pending = s.pending := by
  obtain ⟨_, _, _, _, rfl⟩ := h
  rfl

theorem PathStep.pending {p : Fin 4} {s u : State} {r : PathRec} {v : VerdictRec} (h : PathStep p s u r v) : u.pending = s.pending :=
  h.paths.pending

theorem foldl_pending {α : Type} {f : State → α → State} (step : ∀ s a, (f s a).pending = s.pending) (l : List α) (s : State) :
    (l.foldl f s).pending = s.pending :=
  foldl_keeps (fun u => u.pending = s.pending) f (fun u a same => (step u a).trans same) l s rfl

/-! ### The shared operations -/

@[simp] theorem State.settleAlarms_pending (s : State) : s.settleAlarms.pending = s.pending := (ReadingChange.settleAlarms s).pending

@[simp] theorem State.settleStall_pending (s : State) : s.settleStall.pending = s.pending := (ReadingChange.settleStall s).pending

@[simp] theorem State.answersLeft_pending (s : State) (slots : List (Fin 6)) : (s.answersLeft slots).pending = s.pending := by
  obtain ⟨-, -, -, -, -, pending, -⟩ := s.answersLeft_keeps slots
  exact pending

@[simp] theorem State.complete_pending (s : State) (k : Fin 6) (status : Status) (results : List Byte) :
    (s.complete k status results).pending = s.pending := by
  unfold State.complete State.askAnswer; dsimp only; split
  · rfl
  · exact State.answersLeft_pending _ _

theorem State.millisecondTick_pending (s : State) : s.millisecondTick.pending = s.pending := by
  unfold State.millisecondTick; split
  · exact s.elapse_pending _ _
  · rfl

/-! ### VDE (Chapter 9) -/

@[simp] theorem State.lightEvaluation_pending (s : State) (p : Fin 4) : (s.lightEvaluation p).pending = s.pending :=
  (s.lightEvaluation_changes p).pending

theorem State.windowExpiry_pending (s : State) (p : Fin 4) : (s.windowExpiry p).pending = s.pending := by
  unfold State.windowExpiry; dsimp only; split
  · rw [State.settleAlarms_pending]
    exact (s.setVerdict_changes p _).pending
  · rfl

theorem State.holdOffExpiry_pending (s : State) (p : Fin 4) : (s.holdOffExpiry p).pending = s.pending := by
  unfold State.holdOffExpiry; dsimp only; split
  · rw [State.settleAlarms_pending, State.lightEvaluation_pending]
  · rfl

/-! ### The line ports and RLY (Chapters 1 and 2) -/

theorem State.symbolReceived_pending (s : State) (side : Side) (sym : Symbol) (t : Stamp) :
    (s.symbolReceived side sym t).pending = s.pending := by
  unfold State.symbolReceived; split
  · exact s.setPort_pending side _
  · rfl

theorem State.entryToDown_pending (s : State) (side : Side) : (s.entryToDown side).pending = s.pending := by
  unfold State.entryToDown; dsimp only
  rw [State.settleAlarms_pending, (State.linkDownEvent_changes _ side).pending]
  simp [State.markCutOff, State.clearMarks]

theorem State.signalDetectChange_pending (s : State) (side : Side) (level : Bool) :
    (s.signalDetectChange side level).pending = s.pending := by
  unfold State.signalDetectChange; dsimp only; split
  · rw [State.entryToDown_pending, State.setSignal_pending]
  · exact s.setSignal_pending side level

theorem State.silenceExpiry_pending (s : State) (side : Side) : (s.silenceExpiry side).pending = s.pending := by
  unfold State.silenceExpiry; split
  · exact s.entryToDown_pending side
  · rfl

theorem State.linkUp_pending (s : State) (side : Side) : (s.linkUp side).pending = s.pending := by
  unfold State.linkUp; split
  · rw [State.markCutOff, State.setNb_pending, State.setPort_pending]
  · rfl

theorem State.agedMark_pending (s : State) (side : Side) : (s.agedMark side).pending = s.pending := by
  unfold State.agedMark; split
  · exact s.setPort_pending side _
  · rfl

theorem State.receivedFrame_pending (s : State) (r : ReceivedFrame) : (s.receivedFrame r).pending = s.pending := by
  unfold State.receivedFrame; split
  · dsimp only; split
    · rfl
    · split
      · rfl
      · rw [State.relay_eq]
        exact State.setPort_pending ..
  · rfl

@[simp] theorem State.grant_pending (s : State) (side : Side) : (s.grant side).pending = s.pending := by
  unfold State.grant; split
  · split
    · exact s.setPort_pending side _
    · unfold State.grantEntry State.takeMark
      rw [State.answersLeft_pending]
      exact s.setPort_pending side _
    · rfl
  · rfl

theorem State.transmitDone_pending (s : State) (side : Side) : (s.transmitDone side).pending = s.pending := by
  unfold State.transmitDone; split
  · rw [State.grant_pending, State.setPort_pending]
  · rfl

/-! ### NBV (Chapter 8) -/

theorem State.promptReply_pending (s : State) (side : Side) (r : PathReport) : (s.promptReply side r).pending = s.pending := by
  unfold State.promptReply; split
  · dsimp only; split
    · exact s.askNotice_pending _ _
    · rfl
  · rfl

theorem State.useState_pending (s : State) (side : Side) (m : Vector Summary 4) : (s.useState side m).pending = s.pending := by
  unfold State.useState
  exact (foldl_pending (fun s i => (s.handReport_changes side i _ _).pending) _ _).trans (s.setNb_pending side _)

theorem State.usePath_pending (s : State) (side : Side) (r : PathReport) : (s.usePath side r).pending = s.pending := by
  unfold State.usePath
  rw [State.promptReply_pending, (State.handReport_changes _ side _ _ _).pending, State.setNb_pending]

theorem State.usePower_pending (s : State) (side : Side) (dying : Bool) : (s.usePower side dying).pending = s.pending := by
  unfold State.usePower; dsimp only; split
  · rw [(State.handDying_changes _ side).pending, State.setNb_pending]
  · exact s.setNb_pending side _

theorem State.useFrame_pending (s : State) (d : Delivery) : (s.useFrame d).pending = s.pending := by
  unfold State.useFrame; split
  · split
    · exact s.useState_pending _ _
    · rfl
  · split
    · exact s.usePath_pending _ _
    · exact s.usePower_pending _ _
    · rfl
    · rfl
  · rfl
  · rfl

theorem State.neighbourFrame_pending (s : State) (d : Delivery) : (s.neighbourFrame d).pending = s.pending := by
  unfold State.neighbourFrame; split
  · dsimp only; split
    · split
      · exact State.setNb_pending _ _ _
      · split
        · rw [State.settleAlarms_pending, State.useFrame_pending]
        · rfl
    · rfl
  · rfl

theorem State.staleExpiry_pending (s : State) (side : Side) : (s.staleExpiry side).pending = s.pending := by
  unfold State.staleExpiry; split
  · exact s.setNb_pending side _
  · rfl

/-! ### Pilots, the test generator and the pool (Chapters 5 and 6) -/

theorem State.pilotStep_pending (s : State) : s.pilotStep.pending = s.pending := by
  unfold State.pilotStep; split <;> rfl

theorem State.testExpiry_pending (s : State) : s.testExpiry.pending = s.pending := by
  unfold State.testExpiry; split
  · exact State.askNotice_pending _ _ _
  · rfl

@[simp] theorem State.freeWatch_pending (s : State) (i : Fin 16) : (s.freeWatch i).pending = s.pending := State.askNotice_pending _ _ _

theorem State.watchExpiry_pending (s : State) (i : Fin 16) : (s.watchExpiry i).pending = s.pending := by
  unfold State.watchExpiry; split
  · exact s.freeWatch_pending i
  · rfl

theorem State.toneWatch_pending (s : State) (requester : Byte) (a : WatchArgs) : (s.toneWatch requester a).1.pending = s.pending := by
  unfold State.toneWatch; split
  · rfl
  · split
    · exact State.askNotice_pending _ _ _
    · rfl

/-! ### STU (Chapter 10) -/

theorem State.statePeriodExpiry_pending (s : State) : s.statePeriodExpiry.pending = s.pending := by
  unfold State.statePeriodExpiry; split
  · exact State.askState_pending _
  · rfl

theorem State.lineEvent_pending (s : State) (n : Fin 12) (level : Bool) (t : Stamp) : (s.lineEvent n level t).pending = s.pending := by
  unfold State.lineEvent; split
  · unfold State.inputChange; dsimp only; split
    · exact State.askNotice_pending _ _ _
    · rfl
  · exact State.settleStall_pending _
  · unfold State.powerGoodChange; dsimp only; split
    · exact (ReadingChange.judgeRevival _).pending
    · exact (ReadingChange.enterDying _).pending
  · rfl
  · rfl
  · rfl

theorem State.hutLineChange_pending (s : State) (n : Fin 12) (level : Bool) (t : Stamp) :
    (s.hutLineChange n level t).pending = s.pending := by
  unfold State.hutLineChange; dsimp only; split
  · rw [State.settleAlarms_pending, State.lineEvent_pending]
  · rfl

theorem State.edgeTimerExpiry_pending (s : State) (n : Fin 12) : (s.edgeTimerExpiry n).pending = s.pending := by
  unfold State.edgeTimerExpiry; split
  · rw [State.settleAlarms_pending, State.settleStall_pending, State.modLine_pending]
  · rfl

theorem State.stallTimerExpiry_pending (s : State) (n : Fin 12) : (s.stallTimerExpiry n).pending = s.pending := by
  unfold State.stallTimerExpiry; split
  · rw [State.settleAlarms_pending, State.askNotice_pending, State.modLine_pending]
  · rfl

/-! ### The sampler (Chapters 4, 5 and 7) -/

theorem State.blockStart_pending (s : State) : s.blockStart.pending = s.pending := by
  unfold State.blockStart; split <;> rfl

theorem State.compareLoss_pending (s : State) (p : Fin 4) (code : Nat) (t : Stamp) : (s.compareLoss p code t).pending = s.pending := by
  cases monitored : s.monitored p with
  | false => rw [State.compareLoss_unmonitored s p code t monitored]
  | true =>
    obtain ⟨_, _, _, compared⟩ := PathStep.compareLoss s p code t monitored
    exact compared.pending

theorem State.tapSample_pending (s : State) (ch : Fin 8) (code : Code) (t : Stamp) : (s.tapSample ch code t).pending = s.pending := by
  unfold State.tapSample; split
  · rw [State.settleAlarms_pending]
    split
    · exact State.compareLoss_pending _ _ _ t
    · rfl
  · rfl

theorem State.tcrBlockEnd_pending (s : State) : s.tcrBlockEnd.pending = s.pending := by
  obtain ⟨_, evaluated, -⟩ := s.lanesEvaluated_eq
  rw [State.tcrBlockEnd_eq, foldl_pending fun u p => (PathStep.handLaneResult u p s.tcr).pending, evaluated]

theorem State.pmnBlockEnd_pending (s : State) (t : Stamp) : (s.pmnBlockEnd t).pending = s.pending :=
  (foldl_paths (fun s p => PathStep.exists_pmnPathEnd t s p) _ s).pending

theorem State.blockEnd_pending (s : State) (pmnFirst : Bool) (t : Stamp) : (s.blockEnd pmnFirst t).pending = s.pending := by
  unfold State.blockEnd; split
  · rw [State.settleAlarms_pending]
    split
    · rw [State.tcrBlockEnd_pending, State.pmnBlockEnd_pending]
    · rw [State.pmnBlockEnd_pending, State.tcrBlockEnd_pending]
  · rfl

theorem State.sharedSlot_pending (s : State) (code : Code) (t : Stamp) : (s.sharedSlot code t).pending = s.pending := by
  unfold State.sharedSlot; split
  · dsimp only; split
    · exact State.complete_pending _ _ _ _
    · rw [State.settleAlarms_pending, (State.slowConversion_changes _ _).pending]
  · rfl

/-! ### Loads (Chapter 3) -/

theorem State.rstnRelease_pending (s : State) (straps : BitVec 6) (sdaHold : Option Nat) :
    (s.rstnRelease straps sdaHold).pending = s.pending := by
  unfold State.rstnRelease; split <;> rfl

theorem State.enterRunning_pending (s : State) : s.enterRunning.pending = s.pending := by
  obtain ⟨_, site⟩ := s.blocksEntered.enterSite_changes
  rw [State.enterRunning_eq, State.settleAlarms_pending]
  split
  · rw [State.askState_pending, site]; rfl
  · rw [(ReadingChange.enterDying _).pending, State.askState_pending, site]; rfl

theorem State.loadEnd_pending (s : State) (outcome : StartOutcome) (reason : StartReason) (c : Settings) :
    (s.loadEnd outcome reason c).pending = s.pending := by
  rw [State.loadEnd_eq]; split
  · exact State.enterRunning_pending _
  · rfl

theorem State.loadTimerExpiry_pending (s : State) : s.loadTimerExpiry.pending = s.pending := by
  unfold State.loadTimerExpiry; split
  · exact State.loadEnd_pending _ _ _ _
  · rfl

theorem State.imageReadDone_pending (s : State) (image : List Byte) : (s.imageReadDone image).pending = s.pending := by
  unfold State.imageReadDone; split
  · exact s.loadEnd_pending _ _ _
  · rfl

/-! ### RQH (Chapter 11) -/

/-- R161 to R163: RQH takes a request whose execution leaves the waiting commands. -/
theorem State.takeRequest_pending (s : State) (rq : RequestHead) (body : List Byte) {run : Fin 6 → State → State × Reply}
    (ran : ∀ k u, (run k u).1.pending = u.pending) : (s.takeRequest rq body run).pending = s.pending := by
  have after {k : Fin 6} {u w : State} {r : Reply} (done : run k u = (w, r)) : w.pending = u.pending := by
    simpa only [done] using ran k u
  unfold State.takeRequest; split
  · dsimp only; split
    · rfl
    · split
      next => rfl
      next =>
        split
        next => exact State.complete_pending _ _ _ _
        next =>
          split
          next done =>
            rw [State.complete_pending, after done]
            rfl
          next waiting => exact (after waiting).trans rfl
  · rfl

theorem runProbe_pending (args : List Byte) (k : Fin 6) (s : State) : (runProbe args k s).1.pending = s.pending := by
  unfold runProbe; split
  · split <;> rfl
  · rfl

theorem runToneWatch_pending (requester : Byte) (args : List Byte) (k : Fin 6) (s : State) :
    (runToneWatch requester args k s).1.pending = s.pending := by
  unfold runToneWatch; split
  next a _ =>
    have taken := s.toneWatch_pending requester a
    split
    next lane => simpa only [lane] using taken
    next noLane => simpa only [noLane] using taken
  next => rfl

theorem runToneDrop_pending (requester : Byte) (args : List Byte) (k : Fin 6) (s : State) :
    (runToneDrop requester args k s).1.pending = s.pending := by
  unfold runToneDrop; split
  next i _ =>
    split
    · rfl
    · split
      · rfl
      · split
        · exact s.freeWatch_pending i
        · rfl
  next => rfl

theorem runGenClaim_pending (requester : Byte) (args : List Byte) (k : Fin 6) (s : State) :
    (runGenClaim requester args k s).1.pending = s.pending := by
  unfold runGenClaim; split
  · split
    · rfl
    · split
      · split
        · split <;> rfl
        · rfl
      · exact State.askNotice_pending _ _ _
  · rfl

theorem runGenRelease_pending (requester : Byte) (args : List Byte) (k : Fin 6) (s : State) :
    (runGenRelease requester args k s).1.pending = s.pending := by
  unfold runGenRelease; split
  · split
    · split
      · exact State.askNotice_pending _ _ _
      · rfl
    · rfl
  · rfl

theorem runLines_pending (level : Bool) (args : List Byte) (k : Fin 6) (s : State) :
    (runLines level args k s).1.pending = s.pending := by
  unfold runLines; split
  · dsimp only
    rw [State.settleAlarms_pending, State.settleStall_pending]
  · rfl

theorem runLinesAck_pending (args : List Byte) (k : Fin 6) (s : State) : (runLinesAck args k s).1.pending = s.pending := by
  unfold runLinesAck; split <;> rfl

theorem runRecheck_pending (args : List Byte) (k : Fin 6) (s : State) : (runRecheck args k s).1.pending = s.pending := by
  unfold runRecheck; split
  next p _ =>
    split
    · rfl
    · exact (State.settleAlarms_pending _).trans (s.recheckPath_changes p).pending
  next => rfl

theorem runRestart_pending (broadcast : Bool) (args : List Byte) (k : Fin 6) (s : State) :
    (runRestart broadcast args k s).1.pending = s.pending := by
  unfold runRestart; split
  · split
    · rfl
    · split <;> rfl
  · rfl

/-! ### Every command -/

/-- Settles O2: each command's meaning answers a next state, by its operation taken at the moment of the command. -/
theorem everyCommandIsTaken : Obligations.EveryCommandIsTaken := by
  intro c s
  have at_moment (t : Stamp) {u : State} (same : u.pending = (s.moment t).pending) : u.pending = s.pending :=
    same.trans (s.moment_pending t)
  have request (rq : RequestHead) (body : List Byte) (t : Stamp) {run : Fin 6 → State → State × Reply}
      (ran : ∀ k u, (run k u).1.pending = u.pending) : ((s.moment t).takeRequest rq body run).pending = s.pending :=
    at_moment t (State.takeRequest_pending _ rq body ran)
  cases c with
  | powerOnReset straps => exact ⟨_, rfl, rfl⟩
  | rstnRelease straps sdaHold => exact ⟨_, rfl, s.rstnRelease_pending straps sdaHold⟩
  | millisecondTick => exact ⟨_, rfl, s.millisecondTick_pending⟩
  | symbolReceived side sym t => exact ⟨_, rfl, at_moment t (State.symbolReceived_pending _ side sym t)⟩
  | signalDetectChange side level t => exact ⟨_, rfl, at_moment t (State.signalDetectChange_pending _ side level)⟩
  | silenceExpiry side t => exact ⟨_, rfl, at_moment t (State.silenceExpiry_pending _ side)⟩
  | linkUp side t => exact ⟨_, rfl, at_moment t (State.linkUp_pending _ side)⟩
  | agedMark side t => exact ⟨_, rfl, at_moment t (State.agedMark_pending _ side)⟩
  | receivedFrame f => exact ⟨_, rfl, s.receivedFrame_pending f⟩
  | transmitDone side t => exact ⟨_, rfl, at_moment t (State.transmitDone_pending _ side)⟩
  | i2cNack stage =>
    refine ⟨_, rfl, ?_⟩
    split
    · exact s.loadEnd_pending _ _ _
    · rfl
  | loadTimerExpiry => exact ⟨_, rfl, s.loadTimerExpiry_pending⟩
  | imageReadDone image => exact ⟨_, rfl, s.imageReadDone_pending image⟩
  | blockStart => exact ⟨_, rfl, s.blockStart_pending⟩
  | tapSample channel code t => exact ⟨_, rfl, at_moment t (State.tapSample_pending _ channel code t)⟩
  | blockEnd pmnFirst t => exact ⟨_, rfl, at_moment t (State.blockEnd_pending _ pmnFirst t)⟩
  | sharedSlot code t => exact ⟨_, rfl, at_moment t (State.sharedSlot_pending _ code t)⟩
  | pilotStep => exact ⟨_, rfl, s.pilotStep_pending⟩
  | neighbourFrame d t => exact ⟨_, rfl, at_moment t (State.neighbourFrame_pending _ d)⟩
  | staleExpiry side => exact ⟨_, rfl, s.staleExpiry_pending side⟩
  | windowExpiry path => exact ⟨_, rfl, s.windowExpiry_pending path⟩
  | holdOffExpiry path => exact ⟨_, rfl, s.holdOffExpiry_pending path⟩
  | watchExpiry lane => exact ⟨_, rfl, s.watchExpiry_pending lane⟩
  | testExpiry => exact ⟨_, rfl, s.testExpiry_pending⟩
  | statePeriodExpiry => exact ⟨_, rfl, s.statePeriodExpiry_pending⟩
  | hutLineChange line level t => exact ⟨_, rfl, at_moment t (State.hutLineChange_pending _ line level t)⟩
  | edgeTimerExpiry line => exact ⟨_, rfl, s.edgeTimerExpiry_pending line⟩
  | stallTimerExpiry line => exact ⟨_, rfl, s.stallTimerExpiry_pending line⟩
  | unknownRequest rq body t =>
    refine ⟨_, rfl, ?_⟩
    split
    · exact s.moment_pending t
    · exact request rq body t fun _ _ => rfl
  | queryPath rq args t => exact ⟨_, rfl, request rq _ t fun _ _ => rfl⟩
  | querySite rq args t => exact ⟨_, rfl, request rq _ t fun _ _ => rfl⟩
  | queryLane rq args t => exact ⟨_, rfl, request rq _ t fun _ _ => rfl⟩
  | queryNeighbour rq args t => exact ⟨_, rfl, request rq _ t fun _ _ => rfl⟩
  | probe rq args t => exact ⟨_, rfl, request rq _ t (runProbe_pending args)⟩
  | toneWatch rq args t => exact ⟨_, rfl, request rq _ t (runToneWatch_pending _ args)⟩
  | toneDrop rq args t => exact ⟨_, rfl, request rq _ t (runToneDrop_pending _ args)⟩
  | genClaim rq args t => exact ⟨_, rfl, request rq _ t (runGenClaim_pending _ args)⟩
  | genRelease rq args t => exact ⟨_, rfl, request rq _ t (runGenRelease_pending _ args)⟩
  | linesSet rq args t => exact ⟨_, rfl, request rq _ t (runLines_pending true args)⟩
  | linesClear rq args t => exact ⟨_, rfl, request rq _ t (runLines_pending false args)⟩
  | linesAck rq args t => exact ⟨_, rfl, request rq _ t (runLinesAck_pending args)⟩
  | recheck rq args t => exact ⟨_, rfl, request rq _ t (runRecheck_pending args)⟩
  | restartRequest rq args t => exact ⟨_, rfl, request rq _ t (runRestart_pending _ args)⟩
  | grantAtSymbolBoundary side t => exact ⟨_, rfl, at_moment t (State.grant_pending _ side)⟩

end Sys2Proof.Machine
end

section
/-! SUPPORT. The configuration image of R171: where each record lies in it, and what R40 reads back at its places. It settles O8. -/

namespace Sys2Proof.Machine
open Sys2Proof

/-! ### Codes (R170, R171) -/

theorem PathKind.ofCode_code (k : PathKind) : PathKind.ofCode k.code = some k := by cases k <;> rfl

theorem LineFn.ofCode_code (fn : LineFn) : LineFn.ofCode fn.code = some fn := by cases fn <;> rfl

theorem Trigger.ofCode_code (tr : Trigger) : Trigger.ofCode tr.code = some tr := by cases tr <;> rfl

theorem PathKind.code_le (k : PathKind) : k.code ≤ 2 := by cases k <;> decide

theorem LineFn.code_le (fn : LineFn) : fn.code ≤ 5 := by cases fn <;> decide

theorem Trigger.code_le (tr : Trigger) : tr.code ≤ 5 := by cases tr <;> decide

/-! ### Fields read back (R40) -/

section
variable {img : List Byte} {i n lo hi : Nat}

theorem imageByte_eq (laid : img[i]? = some (BitVec.ofNat 8 n)) (small : n < 256) : imageByte img i = n := by
  rw [imageByte, List.getD_eq_getElem?_getD, laid, Option.getD_some, BitVec.toNat_ofNat, Nat.mod_eq_of_lt small]

theorem imageWord_eq (high : img[i]? = some (BitVec.ofNat 8 (n / 256))) (low : img[i + 1]? = some (BitVec.ofNat 8 n))
    (small : n < 65536) : imageWord img i = n := by
  rw [imageWord, imageByte, imageByte, List.getD_eq_getElem?_getD, List.getD_eq_getElem?_getD, high, low]
  exact val16_be16 small

theorem ranged_byte (laid : img[i]? = some (BitVec.ofNat 8 n)) (least : lo ≤ n) (most : n ≤ hi) (small : hi < 256 := by decide) :
    ranged lo hi (imageByte img i) = some n := by
  rw [imageByte_eq laid (by omega)]
  exact if_pos ⟨least, most⟩

theorem ranged_word (high : img[i]? = some (BitVec.ofNat 8 (n / 256))) (low : img[i + 1]? = some (BitVec.ofNat 8 n)) (least : lo ≤ n)
    (most : n ≤ hi) (small : hi < 65536 := by decide) : ranged lo hi (imageWord img i) = some n := by
  rw [imageWord_eq high low (by omega)]
  exact if_pos ⟨least, most⟩

end

/-- A byte of a record is found at its place from where the record begins. -/
theorem getElem?_of_drop {img tail : List Byte} {b : Nat} (begins : img.drop b = tail) (k : Nat) : img[b + k]? = tail[k]? := by
  rw [← begins, List.getElem?_drop]

/-- R171: the record of a path in range reads back where it lies. -/
theorem readPath_eq_some {img rest : List Byte} {p : Nat} {c : PathSettings} (laid : img.drop (29 + 18 * p) = c.image ++ rest)
    (inRange : c.inRange) : readPath img p = some c := by
  have place := getElem?_of_drop laid
  obtain ⟨loss, loss', margin, margin', degrade, degrade', overload, overload', run, run', low, low', bias, bias', on, on', off, off'⟩ :=
    inRange
  have kindCode := c.kind.code_le
  have first : imageByte img (29 + 18 * p) = c.kind.code + 16 * c.upstream.val := imageByte_eq (place 0) (by omega)
  have kind : imageByte img (29 + 18 * p) % 4 = c.kind.code := by omega
  have upstream : Fin.ofNat 4 (imageByte img (29 + 18 * p) / 16) = c.upstream := Fin.ext (by simp only [Fin.ofNat]; omega)
  simp only [readPath, kind, upstream, PathKind.ofCode_code, ranged_word (place 1) (place 2) loss loss',
    ranged_word (place 3) (place 4) margin margin', ranged_word (place 5) (place 6) degrade degrade',
    ranged_word (place 7) (place 8) overload overload', ranged_byte (place 9) run run', ranged_word (place 10) (place 11) low low',
    ranged_word (place 12) (place 13) bias bias', ranged_word (place 14) (place 15) on on', ranged_word (place 16) (place 17) off off',
    Option.bind_eq_bind, Option.bind_some, Option.pure_def]

/-- R171: the third byte of a line's record reads back as its pair. -/
theorem readPaired_byte {img : List Byte} {i : Nat} {c : LineSettings} (laid : img[i]? = c.image[2]?) :
    readPaired (imageByte img i) = some c.paired := by
  cases pair : c.paired with
  | some m =>
    have byte : c.image[2]? = some (BitVec.ofNat 8 m.val) := by simp [LineSettings.image, pair]
    rw [imageByte_eq (laid.trans byte) (by omega)]
    exact dif_pos m.isLt
  | none =>
    have byte : c.image[2]? = some (BitVec.ofNat 8 255) := by simp [LineSettings.image, pair]
    rw [imageByte_eq (laid.trans byte) (by decide)]
    rfl

/-- R171: the trigger code, the report bit and the start-level bit of a line's second byte. -/
theorem lineFlags_eq {t : Nat} (code : t < 8) (report high : Bool) :
    let b := t + (if report then 8 else 0) + (if high then 16 else 0)
    b < 256 ∧ b % 8 = t ∧ (b / 8 % 2 = 1 ↔ report = true) ∧ (b / 16 % 2 = 1 ↔ high = true) := by
  have eight : (if report then 8 else 0) = 8 * report.toNat := by cases report <;> rfl
  have sixteen : (if high then 16 else 0) = 16 * high.toNat := by cases high <;> rfl
  have bounds : report.toNat ≤ 1 ∧ high.toNat ≤ 1 := ⟨report.toNat_le, high.toNat_le⟩
  rw [eight, sixteen, ← Bool.toNat_eq_one, ← Bool.toNat_eq_one]
  omega

/-- R40: a line's record is its function with the fields that belong to it. -/
theorem readLine_eq (img : List Byte) (n : Nat) :
    readLine img n =
      (LineFn.ofCode (imageByte img (101 + 3 * n))).bind fun fn =>
        (if fn = .inp then Trigger.ofCode (imageByte img (102 + 3 * n) % 8) else some .none).bind fun trigger =>
          (if fn = .fan then readPaired (imageByte img (103 + 3 * n)) else some none).bind fun paired =>
            some { fn := fn, trigger := trigger, report := fn = .inp && imageByte img (102 + 3 * n) / 8 % 2 = 1,
                   startHigh := (fn = .out || fn = .fan) && imageByte img (102 + 3 * n) / 16 % 2 = 1, paired := paired } := by
  unfold readLine
  cases LineFn.ofCode (imageByte img (101 + 3 * n)) with
  | none => rfl
  | some fn => cases fn <;> rfl

/-- R171: the record of a line in range reads back where it lies; a field that does not belong to the line's function stands at NONE, off,
LOW or no pair in both. -/
theorem readLine_eq_some {img rest : List Byte} {n : Nat} {c : LineSettings} (laid : img.drop (101 + 3 * n) = c.image ++ rest)
    (inRange : c.inRange) : readLine img n = some c := by
  have place := getElem?_of_drop laid
  obtain ⟨input, driven, fan⟩ := inRange
  have fnCode := c.fn.code_le
  have triggerCode := c.trigger.code_le
  obtain ⟨small, triggerBits, reportBit, highBit⟩ := lineFlags_eq (show c.trigger.code < 8 by omega) c.report c.startHigh
  have fn : imageByte img (101 + 3 * n) = c.fn.code := imageByte_eq (place 0) (by omega)
  have flags : imageByte img (102 + 3 * n) = c.trigger.code + (if c.report then 8 else 0) + (if c.startHigh then 16 else 0) := by
    rw [show 102 + 3 * n = 101 + 3 * n + 1 by omega]
    exact imageByte_eq (place 1) small
  rw [← flags] at triggerBits reportBit highBit
  have trigger : (if c.fn = .inp then Trigger.ofCode (imageByte img (102 + 3 * n) % 8) else some .none) = some c.trigger := by
    split
    next => rw [triggerBits, Trigger.ofCode_code]
    next other => rw [(input other).1]
  have report : (decide (c.fn = .inp) && decide (imageByte img (102 + 3 * n) / 8 % 2 = 1)) = c.report := by
    by_cases inp : c.fn = .inp
    · simp [inp, reportBit]
    · simp [inp, (input inp).2]
  have startHigh :
      ((decide (c.fn = .out) || decide (c.fn = .fan)) && decide (imageByte img (102 + 3 * n) / 16 % 2 = 1)) = c.startHigh := by
    by_cases out : c.fn = .out ∨ c.fn = .fan
    · simp [← Bool.decide_or, out, highBit]
    · simp [← Bool.decide_or, out, driven (not_or.mp out).1 (not_or.mp out).2]
  have paired : (if c.fn = .fan then readPaired (imageByte img (103 + 3 * n)) else some none) = some c.paired := by
    split
    next =>
      rw [show 103 + 3 * n = 101 + 3 * n + 2 by omega]
      exact readPaired_byte (place 2)
    next other => rw [fan other]
  rw [readLine_eq, fn, LineFn.ofCode_code, Option.bind_some, trigger, Option.bind_some, paired, Option.bind_some, report, startHigh]

/-! ### Where the records lie (R171) -/

theorem PathSettings.length_image (c : PathSettings) : c.image.length = 18 := rfl

theorem LineSettings.length_image (c : LineSettings) : c.image.length = 3 := rfl

section
variable {α β : Type} {f : α → List β} {k : Nat} (length : ∀ a, (f a).length = k)
include length

theorem length_flatMap_const (xs : List α) : (xs.flatMap f).length = k * xs.length := by
  simp [List.length_flatMap, length, Nat.mul_comm]

/-- Of records of one length the i-th begins after i lengths. -/
theorem drop_flatMap_const {xs : List α} {i : Nat} (inside : i < xs.length) :
    (xs.flatMap f).drop (k * i) = f xs[i] ++ (xs.drop (i + 1)).flatMap f := by
  have before : ((xs.take i).flatMap f).length = k * i := by
    rw [length_flatMap_const length, List.length_take, Nat.min_eq_left inside.le]
  conv_lhs => rw [← List.take_append_drop i xs, List.flatMap_append, List.drop_left' before, List.drop_eq_getElem_cons inside]
  rfl

end

/-- R171: bytes 0 to 28 of the image. -/
def Settings.front (c : Settings) : List Byte :=
  [0x62, 139, BitVec.ofNat 8 c.west, BitVec.ofNat 8 c.east, BitVec.ofNat 8 c.reach, BitVec.ofNat 8 c.statePeriod,
   BitVec.ofNat 8 (c.staleTime / 256), BitVec.ofNat 8 c.staleTime, BitVec.ofNat 8 (c.window / 256), BitVec.ofNat 8 c.window,
   BitVec.ofNat 8 (c.holdOff / 256), BitVec.ofNat 8 c.holdOff, BitVec.ofNat 8 c.foreignConfirm,
   BitVec.ofNat 8 (c.poolOn / 256), BitVec.ofNat 8 c.poolOn, BitVec.ofNat 8 (c.poolOff / 256), BitVec.ofNat 8 c.poolOff,
   BitVec.ofNat 8 (c.hotLimit / 256), BitVec.ofNat 8 c.hotLimit, BitVec.ofNat 8 (c.hotHysteresis / 256), BitVec.ofNat 8 c.hotHysteresis,
   BitVec.ofNat 8 (c.dyingLevel / 256), BitVec.ofNat 8 c.dyingLevel, BitVec.ofNat 8 (c.reviveLevel / 256), BitVec.ofNat 8 c.reviveLevel,
   BitVec.ofNat 8 (c.filterLimit / 256), BitVec.ofNat 8 c.filterLimit, BitVec.ofNat 8 (c.siteMargin / 256), BitVec.ofNat 8 c.siteMargin]

theorem Settings.image_eq (c : Settings) :
    c.image = c.front ++
      (c.paths.toList.flatMap PathSettings.image ++ (c.lines.toList.flatMap LineSettings.image ++ checkBytes c.fields)) := by
  simp only [Settings.image, Settings.fields, Settings.front, be16, List.append_assoc, List.cons_append, List.nil_append]

theorem Settings.image_drop_paths (c : Settings) :
    c.image.drop 29 =
      c.paths.toList.flatMap PathSettings.image ++ (c.lines.toList.flatMap LineSettings.image ++ checkBytes c.fields) := by
  rw [c.image_eq]
  exact List.drop_left' rfl

theorem Settings.image_drop_lines (c : Settings) :
    c.image.drop 101 = c.lines.toList.flatMap LineSettings.image ++ checkBytes c.fields := by
  have paths : (c.paths.toList.flatMap PathSettings.image).length = 72 := by
    rw [length_flatMap_const PathSettings.length_image, Vector.length_toList]
  rw [show 101 = 29 + 72 from rfl, ← List.drop_drop, c.image_drop_paths, List.drop_left' paths]

theorem Settings.image_drop_path (c : Settings) (p : Fin 4) :
    ∃ rest, c.image.drop (29 + 18 * p.val) = c.paths[p].image ++ rest := by
  have inside : p.val < c.paths.toList.length := by simp
  have record := drop_flatMap_const PathSettings.length_image inside
  have fits : 18 * p.val ≤ (c.paths.toList.flatMap PathSettings.image).length := by
    rw [length_flatMap_const PathSettings.length_image]
    omega
  rw [← List.drop_drop, c.image_drop_paths, List.drop_append_of_le_length fits, record, List.append_assoc]
  exact ⟨_, rfl⟩

theorem Settings.image_drop_line (c : Settings) (n : Fin 12) :
    ∃ rest, c.image.drop (101 + 3 * n.val) = c.lines[n].image ++ rest := by
  have inside : n.val < c.lines.toList.length := by simp
  have record := drop_flatMap_const LineSettings.length_image inside
  have fits : 3 * n.val ≤ (c.lines.toList.flatMap LineSettings.image).length := by
    rw [length_flatMap_const LineSettings.length_image]
    omega
  rw [← List.drop_drop, c.image_drop_lines, List.drop_append_of_le_length fits, record, List.append_assoc]
  exact ⟨_, rfl⟩

theorem Settings.length_image (c : Settings) : c.image.length = 139 := by
  have rest : (c.image.drop 101).length = 38 := by
    rw [c.image_drop_lines, List.length_append, length_flatMap_const LineSettings.length_image, Vector.length_toList]
    rfl
  rw [List.length_drop] at rest
  omega

/-! ### The image read whole (R40, R171) -/

/-- R40, R171: the image of settings in range reads back as those settings. -/
theorem Settings.readFields_image {c : Settings} (inRange : c.inRange) : readFields c.image = some c := by
  obtain ⟨west, east, reach, reach', period, period', stale, stale', window, window', holdOff, holdOff', confirm, confirm', poolOn, poolOn',
    poolOff, poolOff', hot, hysteresis, hysteresis', dying, revive, filter, margin, margin', paths, lines⟩ := inRange
  have path (p : Nat) (inside : p < 4) : readPath c.image p = some c.paths[p] := by
    obtain ⟨rest, laid⟩ := c.image_drop_path ⟨p, inside⟩
    exact readPath_eq_some laid (paths ⟨p, inside⟩)
  have line (n : Nat) (inside : n < 12) : readLine c.image n = some c.lines[n] := by
    obtain ⟨rest, laid⟩ := c.image_drop_line ⟨n, inside⟩
    exact readLine_eq_some laid (lines ⟨n, inside⟩)
  have place (k : Nat) := congrArg (fun img : List Byte => img[k]?) c.image_eq
  have format : ranged 0x62 0x62 (imageByte c.image 0) = some 0x62 := ranged_byte (place 0) (by decide) (by decide)
  have length : ranged 139 139 (imageByte c.image 1) = some 139 := ranged_byte (place 1) (by decide) (by decide)
  have west : ranged 0 60 (imageByte c.image 2) = some c.west := ranged_byte (place 2) (Nat.zero_le _) west
  have east : ranged 0 60 (imageByte c.image 3) = some c.east := ranged_byte (place 3) (Nat.zero_le _) east
  have reach := ranged_byte (place 4) reach reach'
  have period := ranged_byte (place 5) period period'
  have stale := ranged_word (place 6) (place 7) stale stale'
  have window := ranged_word (place 8) (place 9) window window'
  have holdOff := ranged_word (place 10) (place 11) holdOff holdOff'
  have confirm := ranged_byte (place 12) confirm confirm'
  have poolOn := ranged_word (place 13) (place 14) poolOn poolOn'
  have poolOff := ranged_word (place 15) (place 16) poolOff poolOff'
  have hot := ranged_word (place 17) (place 18) (Nat.zero_le _) hot
  have hysteresis := ranged_word (place 19) (place 20) hysteresis hysteresis'
  have dying := ranged_word (place 21) (place 22) (Nat.zero_le _) dying
  have revive := ranged_word (place 23) (place 24) (Nat.zero_le _) revive
  have filter := ranged_word (place 25) (place 26) (Nat.zero_le _) filter
  have margin := ranged_word (place 27) (place 28) margin margin'
  have pathVector : #v[c.paths[0], c.paths[1], c.paths[2], c.paths[3]] = c.paths := by
    ext i bound : 1
    interval_cases i <;> rfl
  have lineVector : #v[c.lines[0], c.lines[1], c.lines[2], c.lines[3], c.lines[4], c.lines[5], c.lines[6], c.lines[7], c.lines[8],
      c.lines[9], c.lines[10], c.lines[11]] = c.lines := by
    ext i bound : 1
    interval_cases i <;> rfl
  rw [readFields, format, length, west, east, reach, period, stale, window, holdOff, confirm, poolOn, poolOff, hot, hysteresis,
    dying, revive, filter, margin, path 0 (by decide), path 1 (by decide), path 2 (by decide), path 3 (by decide), line 0 (by decide),
    line 1 (by decide), line 2 (by decide), line 3 (by decide), line 4 (by decide), line 5 (by decide), line 6 (by decide),
    line 7 (by decide), line 8 (by decide), line 9 (by decide), line 10 (by decide), line 11 (by decide)]
  refine congrArg some ?_
  rw [pathVector, lineVector]

/-- Settles O8: the fields of the image read back, and its check is good. -/
theorem imageLayoutRoundTrip : Obligations.ImageLayoutRoundTrip := fun c _ inRange sound =>
  ⟨c.length_image, judgeImage_adopted (crc_append_checkBytes c.fields) (Settings.readFields_image inRange) sound⟩

end Sys2Proof.Machine
end

section
/-! SUPPORT. The STATE body and the NOTICE bodies byte by byte (R158, R160, 12.2, 12.3), and what a neighbour reads back of them. It settles
O37. -/

namespace Sys2Proof.Machine
open Sys2Proof

/-! ### Codes (R170) -/

theorem InputState.ofCode_code (st : InputState) : InputState.ofCode st.code = some st := by cases st <;> rfl

theorem Verdict.ofCode_code (v : Verdict) : Verdict.ofCode v.code = some v := by cases v <;> rfl

theorem InputState.code_le (st : InputState) : st.code ≤ 4 := by cases st <;> decide

theorem Verdict.code_le (v : Verdict) : v.code ≤ 10 := by cases v <;> decide

theorem Owner.code_le (o : Owner) : o.code ≤ 2 := by cases o <;> decide

theorem LinkState.code_le (l : LinkState) : l.code ≤ 2 := by cases l <;> decide

theorem PilotMode.isFill_eq (m : PilotMode) : m.isFill = decide (m = .fill) := by cases m <;> rfl

theorem PilotMode.ofBit_isFill (m : PilotMode) : PilotMode.ofBit m.isFill = m := by cases m <;> rfl

/-! ### Bytes -/

theorem byte_toNat {n : Nat} (small : n < 256) : (byte n).toNat = n := by
  rw [byte, BitVec.toNat_ofNat, Nat.mod_eq_of_lt small]

theorem bitsValue_lt (bs : List Bool) : bitsValue bs < 2 ^ bs.length := by
  induction bs with
  | nil => decide
  | cons b bs ih =>
    have bound := b.toNat_le
    rw [bitsValue, List.length_cons, Nat.pow_succ]
    omega

/-- 12.2: a path's first byte in a STATE body, its kind and input state above three flags. -/
theorem statePathByte_fields {kind input : Nat} (kinds : kind < 4) (inputs : input < 8) (fill low high : Bool) :
    let b := byte (64 * kind + 8 * input + bit fill 2 + bit low 1 + bit high 0)
    b.toNat / 64 = kind ∧ b.toNat / 8 % 8 = input ∧ b.getLsbD 0 = high ∧ b.getLsbD 1 = low ∧ b.getLsbD 2 = fill := by
  have value : 64 * kind + 8 * input + bit fill 2 + bit low 1 + bit high 0 =
      2 ^ 3 * (8 * kind + input) + bitsValue [high, low, fill] := by
    simp only [bit_eq, bitsValue]
    omega
  have flags : bitsValue [high, low, fill] < 2 ^ 3 := bitsValue_lt _
  have bits {i : Nat} (inside : i < 3) :
      (byte (2 ^ 3 * (8 * kind + input) + bitsValue [high, low, fill])).getLsbD i = [high, low, fill].getD i false := by
    rw [byte, BitVec.getLsbD_ofNat, Nat.testBit_two_pow_mul_add _ flags, if_pos inside, bitsValue_testBit]
    simp [show i < 8 by omega]
  dsimp only
  rw [value]
  refine ⟨?_, ?_, bits (by decide), bits (by decide), bits (by decide)⟩
  · rw [byte_toNat (by omega)]
    omega
  · rw [byte_toNat (by omega)]
    omega

/-- R170: the two bytes of a LINE MASK, with bits 12 to 15 zero. -/
theorem lineMask_twelve (f : Fin 12 → Bool) :
    ∃ hi lo : Byte, lineMask f = [hi, lo] ∧ (∀ n : Fin 12, (hi ++ lo).getLsbD n.val = f n) ∧ hi.toNat < 16 := by
  have small : maskValue f < 4096 := by simpa [maskValue_eq] using bitsValue_lt (List.ofFn f)
  obtain ⟨hi, lo, mask, bits⟩ := lineMask_bytes f
  have high : BitVec.ofNat 8 (maskValue f / 256) = hi := (List.cons.inj mask).1
  refine ⟨hi, lo, mask, bits, ?_⟩
  rw [← high, BitVec.toNat_ofNat]
  omega

/-! ### The STATE body (R158, 12.2) -/

theorem byte_outcomeCode (o : StartOutcome) : byte (outcomeCode (some o)) = if o = .loaded then 0 else 1 := by cases o <;> rfl

/-- 12.2: the link states in one byte. -/
theorem linkByte_toNat (west east : LinkState) : (byte (west.code + 4 * east.code)).toNat = west.code + 4 * east.code := by
  have bounds : west.code ≤ 2 ∧ east.code ≤ 2 := ⟨west.code_le, east.code_le⟩
  exact byte_toNat (by omega)

/-- 12.2: the STATE body, given its two masks. -/
theorem State.stateBody_eq {s : State} {f1 f0 l1 l0 : Byte} (stalls : s.stu.stallMask = [f1, f0]) (levels : s.stu.levelMask = [l1, l0]) :
    s.stateBody =
      byte (outcomeCode s.cfl.outcome) :: byte (reasonCode s.cfl.reason) ::
      (s.statePath 0 ++ (s.statePath 1 ++ (s.statePath 2 ++ (s.statePath 3 ++
      [byte (bit s.stu.dying 0 + bit s.stu.hot 1 + bit s.stu.filter 2), f1, f0, l1, l0,
       byte (s.nbv.west.stateFlags + 16 * s.nbv.east.stateFlags), byte (s.west.link.code + 4 * s.east.link.code),
       byte s.stu.total, byte s.poolInUse, byte s.rly.relayDrops, byte s.rly.malformed, byte s.rly.ownOrigin,
       byte s.rqh.dropped])))) := by
  rw [State.stateBody, stalls, levels]
  rfl

/-- 12.2: where the two bytes of a path lie in a STATE body. -/
theorem State.stateBody_path (s : State) (p : Fin 4) :
    s.stateBody.getD (2 + 2 * p.val) 0 = (s.statePath p).getD 0 0 ∧ s.stateBody.getD (3 + 2 * p.val) 0 = (s.statePath p).getD 1 0 :=
  match p with
  | 0 => ⟨rfl, rfl⟩
  | 1 => ⟨rfl, rfl⟩
  | 2 => ⟨rfl, rfl⟩
  | 3 => ⟨rfl, rfl⟩

theorem State.stateBody_length (s : State) : s.stateBody.length = 23 := rfl

/-- R122: the neighbour byte of a STATE body. -/
theorem stateFlags_eq (w e : NbRec) :
    w.stateFlags + 16 * e.stateFlags = bitsValue [w.heard, w.stale, w.cutOff, w.mismatch, e.heard, e.stale, e.cutOff, e.mismatch] :=
  eightFlags_eq ..

/-- R82: the pool lanes in use, counted. -/
theorem State.poolInUse_eq (s : State) :
    s.poolInUse = (List.finRange 16).countP fun i => decide (8 ≤ i.val ∧ s.tcr[i].state ≠ .free) := by
  rw [State.poolInUse, countFin, List.countP_eq_length_filter]
  congr 2
  funext i
  rw [Bool.decide_and, decide_not]
  rfl

/-- R114, 12.2: what a neighbour reads of a path in a STATE body. -/
def State.summaryOf (s : State) (p : Fin 4) : Summary :=
  { kind := some (s.kind p), input := some s.pmn[p].input, outputLow := some s.pmn[p].outputLow,
    pilot := some s.plg.osc[p].mode, verdict := some s.vde[p].verdict }

/-- 12.2: the fields of the two bytes of a path. -/
theorem State.statePath_fields (s : State) (p : Fin 4) :
    let b := (s.statePath p).getD 0 0
    b.toNat / 64 = (s.kind p).code ∧ b.toNat / 8 % 8 = s.pmn[p].input.code ∧ b.getLsbD 0 = s.pmn[p].biasHigh ∧
      b.getLsbD 1 = s.pmn[p].outputLow ∧ b.getLsbD 2 = s.plg.osc[p].mode.isFill ∧
      ((s.statePath p).getD 1 0).toNat = 16 * s.vde[p].verdict.code + s.vde[p].verdict.owner.code := by
  have kind := (s.kind p).code_le
  have input := s.pmn[p].input.code_le
  have verdict := s.vde[p].verdict.code_le
  have owner := s.vde[p].verdict.owner.code_le
  obtain ⟨kindBits, inputBits, high, low, fill⟩ := statePathByte_fields (show (s.kind p).code < 4 by omega)
    (show s.pmn[p].input.code < 8 by omega) s.plg.osc[p].mode.isFill s.pmn[p].outputLow s.pmn[p].biasHigh
  exact ⟨kindBits, inputBits, high, low, fill, byte_toNat (by omega)⟩

theorem State.readSummary_statePath (s : State) (p : Fin 4) :
    readSummary ((s.statePath p).getD 0 0) ((s.statePath p).getD 1 0) = some (s.summaryOf p) := by
  have owner := s.vde[p].verdict.owner.code_le
  obtain ⟨kind, input, -, low, fill, verdict⟩ := s.statePath_fields p
  have high : (16 * s.vde[p].verdict.code + s.vde[p].verdict.owner.code) / 16 = s.vde[p].verdict.code := by omega
  rw [readSummary, kind, input, verdict, high, PathKind.ofCode_code, InputState.ofCode_code, Verdict.ofCode_code, bitAt, bitAt, low,
    fill, PilotMode.ofBit_isFill]
  rfl

/-- R114: the STATE body reads back as the four paths. -/
theorem State.readStateBody_stateBody (s : State) : readStateBody s.stateBody = some (.ofFn s.summaryOf) := by
  refine (readStateBody_eq_some_iff _ _).mpr ⟨s.stateBody_length, fun p => ?_⟩
  obtain ⟨first, second⟩ := s.stateBody_path p
  rw [first, second, s.readSummary_statePath]
  simp

/-! ### The PATH notice (R160, 12.3) -/

/-- 12.3: the flag byte of a PATH notice. -/
theorem State.pathBody_getLsbD (s : State) (p : Fin 4) (prompted : Bool) (i : Nat) :
    ((s.pathBody p prompted).getD 3 0).getLsbD i =
      [s.vde[p].late, prompted, s.pmn[p].outputLow, s.pmn[p].biasHigh, s.plg.osc[p].mode.isFill, s.pmn[p].lossStamp.isSome].getD i
        false := by
  refine Eq.trans ?_ (byte_getLsbD (by simp) i)
  rw [← pathFlags_eq]
  rfl

/-- R115, R119, 12.3: what a neighbour reads of a PATH notice. -/
def State.reportOf (s : State) (p : Fin 4) (prompted : Bool) : PathReport :=
  { path := p, verdict := s.vde[p].verdict, input := s.pmn[p].input, outputLow := s.pmn[p].outputLow,
    pilot := s.plg.osc[p].mode, prompted := prompted, fedBy := s.settings.paths[p].upstream.val }

theorem State.readPathNotice_pathBody (s : State) (p : Fin 4) (prompted : Bool) :
    readPathNotice (s.pathBody p prompted) p = some (.path (s.reportOf p prompted)) := by
  have verdictCode := s.vde[p].verdict.code_le
  have inputCode := s.pmn[p].input.code_le
  have length : (s.pathBody p prompted).length = 15 := rfl
  have verdict : ((s.pathBody p prompted).getD 1 0).toNat = s.vde[p].verdict.code := byte_toNat (by omega)
  have input : ((s.pathBody p prompted).getD 4 0).toNat = s.pmn[p].input.code := byte_toNat (by omega)
  have upstream : ((s.pathBody p prompted).getD 5 0).toNat = s.settings.paths[p].upstream.val := byte_toNat (by omega)
  have bits := s.pathBody_getLsbD p prompted
  have isPrompted : ((s.pathBody p prompted).getD 3 0).getLsbD 1 = prompted := bits 1
  have low : ((s.pathBody p prompted).getD 3 0).getLsbD 2 = s.pmn[p].outputLow := bits 2
  have fill : ((s.pathBody p prompted).getD 3 0).getLsbD 4 = s.plg.osc[p].mode.isFill := bits 4
  simp only [readPathNotice, length, if_true, verdict, Verdict.ofCode_code, input, InputState.ofCode_code, bitAt, isPrompted, low, fill,
    PilotMode.ofBit_isFill, upstream, State.reportOf, Option.bind_eq_bind, Option.bind_some, Option.pure_def]

/-- 12.3: the PATH notice reads back as its report. -/
theorem State.readNoticeBody_pathBody (s : State) (p : Fin 4) (prompted : Bool) :
    readNoticeBody (s.pathBody p prompted) = some (.path (s.reportOf p prompted)) := by
  have subject : (byte p.val).toNat = p.val := byte_toNat (by omega)
  have path : (⟨(byte p.val).toNat, by omega⟩ : Fin 4) = p := Fin.ext subject
  refine (readNoticeBody_path (subject := byte p.val) (rest := (s.pathBody p prompted).tail) (by omega)).trans ?_
  rw [path]
  exact s.readPathNotice_pathBody p prompted

/-! ### The POWER notice and the subjects of no report (R112, R160, 12.3) -/

theorem byte_bit (b : Bool) : byte (bit b 0) = if b then 1 else 0 := by cases b <;> rfl

theorem twoFlags_eq (a b : Bool) : bit a 0 + bit b 1 = bitsValue [a, b] := by
  simp only [bit_eq, bitsValue]
  omega

/-- R116: the POWER notice reads back as its form. -/
theorem State.readNoticeBody_power (s : State) (prompted : Bool) :
    readNoticeBody (s.noticeBody .power prompted) = some (.power s.stu.dying) :=
  readNoticeBody_eq_power rfl rfl (byte_bit _)

/-- R112: the other subjects say nothing to NBV. -/
theorem State.readNoticeBody_noReport (s : State) (prompted : Bool) {x : Subject}
    (other : x = .climate ∨ x = .lines ∨ x = .tone ∨ x = .test) : readNoticeBody (s.noticeBody x prompted) = some .other := by
  rcases other with rfl | rfl | rfl | rfl
  · exact (readNoticeBody_other (by decide)).trans (if_pos (.inl ⟨rfl, rfl⟩))
  all_goals exact (readNoticeBody_other (by decide)).trans (if_pos (.inr ⟨by decide, by decide, rfl⟩))

/-! ### The TONE notice (R160, 12.3) -/

/-- 12.3: a byte of the TONE body, one bit for each pool lane. -/
theorem poolByte_getLsbD (f : Fin 16 → Bool) {i : Fin 16} (pool : 8 ≤ i.val) :
    (byte ((List.finRange 16).foldl (fun a i => if 8 ≤ i.val then a + bit (f i) (i.val - 8) else a) 0)).getLsbD (i.val - 8) = f i := by
  have sum : (List.finRange 16).foldl (fun a i => if 8 ≤ i.val then a + bit (f i) (i.val - 8) else a) 0 =
      0 + bit (f 8) 0 + bit (f 9) 1 + bit (f 10) 2 + bit (f 11) 3 + bit (f 12) 4 + bit (f 13) 5 + bit (f 14) 6 + bit (f 15) 7 := rfl
  have value : 0 + bit (f 8) 0 + bit (f 9) 1 + bit (f 10) 2 + bit (f 11) 3 + bit (f 12) 4 + bit (f 13) 5 + bit (f 14) 6 + bit (f 15) 7 =
      bitsValue [f 8, f 9, f 10, f 11, f 12, f 13, f 14, f 15] := by
    simp only [bit_eq, bitsValue]
    omega
  rw [sum, value, byte_getLsbD (by simp)]
  have lane := getD_ofFn_append (fun k : Fin 8 => f ⟨8 + k.val, by omega⟩) [] ⟨i.val - 8, by omega⟩
  refine lane.trans (congrArg f (Fin.ext ?_))
  dsimp only
  omega

/-- 12.3: the pair byte of the TONE body, four flags above four others. -/
theorem pairByte_getLsbD (f g : Fin 4 → Bool) (k : Fin 4) :
    (byte (bit (f 0) 0 + bit (f 1) 1 + bit (f 2) 2 + bit (f 3) 3 + bit (g 0) 4 + bit (g 1) 5 + bit (g 2) 6 + bit (g 3) 7)).getLsbD k.val =
        f k ∧
      (byte (bit (f 0) 0 + bit (f 1) 1 + bit (f 2) 2 + bit (f 3) 3 + bit (g 0) 4 + bit (g 1) 5 + bit (g 2) 6 + bit (g 3) 7)).getLsbD
        (4 + k.val) = g k := by
  rw [neighbourFlags_eq, byte_getLsbD (by simp), byte_getLsbD (by simp)]
  exact eightFlags_getD f g k

/-- The even lane of pair position k of the pool (R68). -/
def pairLane (k : Fin 4) : Fin 16 := ⟨8 + 2 * k.val, by omega⟩

/-- Whether lane i belongs to a pair in use. -/
def State.pairHeld (s : State) (i : Fin 16) : Bool := s.tcr[i].state != .free && s.tcr[i].partner.isSome

theorem LaneState.bne_free (st : LaneState) : (st != .free) = decide (st ≠ .free) := by cases st <;> rfl

theorem State.pairHeld_eq (s : State) (i : Fin 16) :
    s.pairHeld i = (decide (s.tcr[i].state ≠ .free) && s.tcr[i].partner.isSome) := by
  rw [State.pairHeld, LaneState.bne_free]

theorem State.toneBody_pairs (s : State) (k : Fin 4) :
    (s.toneBody.getD 4 0).getLsbD k.val = s.pairHeld (pairLane k) ∧
      (s.toneBody.getD 4 0).getLsbD (4 + k.val) = (s.pairHeld (pairLane k) && s.tcr[pairLane k].combined) :=
  pairByte_getLsbD (fun k => s.pairHeld (pairLane k)) (fun k => s.pairHeld (pairLane k) && s.tcr[pairLane k].combined) k

/-- Settles O37: each body is a list of bytes at fixed places; flags and masks go through `bitsValue`, and the readers take the codes back
from the bytes that carry them. -/
theorem stateAndNoticeBodiesCarryTheRecords : Obligations.StateAndNoticeBodiesCarryTheRecords := by
  refine ⟨fun s => ?state, fun s p prompted => ?path, fun s prompted => ?others, fun n small => ⟨_, _, rfl, val16_be16 small⟩,
    fun x => ⟨_, _, _, _, rfl, stamp_of_be32 x⟩, fun v => ?owner, rfl, rfl, rfl, rfl, rfl, rfl⟩
  case owner => cases v <;> rfl
  case state =>
    obtain ⟨f1, f0, stalls, stallBit, stallHigh⟩ := lineMask_twelve fun n => s.stu.lines[n].fanStall
    obtain ⟨l1, l0, levels, levelBit, levelHigh⟩ := lineMask_twelve fun n => s.stu.lines[n].level
    have body := State.stateBody_eq (s := s) stalls levels
    refine ⟨_, _, rfl, s.stateBody_length, s.readStateBody_stateBody, fun o outcome => ?outcome, fun r reason => ?reason,
      fun p => ⟨by simp [State.summaryOf], ?fields⟩, ?site, fun n => ⟨?stall, ?level⟩, ?stallHigh, ?levelHigh, ?neighbours, ?links,
      ?counts⟩
    case outcome =>
      rw [← byte_outcomeCode, ← outcome]
      rfl
    case reason =>
      have second : s.stateBody.getD 1 0 = byte (reasonCode s.cfl.reason) := rfl
      rw [second, reason]
      cases r <;> rfl
    case fields =>
      obtain ⟨first, second⟩ := s.stateBody_path p
      obtain ⟨kind, input, high, low, fill, verdict⟩ := s.statePath_fields p
      rw [first, second, ← PilotMode.isFill_eq, ← high, ← low, ← fill]
      exact ⟨kind, input, rfl, verdict⟩
    case site => exact byte_flags (by simp) (threeFlags_eq ..)
    case neighbours => exact byte_flags (by simp) (stateFlags_eq ..)
    all_goals rw [body]
    case stall => exact stallBit n
    case level => exact levelBit n
    case stallHigh => exact stallHigh
    case levelHigh => exact levelHigh
    case links => exact linkByte_toNat ..
    case counts => rw [← s.poolInUse_eq]; rfl
  case path =>
    refine ⟨_, rfl, rfl, s.readNoticeBody_pathBody p prompted, rfl, ?_, rfl⟩
    rw [← PilotMode.isFill_eq]
    exact List.map_congr_left fun i _ => s.pathBody_getLsbD p prompted i
  case others =>
    obtain ⟨f1, f0, stalls, stallBit, stallHigh⟩ := lineMask_twelve fun n => s.stu.lines[n].fanStall
    obtain ⟨l1, l0, levels, levelBit, levelHigh⟩ := lineMask_twelve fun n => s.stu.lines[n].level
    obtain ⟨g1, g0, flags, flagBit, flagHigh⟩ := lineMask_twelve fun n => s.stu.lines[n].flag
    refine ⟨?power, s.readNoticeBody_power prompted,
      ⟨byte (bit s.stu.hot 0 + bit s.stu.filter 1), f1, f0, ?climate, byte_flags (by simp) (twoFlags_eq ..), stallBit, stallHigh⟩,
      ⟨l1, l0, g1, g0, ?lines, fun n => ⟨levelBit n, flagBit n⟩, levelHigh, flagHigh⟩,
      ⟨_, _, _, _, rfl, fun i pool => ⟨?used, poolByte_getLsbD (fun i => s.tcr[i].present) pool,
        poolByte_getLsbD (fun i => s.tcr[i].limit) pool⟩, fun k i even => ?pair⟩, ?test,
      fun x other => s.readNoticeBody_noReport prompted other⟩
    case power => rw [← byte_bit]; rfl
    case climate =>
      have mask : s.stu.stallMask = [f1, f0] := stalls
      rw [State.noticeBody, mask]
      rfl
    case lines =>
      have levelMask : s.stu.levelMask = [l1, l0] := levels
      have flagMask : s.stu.flagMask = [g1, g0] := flags
      rw [State.noticeBody, levelMask, flagMask]
      rfl
    case used => exact (poolByte_getLsbD (fun i => s.tcr[i].state != .free) pool).trans (LaneState.bne_free _)
    case pair =>
      obtain rfl : i = pairLane k := Fin.ext even
      rw [← s.pairHeld_eq]
      exact s.toneBody_pairs k
    case test => cases held : s.ttg.held <;> simp [State.noticeBody, stationOr, held, byte]

end Sys2Proof.Machine
end
